-- ==== Sys2Proof/Word.lean ====
section
/-! DEFINITION. The word types of the SKW-9256 model: bytes, wrapping counters and sparse tables (R7, R8). -/

namespace Sys2Proof

/-- One byte of a packet, a record, a register window or a memory. -/
abbrev Byte := BitVec 8

/-- A counter or register of 16 bits, which wraps at 2^16 where a rule says so. -/
abbrev U16 := BitVec 16

/-- A counter or register of 32 bits, which wraps at 2^32 where a rule says so. -/
abbrev U32 := BitVec 32

/-- A register of 64 bits. -/
abbrev U64 := BitVec 64

/-- A sparse table: numbered objects in strictly rising order of their number.
An object that is not listed is at its reset value. -/
abbrev Tbl (α : Type) := List (Nat × α)

/-- A byte memory: address and byte, addresses strictly rising, no listed byte equal to what an unlisted
address reads as. -/
abbrev Memory := List (Nat × Byte)

end Sys2Proof
end

