-- ==== Sys2Proof/Syntax.lean ====
section
/-! DEFINITION. The commands of the SKW-9256: one constructor for each row of spec/opcode_table.json.
A row that names an opcode of R447 takes the request that arrives for it. A row that names a register access, a
transport transaction, a pin or a happening of the hardware takes what that happening carries. A happening that
the time base drives takes `at_`, its instant in nanoseconds since the PTP epoch (R306). -/

namespace Sys2Proof

/-- The two PCIe command ports (R31). -/
inductive PcieSide where
  | cpa
  | cpb
deriving DecidableEq, Repr

/-- Where a packet arrives: a command port (R31), or Voxad link Vnn (R54, R178). -/
inductive Port where
  | cpa
  | cpb
  | cpm
  | cpt
  | link (n : Nat)
deriving DecidableEq, Repr

/-- A request packet whose bytes have been received (R35): the header fields that a request chooses, and its
payload. The opcode is the command's own. On CPA and CPB it comes with its descriptor's ring index, reply address and
reply buffer size (R45); on a link, with the VC and the txid of its transaction (R179). `late` is the device's own mark on
a command of its timed list whose instant was passed over (R315, R411). -/
structure Request where
  port : Port
  tag : Nat := 0
  flags : Nat := 0
  status : Nat := 0
  target : Nat := 0
  originator : Nat := 0
  etref : Nat := 0
  payload : List Byte := []
  slot : Nat := 0
  replyAddr : Nat := 0
  replyBytes : Nat := 4116
  vc : Nat := 1
  txid : Nat := 0
  late : Bool := false
deriving DecidableEq, Repr

/-- Which transfer of a ring failed (R46). -/
inductive RingTransfer where
  | descriptor
  | command
  | reply
  | event
deriving DecidableEq, Repr

/-- What a Voxad receiver sees where a block header is expected (R155). -/
structure HeaderSeen where
  /-- Character 0 is K28.1 with no disparity error. -/
  start : Bool
  /-- Character 1 is a valid D character. -/
  dataOk : Bool
  /-- The header stands exactly 64 characters after the previous one. -/
  onTime : Bool
  /-- The byte of character 1: block type and sequence. -/
  typeSeq : Byte
  /-- Code errors among the characters from this header to the next, those that a VC block's event reports left out (R145). -/
  codeErrors : Nat := 0
  /-- Disparity errors among them (R145). -/
  disparityErrors : Nat := 0
deriving DecidableEq, Repr

/-- Where a CONTROL message comes from: its link, and whether its block came intact, that is, its CRC-16 held and no character of
it was in error (R154). -/
structure ControlOrigin where
  link : Nat
  intact : Bool
deriving DecidableEq, Repr

/-- What a received VC block holds besides data (R145, R146, R151). -/
inductive BlockError where
  | none
  | code
  | disparity
  | poison
  /-- A K character other than K30.7: a code error (R146). -/
  | control
deriving DecidableEq, Repr

/-- What the read of one DRAM line or table entry finds (R278). -/
inductive EccSeen where
  | clean
  | corrected
  | uncorrectable
deriving DecidableEq, Repr

/-- The outcome of one DMA burst (R292, R295). -/
inductive BurstSeen where
  /-- The burst completed and moved these bytes. -/
  | moved (data : List Byte)
  /-- The burst met a fault cause of R295 at this VA. -/
  | faulted (cause : Nat) (va : Nat)
deriving DecidableEq, Repr

/-- The masters of the bus matrix, in the order of R299. -/
inductive Master where
  | core
  | rtDma
  | bgDma
  | walker
  | proof
  | voxad
  | bridge
  | folio
deriving DecidableEq, Repr

/-- One PTP message that reaches an instance (R321). -/
inductive PtpMsg where
  /-- An Announce of a master: its identity, clockClass, accuracy, variance, priority1, priority2,
  UTC offset and leap61 flag. -/
  | announce (gm : Nat) (clockClass accuracy variance prio1 prio2 : Nat) (utcOffset : Int) (leap61 : Bool)
  /-- A Sync of the selected master: departure and arrival, in ns, and the master's MAC and IPv4 addresses. -/
  | sync (t1 t2 : Nat) (mac : List Byte) (ip : Nat)
  /-- A Delay_Resp: the sequence of the Delay_Req that it answers, whose arrival at the master it gives, in ns. -/
  | delayResp (seq t4 : Nat)
deriving DecidableEq, Repr

/-- The samples of one source channel in one base tick: eight samples, oldest first (R212), and for an AES3 channel a bit for each
subframe with a parity error (R216). -/
structure ChannelBlock where
  channel : Nat
  samples : List Int
  parity : Nat := 0
deriving DecidableEq, Repr

/-- One component sample of a page at one pixel, after scaling (R266, R268). -/
structure PageSample where
  page : Nat
  y : Int
  cb : Int
  cr : Int
deriving DecidableEq, Repr

/-- One sheet pixel to compose, with the scaled samples of the pages that cover it (R268). -/
structure PixelIn where
  x : Nat
  row : Nat
  samples : List PageSample
deriving DecidableEq, Repr

/-- What one proof step or live pass found (R387, R391). -/
structure ProofSeen where
  passed : Bool
  coverage : Nat
  detail : Nat
  durationUs : Nat
deriving DecidableEq, Repr

/-- The straps sampled at a reset release (R419). -/
structure Straps where
  role : Bool := false
  twinPos : Bool := false
  bootSrc : Bool := false
  clusterId : Nat := 0
deriving DecidableEq, Repr

/-- The commands of the device. -/
inductive Instr where
  -- command ports, rings and window (R44 to R53)
  | cmdDoorbell (side : PcieSide) (index : Nat)
  | evtDoorbell (side : PcieSide) (index : Nat)
  | cmdRingEnSet (side : PcieSide)
  | cmdRingEnClear (side : PcieSide)
  | evtRingEnSet (side : PcieSide)
  | evtRingEnClear (side : PcieSide)
  | ringErrClear (side : PcieSide)
  | registerWrite (side : PcieSide) (offset : Nat) (data : List Byte)
  | remapWrite (remap : Bool)
  | descriptorFetch (side : PcieSide) (descriptor packet : List Byte)
  | ringDmaFailure (side : PcieSide) (transfer : RingTransfer)
  | replyWrite (side : PcieSide)
  | pcieFunctionReset (side : PcieSide) (linkLost : Bool)
  | pcieL1Exit (side : PcieSide)
  | windowRead (address count : Nat)
  | packetWrite (packet : List Byte)
  | replyRead
  | portStatus
  | cpmChipSelect
  | pktIn (packet : List Byte)
  | pktOut
  | window
  | bypass
  | idcode
  | samplePreload (bits : List Bool)
  | extest (bits : List Bool)
  | extestPulse (bits : List Bool)
  | extestTrain (bits : List Bool)
  | cptInstructionUpdate (ir : Byte)
  | undefinedOpcodeRequest (opcode : Nat) (rq : Request)
  | timedCommandDue (at_ : Nat)
  | heartbeat (at_ : Nat)
  | deviceInfo (rq : Request)
  | statusRead (rq : Request)
  | eventConfig (rq : Request)
  | portCounters (rq : Request)
  -- lattice (R58 to R93)
  | formeOpen (rq : Request)
  | formeEntries (rq : Request)
  | formeClose (rq : Request)
  | formeSchedule (rq : Request)
  | formeCancel (rq : Request)
  | routeSet (rq : Request)
  | formeInfo (rq : Request)
  | formeRead (rq : Request)
  | destStatus (rq : Request)
  | trunkSet (rq : Request)
  | trunkInfo (rq : Request)
  | keepConfig (rq : Request)
  | keepInfo (rq : Request)
  | formeHorizon (forme at_ : Nat)
  | lockupArm (forme at_ : Nat)
  | switchInstant (dest at_ : Nat)
  | phaseMeasurement (lane : Nat) (phase : Int) (at_ : Nat)
  | outputFrameStart (dest at_ : Nat)
  | keepRecordWrite (at_ : Nat)
  -- lanes and SDI (R94 to R119)
  | laneRoleSet (rq : Request)
  | sdiRxConfig (rq : Request)
  | sdiTxConfig (rq : Request)
  | octantFamily (rq : Request)
  | bondSet (rq : Request)
  | ancFilterSet (rq : Request)
  | laneTableWrite (rq : Request)
  | laneTableCommit (rq : Request)
  | laneTableCommitDone
  | laneTableCommitTimeout
  | laneTableInfo (rq : Request)
  | laneInfo (rq : Request)
  | sdiRxStatus (rq : Request)
  | rxLock (lane rateClass : Nat) (family : Bool) (format carriage : Nat)
  | rxLoss (lane cause : Nat)
  | formatChange (lane format carriage : Nat)
  | payloadIdReceived (lane : Nat) (valid : Bool) (payloadId : Nat) (format : Nat) (sampling422 : Bool)
      (carriage : Nat)
  | bondSkew (lane skew : Nat) (member : Bool)
  -- Ethernet MACs and media flows (R120 to R144)
  | macConfig (rq : Request)
  | macFilterSet (rq : Request)
  | macStatus (rq : Request)
  | clsEntrySet (rq : Request)
  | clsRebuildOpen (rq : Request)
  | clsRebuildWrite (rq : Request)
  | clsRebuildCommit (rq : Request)
  | clsRead (rq : Request)
  | rxFlowConfig (rq : Request)
  | txFlowConfig (rq : Request)
  | flowStatus (rq : Request)
  | frameTx (rq : Request)
  | frameRxRead (rq : Request)
  | ptpPortSet (rq : Request)
  | ethFrameReceived (mac : Nat) (frame : List Byte) (at_ : Nat)
  | pauseExpiry (mac priority at_ : Nat)
  | flowLoss (flow at_ : Nat)
  | entryAged (set way at_ : Nat)
  | packetLaunch (flow waitA waitB at_ : Nat)
  | frameLaunch (mac due at_ : Nat)
  | preemptVerify (mac : Nat) (passed : Bool)
  | linkUp (mac : Nat)
  | ethLinkDown (mac cause : Nat)
  -- Voxad links (R145 to R169)
  | signalDetected (lane : Nat)
  | signalLost (lane : Nat)
  | commaDetected (lane : Nat) (samePosition : Bool)
  | blockHeader (lane : Nat) (seen : HeaderSeen)
  | huntTimeout (lane : Nat)
  | vcBlockReceived (link vc : Nat) (block : List Byte) (err : BlockError) (at_ : Nat)
  | trainBlockReceived (link member : Nat) (block : List Byte)
  | credit (origin : ControlOrigin) (vc count : Nat)
  | hold (origin : ControlOrigin) (mask us : Nat)
  | linkDown (origin : ControlOrigin) (reason : Nat)
  | unknownControl (origin : ControlOrigin) (code : Nat)
  | wakeBurstEnd (link : Nat)
  | retuneComplete (link : Nat)
  | stepTimeout (link : Nat)
  | noPeerTimeout (link : Nat)
  | linkRetry (link : Nat)
  | linkTrafficQueued (link : Nat)
  | creditSend (link : Nat)
  | holdRepeat (link at_ : Nat)
  | holdExpiry (link at_ : Nat)
  | linkConfig (rq : Request)
  | linkStatus (rq : Request)
  | linkCounters (rq : Request)
  | linkRetrain (rq : Request)
  -- hierarchy and system lock-up (R170 to R201)
  | nodeConfig (rq : Request)
  | roleSet (rq : Request)
  | hierConfig (rq : Request)
  | hierStatus (rq : Request)
  | routeRead (rq : Request)
  | nodePlanWrite (rq : Request)
  | join (rq : Request)
  | joinRetry (link at_ : Nat)
  | routeUpdate (rq : Request)
  | linkPacketReceived (link vc : Nat) (bytes : List Byte)
  | linkResponse (link vc : Nat) (bytes : List Byte)
  | transactionTimeout (link vc txid at_ : Nat)
  | routeWaitTimeout (tag originator at_ : Nat)
  | sysFormeStage (rq : Request)
  | sysFormePush (rq : Request)
  | sysFormePushDone (sysId : Nat)
  | sysFormeRun (rq : Request)
  | prepareAnswer (sysId node status errDest errReason : Nat)
  | sysDecisionTime (sysId at_ : Nat)
  | decisionExpiry (forme at_ : Nat)
  | sysFormeAbort (rq : Request)
  | sysFormeStatus (rq : Request)
  | formePush (rq : Request)
  | prepare (rq : Request)
  | commit (rq : Request)
  | abort (rq : Request)
  | lockupReport (rq : Request)
  | sysRunTimeout (sysId at_ : Nat)
  | snapshotAt (rq : Request)
  | snapshotLatched (snapId at_ : Nat)
  | snapshotKeepWrite
  | sysSnapshot (rq : Request)
  | migrateCut (rq : Request)
  | epochCut (process at_ : Nat)
  | folioOffer (rq : Request)
  | folioSegment (rq : Request)
  | folioEnd (rq : Request)
  | relayStatus (rq : Request)
  -- audio path (R202 to R234)
  | audioConfig (rq : Request)
  | audioRouteSet (rq : Request)
  | audioRouteRead (rq : Request)
  | aesPortConfig (rq : Request)
  | aesStatus (rq : Request)
  | aesStart (rq : Request)
  | aesPortRestart (rq : Request)
  | portRestarted (output : Bool) (port at_ : Nat)
  | audioFlowMap (rq : Request)
  | audioTrunkSet (rq : Request)
  | audioBufferSet (rq : Request)
  | audioBufferStatus (rq : Request)
  | silenceConfig (rq : Request)
  | safeloadWrite (rq : Request)
  | safeloadSwap (rq : Request)
  | safeloadDone (set at_ : Nat)
  | channelStatus (rq : Request)
  | audioTick (domainB : Bool) (at_ : Nat) (arrivals : List ChannelBlock)
  | gainApply (dest : Nat) (previous sample : Int) (at_ : Nat)
  | audioBlockMeasured (channel peak at_ : Nat)
  | silence (channel at_ : Nat)
  | aesBlockReceived (port : Nat) (sub : Bool) (status user : List Byte)
  | portLock (port rateMhz : Nat)
  | portLoss (port : Nat)
  | portRate (port rateMhz : Nat)
  | pairSlip (output : Bool) (port : Nat) (overflow : Bool) (at_ : Nat)
  | trigInEdge (rising : Bool) (at_ : Nat)
  | aesStartIndex (at_ : Nat)
  -- Chord engines (R235 to R261)
  | engineConfig (rq : Request)
  | engineStatus (rq : Request)
  | procCreate (rq : Request)
  | procDelete (rq : Request)
  | progWrite (rq : Request)
  | progCheck (rq : Request)
  | procPlace (rq : Request)
  | placeStarted (process epoch at_ : Nat)
  | procUnplace (rq : Request)
  | placeStopped (process epoch at_ : Nat)
  | procStatus (rq : Request)
  | delaySet (rq : Request)
  | dmRead (rq : Request)
  | engineTick (engine at_ : Nat)
  | pmUncorrectable (engine process at_ : Nat)
  -- imposition engine (R262 to R275)
  | sheetConfig (rq : Request)
  | sheetOrder (rq : Request)
  | pageSet (rq : Request)
  | pageRead (rq : Request)
  | impInputConfig (rq : Request)
  | sheetStatus (rq : Request)
  | sheetFrameStart (sheet at_ : Nat) (pixels : List PixelIn) (poisoned : List Nat)
  -- memory, plates, DMA and the bus matrix (R276 to R305)
  | plateAlloc (rq : Request)
  | plateFree (rq : Request)
  | plateZeroed (plate : Nat)
  | plateMap (rq : Request)
  | plateUnmap (rq : Request)
  | plateRead (rq : Request)
  | plateExport (rq : Request)
  | frameStoreInfo (rq : Request)
  | dmaSubmit (rq : Request)
  | dmaJobDone (channel : Nat)
  | dmaBurstDone (channel : Nat) (seen : BurstSeen)
  | dmaControlResume (rq : Request)
  | dmaControlSkip (rq : Request)
  | dmaControlAbort (rq : Request)
  | dmaStatus (rq : Request)
  | memStatus (rq : Request)
  | memConfig (rq : Request)
  | cacheStatus (rq : Request)
  | matrixStatus (rq : Request)
  | walkDone (va : Nat) (poisonedTable : Bool)
  | scrubRead (offset : Nat) (seen : EccSeen) (at_ : Nat)
  | readReq (link : Nat) (message : List Byte)
  | readData (link : Nat) (message : List Byte)
  | writeReq (link : Nat) (message : List Byte)
  | writeAck (link : Nat) (message : List Byte)
  | matrixTimeout (master : Master) (address : Nat)
  | decodeError (master : Master) (address : Nat)
  -- time, reference and clocks (R306 to R332)
  | timeRead (rq : Request)
  | timeSet (rq : Request)
  | refConfig (rq : Request)
  | refGlobal (rq : Request)
  | refStatus (rq : Request)
  | ptpConfig (rq : Request)
  | ptpStatus (rq : Request)
  | freqTrim (rq : Request)
  | captureConfig (rq : Request)
  | captureRead (rq : Request)
  | clkmonSet (rq : Request)
  | clockStatus (rq : Request)
  | tcConfig (rq : Request)
  | servoUpdate (at_ : Nat) (phaseNs freqErrorPptr : Int)
  | candidatePresent (index at_ : Nat) (phasePeriodNs : Option Nat) (offsetNs freqPpb : Int)
  | candidateAbsent (index at_ : Nat)
  | candidateQualified (index at_ : Nat) (offsetNs freqPpb : Int)
  | holdoverExpiry (at_ : Nat)
  | refSyncEdge (index at_ frac : Nat) (assigned : Nat)
  | ptpMessage (port : Nat) (msg : PtpMsg) (at_ : Nat)
  | timeSync (link : Nat) (message : List Byte) (arrivalNs : Nat)
  | delayReq (link : Nat) (message : List Byte) (arrivalNs arrivalFrac : Nat)
  | delayResp (link : Nat) (message : List Byte)
  | timeSyncSend (link at_ : Nat)
  | delayReqSend (link at_ : Nat)
  | ppsEdge (at_ frac : Nat)
  | clockWindow (clock count at_ : Nat)
  -- twins (R333 to R349)
  | twinConfig (rq : Request)
  | twinPair (rq : Request)
  | autoPair (at_ : Nat)
  | stateCopy (rq : Request)
  | settled (at_ : Nat)
  | twinSwap (rq : Request)
  | twinSwapDue (at_ : Nat)
  | twinStatus (rq : Request)
  | twinHealth (rq : Request)
  | mirrorStatusReceived (opcode tag status : Nat)
  | digestsSend (at_ : Nat)
  | digests (rq : Request)
  | digestMissed (dest kind index at_ : Nat)
  | healthSend (at_ : Nat)
  | health (rq : Request)
  | healthLate (at_ : Nat)
  | twinPeerChange (level : Bool) (at_ : Nat)
  | contention (at_ : Nat)
  -- faults and safe state (R350 to R367)
  | faultMessage (source kind detail at_ count : Nat)
  | faultLogEntry
  | selfParity (register at_ : Nat)
  | faultNRelease (at_ : Nat)
  | faultRead (rq : Request)
  | faultSeveritySet (rq : Request)
  | faultCounters (rq : Request)
  | faultAck (rq : Request)
  | safeClear (rq : Request)
  | faultNControl (rq : Request)
  | faultStatus (rq : Request)
  | faultInject (rq : Request)
  | snapshotRead (rq : Request)
  | watchdog (pc at_ : Nat)
  -- power (R368 to R383)
  | powerBudgetSet (rq : Request)
  | powerStatus (rq : Request)
  | wakeConfig (rq : Request)
  | domainStatus (rq : Request)
  | railStatus (rq : Request)
  | groupIdleExpiry (group at_ : Nat)
  | islandWakeRequest (domain : Nat)
  | dormantEntryStep (at_ : Nat)
  | wakeNLow (at_ : Nat)
  | wakeStep (at_ : Nat)
  | rail (index millivolts at_ : Nat)
  | tempRead (readings : List Int) (at_ : Nat)
  | kaBrownout
  -- proof runs (R384 to R393)
  | proofRun (rq : Request)
  | proofCancel (rq : Request)
  | proofResults (rq : Request)
  | proofLive (rq : Request)
  | proofStatus (rq : Request)
  | proofStepStart (at_ : Nat)
  | proofStepDone (test unit : Nat) (seen : ProofSeen) (at_ : Nat)
  | proofStepAbort (test unit at_ : Nat)
  | liveSlice (test unit : Nat) (seen : ProofSeen) (at_ : Nat)
  -- life cycle, keys and folios (R394 to R416)
  | lcStatus (rq : Request)
  | lcTransition (rq : Request)
  | lcProvision (rq : Request) (enrolled : Bool)
  | fuseBurnDone
  | keyInfo (rq : Request)
  | keyLoad (rq : Request)
  | keyImport (rq : Request)
  | keyDerive (rq : Request)
  | keyUse (rq : Request)
  | keyClear (rq : Request)
  | folioLoad (rq : Request)
  | folioStore (rq : Request)
  | folioStoreDone (flashOk : Bool)
  | folioActivate (rq : Request)
  | folioActivationDue (at_ : Nat)
  | controlPauseEnd (at_ : Nat)
  | trialConfirm (at_ : Nat)
  | folioStatus (rq : Request)
  | folioGolden (rq : Request)
  -- start-up and reset (R417 to R426)
  | powerOn
  | pwrgoodFall
  | resetNLow
  | resetRelease (straps : Straps) (at_ : Nat)
  | phaseClocks (xoGood : Bool) (at_ : Nat)
  | phaseFuses (at_ : Nat)
  | phaseRoot (readings : Nat) (at_ : Nat)
  | phaseJournal (at_ : Nat)
  | phaseFolio (tagOk : Bool) (at_ : Nat)
  | phaseDram (failed : Option Nat) (at_ : Nat)
  | phaseLoad (tagOk : Bool) (at_ : Nat)
  | phaseLanes (at_ : Nat)
  | phaseRestore (at_ : Nat)
  | phasePorts (at_ : Nat)
  | profileWrite (at_ : Nat)
  | legacyStatus (rq : Request)
  | legacyRoute (rq : Request)
  | legacyReset (rq : Request)
  | legacyResetDue (at_ : Nat)
  | legacyActivate (rq : Request)
  | folioGoldenDone (flashOk : Bool)
  | pcieLinkUp (side : PcieSide)
  | matrixRecoveryRelease
  | powerLoss
deriving DecidableEq, Repr

end Sys2Proof
end

