-- ==== Sys2Proof/Config.lean ====
section
/-! DEFINITION. What silicon and the factory fix, and the free values: constants without a body, so that no proof can
rest on a value that the spec leaves open. -/

namespace Sys2Proof.Config

/-- Die stepping (R50, window 0x02: reset value "Silicon"). -/
opaque stepping : BitVec 8

/-- Device serial number (R56). -/
opaque serial : BitVec 64

/-- The IDCODE register of the TAP (R53 names it and gives no value). -/
opaque idcode : BitVec 32

/-- The device secret that the boot ROM rebuilds from the fingerprint array (R397). -/
opaque deviceSecret : BitVec 384

/-- The folio signing key and the life-cycle authority's key that the factory put into K00 and K02 (R399): 97 bytes. -/
opaque k00 : BitVec 776
opaque k02 : BitVec 776

/-- The nonce of a draw of the device's random bit generator (R395). -/
opaque nonce : Nat → BitVec 32

/-- The count that the clock monitor expects of a PLL output at its nominal frequency (R326 gives PLL_T's alone). -/
opaque pllCount : Nat → Nat

/-- Frequency of PLL_V in a family, in Hz (R324 gives none). -/
opaque pllVHz : Bool → Nat

/-- What a read of a write-only register byte of BAR0 gives (R44 gives none), by its offset. -/
opaque writeOnly : Nat → BitVec 8

/-- What arrives at SDI input `lane` in its frame `n`, which no command of the table carries: the ST 291-1 packets of the frame,
each as DID, SDID, a byte of flags (bit 0 a right checksum, bit 1 set 2 of level B), and its data words (R111). -/
opaque sdiAnc : (lane n : Nat) → List (List (BitVec 8))

/-- Of the same frame: the lines with a CRC error, the TRS words with protection-bit errors, whether ST 12-2 ATC was received
(odd), and its ATC_LTC (R110), by `kind` 0 to 3. -/
opaque sdiFrame : (kind lane n : Nat) → Nat

/-- The four bytes of the ST 352 payload ID of a format and carriage (R111 names the standard). -/
opaque payloadId : (format carriage : Nat) → BitVec 32

/-- Byte `index` of the stored picture of frame `seq` of a source, where no command of the table carried it: an SDI input's
words, and what a store held before (R67, R290). -/
opaque pictureByte : (source seq index : Nat) → BitVec 8

/-- How many IDLE blocks a link sends before its block `n`, when time has passed since the one before (R152). -/
opaque idleBlocks : (link n : Nat) → Nat

/-- The first RTP sequence number of sender `flow` enabled at an instant (R137: "a value chosen at enable"). -/
opaque startSeq : (flow instant : Nat) → BitVec 32

/-- The uncorrectable RS-FEC codewords that MAC `mac` received before its frame `n` (R143), which no command carries. -/
opaque fecWords : (mac n : Nat) → Nat

/-- The IPv4 address from which PTP port `port` sends, and its 10-byte port identity: the spec gives no host address (R321). -/
opaque ptpAddress : (port : Nat) → BitVec 32
opaque ptpIdentity : (port : Nat) → BitVec 80

/-- Whether the first sample of a crossfade already has a 64th of the new source: R208 says linear over 64 samples, and no more. -/
opaque fadeLead : Bool

/-- A fresh value of one byte that the spec leaves open, drawn with the counter `ports.freeCtr`. -/
opaque freeByte : Nat → BitVec 8

/-- A fresh integer that the spec leaves open, drawn with the counter `ports.freeCtr`. -/
opaque freeInt : Nat → Int

end Sys2Proof.Config
end

