-- ==== Sys2Proof/Machine/Data.lean ====
section
/-! DEFINITION. Little-endian fields (R6), bits (R5), sparse tables, byte memories and the check codes of packets and
link headers (R36, R154). -/

namespace Sys2Proof

/-- A sequence of byte values, each taken modulo 256. -/
def bytes (l : List Nat) : List Byte := l.map (BitVec.ofNat 8)

/-- The little-endian value of a byte sequence (R6). -/
def leNat : List Byte → Nat
  | [] => 0
  | b :: bs => b.toNat + 256 * leNat bs

/-- The `n` bytes of a value, little-endian, higher bits dropped (R6). -/
def leBytes : Nat → Nat → List Byte
  | 0, _ => []
  | n + 1, v => BitVec.ofNat 8 v :: leBytes n (v / 256)

/-- `n` zero bytes. -/
def zeros (n : Nat) : List Byte := List.replicate n 0

/-- The unsigned little-endian field of `n` bytes at an offset; bytes beyond the end read as zero. -/
def fld (p : List Byte) (off n : Nat) : Nat := leNat ((p.drop off).take n)

def u8 (p : List Byte) (off : Nat) : Nat := fld p off 1
def u16 (p : List Byte) (off : Nat) : Nat := fld p off 2
def u32 (p : List Byte) (off : Nat) : Nat := fld p off 4
def u64 (p : List Byte) (off : Nat) : Nat := fld p off 8

/-- A value of `bits` bits read as two's complement (R7). -/
def signed (bits v : Nat) : Int := if v < 2 ^ (bits - 1) then v else (v : Int) - 2 ^ bits

def s8 (p : List Byte) (off : Nat) : Int := signed 8 (fld p off 1)
def s16 (p : List Byte) (off : Nat) : Int := signed 16 (fld p off 2)
def s32 (p : List Byte) (off : Nat) : Int := signed 32 (fld p off 4)

/-- The two's complement field of `bits` bits of an integer (R7). -/
def unsigned (bits : Nat) (v : Int) : Nat := (v % (2 ^ bits : Int)).toNat

/-- A signed field of `n` bytes, little-endian. -/
def leInt (n : Nat) (v : Int) : List Byte := leBytes n (unsigned (8 * n) v)

/-- Bit `i` of a value (R5). -/
def bit (v i : Nat) : Bool := v / 2 ^ i % 2 == 1

/-- Bits [hi:lo] of a value (R5). -/
def bits (v hi lo : Nat) : Nat := v / 2 ^ lo % 2 ^ (hi + 1 - lo)

/-- A flag as the value 0 or 1. -/
def flag (b : Bool) : Nat := if b then 1 else 0

/-- An integer held within a range. -/
def clamp (lo hi v : Int) : Int := if v < lo then lo else if v > hi then hi else v

/-- A value held at an upper bound (a saturating counter). -/
def sat (hi v : Nat) : Nat := if v > hi then hi else v

/-- The exact quotient of two integers rounded down, for a positive divisor. -/
def fdiv (a : Int) (b : Nat) : Int := Int.fdiv a b

/-- A natural number divided and rounded up. -/
def cdiv (a b : Nat) : Nat := (a + b - 1) / b

/-! Sparse tables. -/

def Tbl.get? {α : Type} (t : Tbl α) (k : Nat) : Option α :=
  match t with
  | [] => none
  | (i, v) :: r => if i = k then some v else Tbl.get? r k

/-- The object of number `k`, or the reset object `d` where none is listed. -/
def Tbl.at {α : Type} (t : Tbl α) (k : Nat) (d : α) : α := (Tbl.get? t k).getD d

/-- The table with object `k` written; the numbers stay in rising order. -/
def Tbl.put {α : Type} (t : Tbl α) (k : Nat) (v : α) : Tbl α :=
  match t with
  | [] => [(k, v)]
  | (i, w) :: r => if k < i then (k, v) :: (i, w) :: r else if k = i then (k, v) :: r else (i, w) :: Tbl.put r k v

/-- The table without object `k`. -/
def Tbl.del {α : Type} (t : Tbl α) (k : Nat) : Tbl α := t.filter (fun e => e.1 != k)

/-- The table with object `k` changed, starting from the reset object `d` where none is listed. -/
def Tbl.upd {α : Type} (t : Tbl α) (k : Nat) (d : α) (f : α → α) : Tbl α := Tbl.put t k (f (Tbl.at t k d))

/-- Every listed object changed. -/
def Tbl.map {α β : Type} (t : Tbl α) (f : Nat → α → β) : Tbl β := List.map (fun e => (e.1, f e.1 e.2)) t

/-- How many listed objects have a property. -/
def Tbl.count {α : Type} (t : Tbl α) (f : Nat → α → Bool) : Nat := (t.filter (fun e => f e.1 e.2)).length

/-- Whether a listed object has a property. -/
def Tbl.has {α : Type} (t : Tbl α) (f : Nat → α → Bool) : Bool := t.any (fun e => f e.1 e.2)

/-- The listed objects changed in order, each with the state threaded through. -/
def Tbl.keys {α : Type} (t : Tbl α) : List Nat := List.map Prod.fst t

/-! Byte memories. An unlisted address reads as zero. -/

def Memory.read (m : Memory) (a : Nat) : Byte := Tbl.at (α := Byte) m a 0

/-- One byte written: the list stays in rising order, and a zero byte is not listed. -/
def Memory.write (m : Memory) (a : Nat) (b : Byte) : Memory :=
  if b = 0 then Tbl.del (α := Byte) m a else Tbl.put (α := Byte) m a b

/-- `n` bytes from an address. -/
def Memory.readN (m : Memory) (a n : Nat) : List Byte := (List.range n).map (fun i => Memory.read m (a + i))

/-- A run of bytes written from an address, lowest address first. -/
def Memory.writeN (m : Memory) (a : Nat) : List Byte → Memory
  | [] => m
  | b :: bs => Memory.writeN (Memory.write m a b) (a + 1) bs

/-- A range of addresses cleared to zero. -/
def Memory.clear (m : Memory) (a n : Nat) : Memory := m.filter (fun e => e.1 < a || a + n ≤ e.1)

/-- The canonical form: addresses strictly rising, no listed byte equal to what an unlisted address reads as. -/
def Memory.wf : Memory → Bool
  | [] => true
  | (a, b) :: r => b != 0 && (match r with | [] => true | (a', _) :: _ => a < a') && Memory.wf r

/-! Check codes. -/

/-- One bit of CRC-32C, processed reflected (R36). -/
def crc32cBit (c : BitVec 32) : BitVec 32 :=
  if c.getLsbD 0 then (c >>> 1) ^^^ 0x82F63B78#32 else c >>> 1

/-- `n` bits of a reflected CRC-32. -/
def crcBits (f : BitVec 32 → BitVec 32) : Nat → BitVec 32 → BitVec 32
  | 0, c => c
  | n + 1, c => crcBits f n (f c)

/-- CRC-32C over a byte sequence (R36). -/
def crc32c (p : List Byte) : Nat :=
  ((p.foldl (fun c b => crcBits crc32cBit 8 (c ^^^ b.zeroExtend 32)) 0xFFFFFFFF#32) ^^^ 0xFFFFFFFF#32).toNat

/-- One bit of the CRC-16 of CONTROL blocks and transaction headers, not reflected (R154, R179). -/
def crc16Bit (c : BitVec 16) : BitVec 16 :=
  if c.getLsbD 15 then (c <<< 1) ^^^ 0x1021#16 else c <<< 1

/-- `n` bits of the CRC-16. -/
def crc16Bits : Nat → BitVec 16 → BitVec 16
  | 0, c => c
  | n + 1, c => crc16Bits n (crc16Bit c)

/-- The CRC-16 of a byte sequence (R154). -/
def crc16 (p : List Byte) : Nat :=
  (p.foldl (fun c b => crc16Bits 8 (c ^^^ ((b.zeroExtend 16 : BitVec 16) <<< (8 : Nat)))) 0xFFFF#16).toNat

/-- One bit of the Ethernet CRC-32, processed reflected (R122). -/
def crcEthBit (c : BitVec 32) : BitVec 32 :=
  if c.getLsbD 0 then (c >>> 1) ^^^ 0xEDB88320#32 else c >>> 1

/-- The Ethernet frame check sequence (R122). -/
def crcEth (p : List Byte) : Nat :=
  ((p.foldl (fun c b => crcBits crcEthBit 8 (c ^^^ b.zeroExtend 32)) 0xFFFFFFFF#32) ^^^ 0xFFFFFFFF#32).toNat

end Sys2Proof
end

