-- ==== Sys2Proof/Machine/Crypto.lean ====
section
/-! DEFINITION. The cryptography of chapter 17: SHA-384 and HMAC, the counter-mode KDF (R398), AES-256-GCM (R402, R404)
and ECDSA P-384 verification (R395, R404), as their standards define them. -/

namespace Sys2Proof.Crypto

/-! SHA-384 (FIPS 180-4). -/

/-- The round constants: fractional parts of the cube roots of the first 80 primes. -/
def shaK : List (BitVec 64) :=
  [0x428a2f98d728ae22#64, 0x7137449123ef65cd#64, 0xb5c0fbcfec4d3b2f#64, 0xe9b5dba58189dbbc#64,
   0x3956c25bf348b538#64, 0x59f111f1b605d019#64, 0x923f82a4af194f9b#64, 0xab1c5ed5da6d8118#64,
   0xd807aa98a3030242#64, 0x12835b0145706fbe#64, 0x243185be4ee4b28c#64, 0x550c7dc3d5ffb4e2#64,
   0x72be5d74f27b896f#64, 0x80deb1fe3b1696b1#64, 0x9bdc06a725c71235#64, 0xc19bf174cf692694#64] ++
  [0xe49b69c19ef14ad2#64, 0xefbe4786384f25e3#64, 0xfc19dc68b8cd5b5#64, 0x240ca1cc77ac9c65#64,
   0x2de92c6f592b0275#64, 0x4a7484aa6ea6e483#64, 0x5cb0a9dcbd41fbd4#64, 0x76f988da831153b5#64,
   0x983e5152ee66dfab#64, 0xa831c66d2db43210#64, 0xb00327c898fb213f#64, 0xbf597fc7beef0ee4#64,
   0xc6e00bf33da88fc2#64, 0xd5a79147930aa725#64, 0x6ca6351e003826f#64, 0x142929670a0e6e70#64] ++
  [0x27b70a8546d22ffc#64, 0x2e1b21385c26c926#64, 0x4d2c6dfc5ac42aed#64, 0x53380d139d95b3df#64,
   0x650a73548baf63de#64, 0x766a0abb3c77b2a8#64, 0x81c2c92e47edaee6#64, 0x92722c851482353b#64,
   0xa2bfe8a14cf10364#64, 0xa81a664bbc423001#64, 0xc24b8b70d0f89791#64, 0xc76c51a30654be30#64,
   0xd192e819d6ef5218#64, 0xd69906245565a910#64, 0xf40e35855771202a#64, 0x106aa07032bbd1b8#64] ++
  [0x19a4c116b8d2d0c8#64, 0x1e376c085141ab53#64, 0x2748774cdf8eeb99#64, 0x34b0bcb5e19b48a8#64,
   0x391c0cb3c5c95a63#64, 0x4ed8aa4ae3418acb#64, 0x5b9cca4f7763e373#64, 0x682e6ff3d6b2b8a3#64,
   0x748f82ee5defb2fc#64, 0x78a5636f43172f60#64, 0x84c87814a1f0ab72#64, 0x8cc702081a6439ec#64,
   0x90befffa23631e28#64, 0xa4506cebde82bde9#64, 0xbef9a3f7b2c67915#64, 0xc67178f2e372532b#64] ++
  [0xca273eceea26619c#64, 0xd186b8c721c0c207#64, 0xeada7dd6cde0eb1e#64, 0xf57d4f7fee6ed178#64,
   0x6f067aa72176fba#64, 0xa637dc5a2c898a6#64, 0x113f9804bef90dae#64, 0x1b710b35131c471b#64,
   0x28db77f523047d84#64, 0x32caab7b40c72493#64, 0x3c9ebe0a15c9bebc#64, 0x431d67c49c100d4c#64,
   0x4cc5d4becb3e42b6#64, 0x597f299cfc657e2a#64, 0x5fcb6fab3ad6faec#64, 0x6c44198c4a475817#64]

/-- The initial hash value: fractional parts of the square roots of the ninth to sixteenth primes. -/
def shaH : List (BitVec 64) :=
  [0xcbbb9d5dc1059ed8#64, 0x629a292a367cd507#64, 0x9159015a3070dd17#64, 0x152fecd8f70e5939#64,
   0x67332667ffc00b31#64, 0x8eb44a8768581511#64, 0xdb0c2e0d64f98fa7#64, 0x47b5481dbefa4fa4#64]

/-- Big-endian value of bytes. -/
def beNat (l : List Byte) : Nat := l.foldl (fun n b => n * 256 + b.toNat) 0

/-- Big-endian bytes of a value. -/
def toBe (n v : Nat) : List Byte := (leBytes n v).reverse

/-- Eight working variables. -/
structure Sha where
  a : BitVec 64
  b : BitVec 64
  c : BitVec 64
  d : BitVec 64
  e : BitVec 64
  f : BitVec 64
  g : BitVec 64
  h : BitVec 64
deriving DecidableEq, Repr

/-- The message schedule, newest word first: `n` more words. -/
def shaExpand : Nat → List (BitVec 64) → List (BitVec 64)
  | 0, w => w
  | n + 1, w =>
    let x := w.getD 14 0
    let y := w.getD 1 0
    let s0 := x.rotateRight 1 ^^^ x.rotateRight 8 ^^^ (x >>> (7 : Nat))
    let s1 := y.rotateRight 19 ^^^ y.rotateRight 61 ^^^ (y >>> (6 : Nat))
    shaExpand n ((w.getD 15 0 + s0 + w.getD 6 0 + s1) :: w)

/-- One round with its constant plus schedule word. -/
def Sha.round (v : Sha) (kw : BitVec 64) : Sha :=
  let s1 := v.e.rotateRight 14 ^^^ v.e.rotateRight 18 ^^^ v.e.rotateRight 41
  let ch := (v.e &&& v.f) ^^^ (~~~v.e &&& v.g)
  let t1 := v.h + s1 + ch + kw
  let s0 := v.a.rotateRight 28 ^^^ v.a.rotateRight 34 ^^^ v.a.rotateRight 39
  let maj := (v.a &&& v.b) ^^^ (v.a &&& v.c) ^^^ (v.b &&& v.c)
  { a := t1 + s0 + maj, b := v.a, c := v.b, d := v.c, e := v.d + t1, f := v.e, g := v.f, h := v.g }

/-- One 128-byte block. -/
def Sha.block (v : Sha) (m : List Byte) : Sha :=
  let w := (List.range 16).map (fun i => BitVec.ofNat 64 (beNat ((m.drop (8 * i)).take 8)))
  let ws := (shaExpand 64 w.reverse).reverse
  let u := (List.zipWith (· + ·) shaK ws).foldl Sha.round v
  { a := v.a + u.a, b := v.b + u.b, c := v.c + u.c, d := v.d + u.d, e := v.e + u.e, f := v.f + u.f, g := v.g + u.g, h := v.h + u.h }

/-- SHA-384 of a byte sequence: 48 bytes. -/
def sha384 (m : List Byte) : List Byte :=
  let padded := m ++ [0x80#8] ++ zeros ((239 - m.length % 128) % 128) ++ toBe 16 (8 * m.length)
  let k (i : Nat) := shaH.getD i 0
  let v : Sha := { a := k 0, b := k 1, c := k 2, d := k 3, e := k 4, f := k 5, g := k 6, h := k 7 }
  let u := (List.range (padded.length / 128)).foldl (fun v i => v.block ((padded.drop (128 * i)).take 128)) v
  [u.a, u.b, u.c, u.d, u.e, u.f].flatMap (fun x => toBe 8 x.toNat)

/-- HMAC-SHA-384. -/
def hmac (key msg : List Byte) : List Byte :=
  let k := if key.length > 128 then sha384 key else key
  let k := k ++ zeros (128 - k.length)
  sha384 (k.map (· ^^^ 0x5C#8) ++ sha384 (k.map (· ^^^ 0x36#8) ++ msg))

/-- The counter-mode KDF of R398: `bits` bits of output. -/
def kdf (key label context : List Byte) (bits : Nat) : List Byte :=
  ((List.range (cdiv bits 384)).flatMap (fun i =>
    hmac key (leBytes 4 (i + 1) ++ label ++ [0#8] ++ context ++ leBytes 4 bits))).take (bits / 8)

/-- The bytes of an ASCII label (R398). -/
def ascii (t : String) : List Byte := t.toList.map (fun c => BitVec.ofNat 8 c.toNat)

/-! AES-256 (FIPS 197). -/

/-- The substitution box. -/
def sbox : List (Byte) :=
  [99#8, 124#8, 119#8, 123#8, 242#8, 107#8, 111#8, 197#8, 48#8, 1#8, 103#8, 43#8, 254#8, 215#8, 171#8,
   118#8] ++
  [202#8, 130#8, 201#8, 125#8, 250#8, 89#8, 71#8, 240#8, 173#8, 212#8, 162#8, 175#8, 156#8, 164#8, 114#8,
   192#8] ++
  [183#8, 253#8, 147#8, 38#8, 54#8, 63#8, 247#8, 204#8, 52#8, 165#8, 229#8, 241#8, 113#8, 216#8, 49#8,
   21#8] ++
  [4#8, 199#8, 35#8, 195#8, 24#8, 150#8, 5#8, 154#8, 7#8, 18#8, 128#8, 226#8, 235#8, 39#8, 178#8, 117#8] ++
  [9#8, 131#8, 44#8, 26#8, 27#8, 110#8, 90#8, 160#8, 82#8, 59#8, 214#8, 179#8, 41#8, 227#8, 47#8, 132#8] ++
  [83#8, 209#8, 0#8, 237#8, 32#8, 252#8, 177#8, 91#8, 106#8, 203#8, 190#8, 57#8, 74#8, 76#8, 88#8, 207#8] ++
  [208#8, 239#8, 170#8, 251#8, 67#8, 77#8, 51#8, 133#8, 69#8, 249#8, 2#8, 127#8, 80#8, 60#8, 159#8, 168#8] ++
  [81#8, 163#8, 64#8, 143#8, 146#8, 157#8, 56#8, 245#8, 188#8, 182#8, 218#8, 33#8, 16#8, 255#8, 243#8,
   210#8] ++
  [205#8, 12#8, 19#8, 236#8, 95#8, 151#8, 68#8, 23#8, 196#8, 167#8, 126#8, 61#8, 100#8, 93#8, 25#8, 115#8] ++
  [96#8, 129#8, 79#8, 220#8, 34#8, 42#8, 144#8, 136#8, 70#8, 238#8, 184#8, 20#8, 222#8, 94#8, 11#8, 219#8] ++
  [224#8, 50#8, 58#8, 10#8, 73#8, 6#8, 36#8, 92#8, 194#8, 211#8, 172#8, 98#8, 145#8, 149#8, 228#8, 121#8] ++
  [231#8, 200#8, 55#8, 109#8, 141#8, 213#8, 78#8, 169#8, 108#8, 86#8, 244#8, 234#8, 101#8, 122#8, 174#8,
   8#8] ++
  [186#8, 120#8, 37#8, 46#8, 28#8, 166#8, 180#8, 198#8, 232#8, 221#8, 116#8, 31#8, 75#8, 189#8, 139#8,
   138#8] ++
  [112#8, 62#8, 181#8, 102#8, 72#8, 3#8, 246#8, 14#8, 97#8, 53#8, 87#8, 185#8, 134#8, 193#8, 29#8, 158#8] ++
  [225#8, 248#8, 152#8, 17#8, 105#8, 217#8, 142#8, 148#8, 155#8, 30#8, 135#8, 233#8, 206#8, 85#8, 40#8,
   223#8] ++
  [140#8, 161#8, 137#8, 13#8, 191#8, 230#8, 66#8, 104#8, 65#8, 153#8, 45#8, 15#8, 176#8, 84#8, 187#8,
   22#8]

def sub (b : Byte) : Byte := sbox.getD b.toNat 0
def xorBytes (a b : List Byte) : List Byte := List.zipWith (· ^^^ ·) a b

/-- Multiplication by x in the field of AES. -/
def xtime (b : Byte) : Byte := if b.getLsbD 7 then (b <<< (1 : Nat)) ^^^ 0x1B#8 else b <<< (1 : Nat)

def rcon : Nat → Byte
  | 0 => 1
  | n + 1 => xtime (rcon n)

/-- The key schedule, newest word first: `n` more words, the next of index `i`. -/
def expandKey : Nat → Nat → List (List Byte) → List (List Byte)
  | 0, _, ws => ws
  | n + 1, i, ws =>
    let t := ws.headD []
    let t := if i % 8 = 0 then xorBytes ((t.drop 1 ++ t.take 1).map sub) [rcon (i / 8 - 1), 0, 0, 0]
             else if i % 8 = 4 then t.map sub else t
    expandKey n (i + 1) (xorBytes (ws.getD 7 []) t :: ws)

/-- The 15 round keys of a 32-byte key. -/
def roundKeys (key : List Byte) : List (List Byte) :=
  let ws := (expandKey 52 8 ((List.range 8).map (fun i => (key.drop (4 * i)).take 4)).reverse).reverse
  (List.range 15).map (fun i => ((ws.drop (4 * i)).take 4).flatMap id)

def shiftRows (s : List Byte) : List Byte := (List.range 16).map (fun i => s.getD ((i + 4 * (i % 4)) % 16) 0)

def mixColumn (c : List Byte) : List Byte :=
  let x (i : Nat) : Byte := c.getD (i % 4) 0
  (List.range 4).map (fun i => xtime (x i) ^^^ (xtime (x (i + 1)) ^^^ x (i + 1)) ^^^ x (i + 2) ^^^ x (i + 3))

def mixColumns (s : List Byte) : List Byte := (List.range 4).flatMap (fun i => mixColumn ((s.drop (4 * i)).take 4))

/-- One block under round keys. -/
def aesBlock (ks : List (List Byte)) (b : List Byte) : List Byte :=
  let s := xorBytes b (ks.getD 0 [])
  let s := (List.range 13).foldl (fun s i => xorBytes (mixColumns (shiftRows (s.map sub))) (ks.getD (i + 1) [])) s
  xorBytes (shiftRows (s.map sub)) (ks.getD 14 [])

/-! GCM (NIST SP 800-38D). -/

/-- Multiplication in the field of GHASH: `n` bits of `x` from the most significant. -/
def gmul : Nat → BitVec 128 → BitVec 128 → BitVec 128 → BitVec 128
  | 0, _, _, z => z
  | n + 1, x, v, z =>
    let z := if x.getLsbD 127 then z ^^^ v else z
    let v := if v.getLsbD 0 then (v >>> (1 : Nat)) ^^^ (0xE1#128 <<< (120 : Nat)) else v >>> (1 : Nat)
    gmul n (x <<< (1 : Nat)) v z

def pad16 (l : List Byte) : List Byte := l ++ zeros ((16 - l.length % 16) % 16)

def ghash (h : BitVec 128) (data : List Byte) : BitVec 128 :=
  (List.range (data.length / 16)).foldl (fun y i =>
    gmul 128 (y ^^^ BitVec.ofNat 128 (beNat ((data.drop (16 * i)).take 16))) h 0) 0

/-- Counter mode from the block after J0. -/
def gctr (ks : List (List Byte)) (iv data : List Byte) : List Byte :=
  (List.range (cdiv data.length 16)).flatMap (fun i =>
    xorBytes ((data.drop (16 * i)).take 16) (aesBlock ks (iv ++ toBe 4 (i + 2))))

/-- The tag of a ciphertext with its additional data. -/
def gcmTag (ks : List (List Byte)) (iv aad ct : List Byte) : List Byte :=
  let h := BitVec.ofNat 128 (beNat (aesBlock ks (zeros 16)))
  let s := ghash h (pad16 aad ++ pad16 ct ++ toBe 8 (8 * aad.length) ++ toBe 8 (8 * ct.length))
  xorBytes (toBe 16 s.toNat) (aesBlock ks (iv ++ toBe 4 1))

/-- AES-256-GCM with a 12-byte IV: ciphertext and tag. -/
def gcmSeal (key iv aad plain : List Byte) : List Byte × List Byte :=
  let ks := roundKeys key
  let ct := gctr ks iv plain
  (ct, gcmTag ks iv aad ct)

/-- The plaintext, where the tag holds. -/
def gcmOpen (key iv aad ct tag : List Byte) : Option (List Byte) :=
  let ks := roundKeys key
  if gcmTag ks iv aad ct = tag then some (gctr ks iv ct) else none

/-! ECDSA over P-384 (FIPS 186-4). -/

def pP : Nat := 2 ^ 384 - 2 ^ 128 - 2 ^ 96 + 2 ^ 32 - 1
def pN : Nat := 0xffffffffffffffffffffffffffffffffffffffffffffffffc7634d81f4372ddf581a0db248b0a77aecec196accc52973
def pB : Nat := 0xb3312fa7e23ee7e4988e056be3f82d19181d9c6efe8141120314088f5013875ac656398d8a2ed19d2a85c8edd3ec2aef
def pG : Nat × Nat :=
  (0xaa87ca22be8b05378eb1c71ef320ad746e1d3b628ba79b9859f741e082542a385502f25dbf55296c3a545e3872760ab7,
   0x3617de4a96262c6f5d9e98bf9292dc29f8f41dbd289a147ce9da3113b5f0b8c00a60b1ce1d7e819d7a431d7c90ea0e5f)

/-- A power modulo `m`, over so many bits of the exponent. -/
def powMod (m : Nat) : Nat → Nat → Nat → Nat
  | 0, _, _ => 1
  | n + 1, b, e => let r := powMod m n (b * b % m) (e / 2); if e % 2 = 1 then b * r % m else r

/-- The inverse modulo a prime below 2^384. -/
def invMod (m a : Nat) : Nat := powMod m 384 (a % m) (m - 2)

/-- The sum of two points; none is the point at infinity. -/
def pAdd (a b : Option (Nat × Nat)) : Option (Nat × Nat) :=
  match a, b with
  | none, q => q
  | p, none => p
  | some (x, y), some (u, v) =>
    if x = u && (y + v) % pP = 0 then none
    else
      let l := if x = u then (3 * x * x + 3 * (pP - 1)) * invMod pP (2 * y) % pP
               else (v + pP - y) * invMod pP (u + pP - x) % pP
      let r := (l * l + 2 * pP - x - u) % pP
      some (r, (l * (x + pP - r) + pP - y) % pP)

/-- A multiple of a point, over so many bits of the factor. -/
def pMul : Nat → Nat → Option (Nat × Nat) → Option (Nat × Nat)
  | 0, _, _ => none
  | n + 1, k, p => let q := pMul n (k / 2) (pAdd p p); if k % 2 = 1 then pAdd p q else q

/-- The point that a 97-byte uncompressed key names, where it lies on the curve. -/
def pointOf (key : List Byte) : Option (Nat × Nat) :=
  let x := beNat ((key.drop 1).take 48)
  let y := beNat ((key.drop 49).take 48)
  if key.length = 97 && key.headD 0 = 4 && x < pP && y < pP && (y * y) % pP = (x * x * x + (pP - 3) * x + pB) % pP then some (x, y)
  else none

/-- ECDSA verification of a 48-byte digest; r, then s, little-endian (R395, R404). -/
def verify (key digest signature : List Byte) : Bool :=
  let r := fld signature 0 48
  let s := fld signature 48 48
  match pointOf key with
  | none => false
  | some q =>
    if r = 0 || r ≥ pN || s = 0 || s ≥ pN then false
    else
      let w := invMod pN s
      match pAdd (pMul 384 (beNat digest * w % pN) (some pG)) (pMul 384 (r * w % pN) (some q)) with
      | none => false
      | some p => p.1 % pN = r

end Sys2Proof.Crypto
end

