-- ==== Sys2Proof/Machine/State.lean ====
section
/-! DEFINITION. The state of the device, as plain data: every register, queue, table, counter, mode and pin that the
spec names (spec/00 to spec/20), and the queue of commands that wait. A field's docstring names its rule; a field
that the spec gives no reset value stands at the value notes/assumptions/4.md or 5.md names. -/

namespace Sys2Proof.Machine

/-- No command of this device stops the model: every meaning answers a next state. The type has no value. -/
inductive Fault where
deriving DecidableEq, Repr

/-- Why a command has no meaning. -/
inductive Refusal where
  /-- Raised by the dispatch of a command that has no meaning yet. Safe: nothing is proved about it. -/
  | notModelled (mnemonic : String)
deriving DecidableEq, Repr

/-- The time base (R306, R307), counted as one number of 2^-40 ns since the PTP epoch: seconds, nanoseconds and the 16-bit fraction are read from it. -/
structure TimeBase where
  /-- R306, R307 (u64 s + 30-bit ns + 40 fractional bits). -/
  t40 : Nat := 0
  /-- R307 (2 ns in units of 2^-40 ns). -/
  inc : Nat := 2199023255552
deriving DecidableEq, Repr

/-- What a completion event needs of its command (R43): the port, the originator, the opcode and the tag. -/
structure Handle where
  /-- R43 (port code). -/
  port : Port := .cpt
  /-- R43 (u16). -/
  opcode : Nat := 0
  /-- R43 (u16). -/
  tag : Nat := 0
  /-- R43 (u16). -/
  originator : Nat := 0
  /-- R339 (1). -/
  mirrored : Bool := false
  /-- R43 (1). -/
  noack : Bool := false
  /-- R315 (1: a time-base step passed its instant over). -/
  late : Bool := false
  /-- R45 (u8: ring slot of the command's descriptor). -/
  slot : Nat := 0
  /-- R45 (u64). -/
  replyAddr : Nat := 0
  /-- R49 (1: descriptor fetch stopped on its port after it came in). -/
  cut : Bool := false
deriving DecidableEq, Repr

/-- A command in a galley or on the timed list (R42, R39). -/
structure Queued where
  /-- R42 (u16). -/
  opcode : Nat := 0
  /-- R42 (packet). -/
  request : Request := { port := .cpt }
deriving DecidableEq, Repr

/-- An entry of the timed list (R39) or of a pair's mirrored commands (R339). -/
structure Timed where
  /-- R39 (us since the epoch). -/
  due : Nat := 0
  /-- R39 (packet). -/
  cmd : Queued := {}
  /-- R339 (1: the result is the command's reply, not a completion event (R339)). -/
  plainReply : Bool := false
  /-- R39 (1). -/
  late : Bool := false
deriving DecidableEq, Repr

/-- One tag of a tag record (R38). -/
structure TagEntry where
  /-- R38 (u16). -/
  tag : Nat := 0
  /-- R38 (u8). -/
  status : Nat := 0
  /-- R38 (u16). -/
  length : Nat := 0
  /-- R49 (1: descriptor fetch stopped on its port while it was in progress). -/
  cut : Bool := false
deriving DecidableEq, Repr

/-- PORT_COUNTERS of one port (R56). -/
structure PortCounters where
  /-- R56 (u32). -/
  received : U32 := 0
  /-- R56 (u32). -/
  admitted : U32 := 0
  /-- R56 (u32). -/
  busy : U32 := 0
  /-- R56 (u32). -/
  badCrc : U32 := 0
  /-- R56 (u32). -/
  refusedOther : U32 := 0
  /-- R56 (u32). -/
  duplicate : U32 := 0
  /-- R56 (u32). -/
  eventsLost : U32 := 0
deriving DecidableEq, Repr

/-- One event packet of a port, with its category (R47). -/
structure EventEntry where
  /-- R47 (4). -/
  category : Nat := 0
  /-- R47 (64 bytes). -/
  packet : List Byte := []
  /-- R327 (1: it asserts EVENT_N whatever the mask). -/
  urgent : Bool := false
deriving DecidableEq, Repr

/-- A reply that waits for REPLY_WRITE (R45). -/
structure PcieReply where
  /-- R45, R46 (u16: ring index of the descriptor). -/
  slot : Nat := 0
  /-- R45 (u64). -/
  replyAddr : Nat := 0
  /-- R45 (u8). -/
  status : Nat := 0
  /-- R45 (packet). -/
  packet : List Byte := []
deriving DecidableEq, Repr

/-- CPA or CPB: its BAR0 registers, rings and events (R44 to R49). -/
structure PciePort where
  /-- R44, R46 CMD_DOORBELL (u16). -/
  cmdProducer : U16 := 0
  /-- R46, R50 CMD_CONSUMER (u16). -/
  cmdConsumer : U16 := 0
  /-- R47, R50 EVT_PRODUCER (u16). -/
  evtProducer : U16 := 0
  /-- R44 EVT_DOORBELL (u16). -/
  evtConsumer : U16 := 0
  /-- R44 CMD_RING_BASE (u64). -/
  cmdRingBase : U64 := 0
  /-- R44 EVT_RING_BASE (u64). -/
  evtRingBase : U64 := 0
  /-- R44 CMD_RING_EN (1). -/
  cmdRingEn : Bool := false
  /-- R44 EVT_RING_EN (1). -/
  evtRingEn : Bool := false
  /-- R44 RING_ERR (1). -/
  ringErr : Bool := false
  /-- R44 MSI-X table (256 bytes). -/
  msixTable : Memory := []
  /-- R44 MSI-X PBA (16). -/
  pba : U16 := 0
  /-- R56 EVENT_CONFIG (16 (bits 2-15)). -/
  ringMask : U16 := 0
  /-- R56 EVENT_CONFIG (16). -/
  msixMask : U16 := 0
  /-- R47 event ring (up to 256 unconsumed entries of 64 bytes). -/
  ring : List EventEntry := []
  /-- R47 held events (up to 64, more when all are completions). -/
  held : List EventEntry := []
  /-- R454 discarded since the last notice (u32). -/
  discarded : U32 := 0
  /-- R47 category-15 notice owed (1). -/
  noticeDue : Bool := false
  /-- R47 (1: the category-15 notice is the first entry to be written). -/
  noticeFirst : Bool := false
  /-- R45 replies to write (up to 256). -/
  replies : List PcieReply := []
  /-- R423 PCIe link (1). -/
  linkUp : Bool := false
  /-- R373, R375 link in L1 (1). -/
  linkL1 : Bool := false
  /-- R373 ASPM L1 enabled by the host (1). -/
  aspmL1 : Bool := true
  /-- R439 PERST_N low (1). -/
  resetLow : Bool := false
  /-- R56 PORT_COUNTERS (28 bytes). -/
  counters : PortCounters := {}
deriving DecidableEq, Repr

/-- CPM (R52). -/
structure CpmPort where
  /-- R52 reply FIFO (FIFO of 64). -/
  replies : List (List Byte) := []
  /-- R52 PORT_STATUS bit 1 (1). -/
  rejected : Bool := false
  /-- R56 PORT_COUNTERS (28 bytes). -/
  counters : PortCounters := {}
deriving DecidableEq, Repr

/-- CPT (R53). -/
structure CptPort where
  /-- R53 instruction register (8). -/
  ir : Byte := 1
  /-- R53 reply queue (64 entries). -/
  queue : List (List Byte) := []
  /-- R53 (boundary-scan update register). -/
  boundary : List Bool := []
  /-- R53 (1: the boundary register drives the pins). -/
  extest : Bool := false
  /-- R53 (1: EXTEST_PULSE or EXTEST_TRAIN acts on the lanes). -/
  pulsing : Bool := false
  /-- R56 PORT_COUNTERS (28 bytes). -/
  counters : PortCounters := {}
deriving DecidableEq, Repr

/-- What a Voxad link holds as a command port (R54, R56). -/
structure LinkPort where
  /-- R54, R56 (16). -/
  ringMask : U16 := 0
  /-- R54 (u16: the originator that sent EVENT_CONFIG on the link). -/
  listener : Nat := 0
  /-- R56 PORT_COUNTERS (28 bytes). -/
  counters : PortCounters := {}
deriving DecidableEq, Repr

/-- One DMA write to a host's memory (R45, R47, R293): the model's record of it. -/
structure HostWrite where
  /-- R45 (port). -/
  side : PcieSide := .cpa
  /-- R45 (u64). -/
  address : Nat := 0
  /-- R45 (bytes). -/
  data : List Byte := []
deriving DecidableEq, Repr

/-- One thing put on a Voxad link (R150, R154, R179): the model's record of what leaves the device. -/
structure LinkSend where
  /-- R150 (6). -/
  link : Nat := 0
  /-- R148 (0 to 3: VC; 4: CONTROL; 5: TRAIN; 6: wake burst). -/
  channel : Nat := 0
  /-- R150, R179 (header and packet, message or block). -/
  data : List Byte := []
  /-- R157 (3: the member lane of a block). -/
  member : Nat := 0
  /-- R147 (u8: character 1 of a block). -/
  typeSeq : Nat := 0
  /-- R152 (IDLE blocks sent before it since the last block). -/
  idle : Nat := 0
  /-- R146 (places in the data that K30.7 takes). -/
  poison : List Nat := []
deriving DecidableEq, Repr

/-- One frame sent on a MAC, with its FCS: the model's record (R122, R136). -/
structure EthSend where
  /-- R136 (6). -/
  mac : Nat := 0
  /-- R136 (ns). -/
  at_ : Nat := 0
  /-- R136 (bytes). -/
  frame : List Byte := []
deriving DecidableEq, Repr

/-- A mirrored command at the active twin (R339). -/
structure MirrorWait where
  /-- R339 (u16). -/
  opcode : Nat := 0
  /-- R339 (u16 on the twin link). -/
  tag : Nat := 0
  /-- R349 (u16 as its port sent it). -/
  portTag : Nat := 0
  /-- R339 (u8: the active's final status). -/
  own : Option Nat := none
  /-- R339 (u8: the standby's final status). -/
  peer : Option Nat := none
deriving DecidableEq, Repr

/-- Command ports, galleys, tag records, the timed list and the status window. -/
structure Ports where
  /-- R31 CPA. -/
  cpa : PciePort := {}
  /-- R31 CPB. -/
  cpb : PciePort := {}
  /-- R31 CPM. -/
  cpm : CpmPort := {}
  /-- R31 CPT. -/
  cpt : CptPort := {}
  /-- R54 link ports (64). -/
  links : Tbl LinkPort := []
  /-- R31, R42 galleys (64 entries for each port code). -/
  galleys : Tbl (List Queued) := []
  /-- R42 round robin (port code). -/
  lastServed : Nat := 0
  /-- R38 tag records (1,024 for each originator). -/
  tags : Tbl (List TagEntry) := []
  /-- R39 timed list (256 entries). -/
  timed : List Timed := []
  /-- R339 mirrored commands whose two final statuses are not both known. -/
  mirrorPending : List MirrorWait := []
  /-- R48, R56 EVENT_N mask (16 (bits 1-15)). -/
  eventNMask : U16 := 0
  /-- R50 EVENT_COUNT (u32). -/
  eventCount : U32 := 0
  /-- R50 EVENTS_LOST (u32). -/
  eventsLost : U32 := 0
  /-- R50 HEARTBEAT (u32). -/
  heartbeat : U32 := 0
  /-- R51 (window bytes 0x08-0x4D of the last heartbeat; [] before the first). -/
  shadow : List Byte := []
  /-- R52, R53 (what the last port read returned). -/
  lastOut : List Byte := []
  /-- R45, R47. -/
  hostOut : List HostWrite := []
  /-- R150. -/
  linkOut : List LinkSend := []
  /-- R147, R157 (blocks sent on a link since its transmitter started, by link). -/
  txBlocks : Tbl Nat := []
  /-- R152 (ns of the last block of a link, by link). -/
  txAt : Tbl Nat := []
  /-- R136. -/
  ethOut : List EthSend := []
  /-- the model's own (counter for free values). -/
  freeCtr : Nat := 0
deriving DecidableEq, Repr

/-- A lattice entry (R71), without its destination. -/
structure Entry where
  /-- R71 (u16). -/
  source : Nat := 65535
  /-- R71 (2). -/
  plane : Nat := 0
  /-- R71 (1 audio_follow). -/
  follow : Bool := false
  /-- R71 (1 loss_mode BLACK). -/
  black : Bool := false
  /-- R71 (s32). -/
  offset : Int := 0
deriving DecidableEq, Repr

/-- A pending forme's state (R75). -/
inductive FormeState where
  | opened
  | closed
  | shadow
  | locking
deriving DecidableEq, Repr

/-- The apex's decision that a PREPARE-loaded forme holds (R188). -/
inductive Decision where
  | none
  | commit
deriving DecidableEq, Repr

/-- A pending forme (R75). -/
structure Forme where
  /-- R70 (u32). -/
  id : Nat := 0
  /-- R75 (2). -/
  state : FormeState := .opened
  /-- R70 (1). -/
  merge : Bool := false
  /-- R74 (u8). -/
  rate : Nat := 1
  /-- R71 (up to 2,048). -/
  entries : Tbl Entry := []
  /-- R70 (u32). -/
  crc : Nat := 0
  /-- R75 T (ns). -/
  t : Option Nat := none
  /-- R80 (ns). -/
  origT : Nat := 0
  /-- R80 (u16). -/
  moves : Nat := 0
  /-- R92 (u16). -/
  errDest : Nat := 65535
  /-- R92 (u8). -/
  errReason : Nat := 0
  /-- R92 (u32). -/
  plates : Nat := 0
  /-- R75 completion. -/
  handle : Option Handle := none
  /-- R186 (1). -/
  prepared : Bool := false
  /-- R188. -/
  decision : Decision := .none
  /-- R188 (1: the horizon passed without a decision). -/
  noDecision : Bool := false
  /-- R188 (ns: earliest switch after a late COMMIT). -/
  notBefore : Nat := 0
  /-- R80 (named destinations that have not switched). -/
  waiting : List Nat := []
  /-- R92 (u16). -/
  switched : Nat := 0
  /-- R92 (ns). -/
  lastSwitch : Nat := 0
  /-- R80, R188 (1). -/
  late : Bool := false
  /-- R190 (u16: originator of PREPARE). -/
  apex : Nat := 0
deriving DecidableEq, Repr

/-- The standing forme (R75, R84). -/
structure Standing where
  /-- R70, R89 (u32). -/
  id : Nat := 0
  /-- R74 (u8). -/
  rate : Nat := 1
  /-- R59 current entries (2,048). -/
  entries : Tbl Entry := []
  /-- R92 (u32). -/
  crc : Nat := 0
  /-- R92 (ns). -/
  t : Nat := 0
  /-- R92 (u16). -/
  moves : Nat := 0
  /-- R84 (u16, saturating). -/
  modified : Nat := 0
deriving DecidableEq, Repr

/-- A ROUTE_SET that waits for its switch instant (R83). -/
structure RouteChange where
  /-- R81 (1: executed while the next selector held an unapplied lock-up entry). -/
  afterNext : Bool := false
  /-- R83. -/
  entry : Entry := {}
  /-- R83 (ns). -/
  notBefore : Nat := 0
deriving DecidableEq, Repr

/-- An ancillary packet of a frame (R111): its DID and SDID, its data words, and whether its checksum is right. Embedded audio
and timecode packets are not among them. -/
structure AncPacket where
  /-- R111 (u8). -/
  did : Nat := 0
  /-- R111 (u8). -/
  sdid : Nat := 0
  /-- R111 (data words). -/
  data : List Byte := []
  /-- R111 (1: the checksum is right). -/
  good : Bool := true
  /-- R205 (1: of set 2 of a level B signal). -/
  setB : Bool := false
deriving DecidableEq, Repr

/-- One destination's selector and status (R59, R92). -/
structure Dest where
  /-- R59 current entry (12 bytes). -/
  current : Entry := {}
  /-- R59 next entry (12 bytes). -/
  next : Option Entry := none
  /-- R80 (u32: forme of the next entry). -/
  nextForme : Nat := 0
  /-- R83. -/
  route : Option RouteChange := none
  /-- R92 (2: 0 idle, 1 cut, 2 frame). -/
  plane : Nat := 0
  /-- R92 (u8). -/
  reason : Nat := 0
  /-- R92 (u32 ns). -/
  latency : Nat := 0
  /-- R67 (u16). -/
  repeats : U16 := 0
  /-- R67 (u16). -/
  skips : U16 := 0
  /-- R67 (sequence of the frame shown last). -/
  shown : Nat := 0
  /-- R67 (1: a frame of the current source has been read). -/
  reading : Bool := false
  /-- R115 (1: the SDI driver is enabled by tx_mode). -/
  driving : Bool := false
  /-- R89 (1). -/
  restoreWait : Bool := false
  /-- R87, R166 (1: held idle by R87 or R166). -/
  rateIdle : Bool := false
  /-- R61, R73 (0 live, 1 black, 2 frozen). -/
  picture : Nat := 0
  /-- R411 (1: one repeat of a folio pause is owed). -/
  skipDue : Bool := false
  /-- R69, R73 (words of the destination). -/
  appliedOffset : Int := 0
  /-- R111 (ancillary packets that an SDI output sends with its frame). -/
  anc : List AncPacket := []
  /-- R112 (groups that an SDI output embeds). -/
  embed : List Nat := []
  /-- R219 (audio samples of its present frame). -/
  embedSamples : Nat := 0
  /-- R113 (timecode that an SDI output sends with its frame, BCD). -/
  timecode : Option Nat := none
  /-- R357 (1: the safe state was left and the output has not resumed). -/
  safeHold : Bool := false
deriving DecidableEq, Repr

/-- Bytes of a stored picture that have been received (R133, R151, R290). -/
structure Region where
  /-- R290 (byte offset in the picture). -/
  first : Nat := 0
  /-- R290 (packed words). -/
  data : List Byte := []
deriving DecidableEq, Repr

/-- One frame of a frame store (R67, R290). -/
structure Frame where
  /-- R290 (u64). -/
  seq : Nat := 0
  /-- R290 (ns). -/
  start : Nat := 0
  /-- R290 (1). -/
  done : Bool := false
  /-- R133 (u32 packets). -/
  missing : Nat := 0
  /-- R268 (composed pixels (x, row, Y, Cb, Cr) of a sheet). -/
  pixels : List (Nat × Nat × Int × Int × Int) := []
  /-- R67, R111 (ancillary packets that travel with the frame). -/
  anc : List AncPacket := []
  /-- R113 (ATC_LTC that travels with the frame, BCD). -/
  timecode : Option Nat := none
  /-- R133, R151, R290 (received parts of the picture, newest first). -/
  regions : List Region := []
  /-- R133 (u32: RTP timestamp of a flow's frame). -/
  rtp : Option Nat := none
deriving DecidableEq, Repr

/-- A frame store (R67, R68, R290). -/
structure Store where
  /-- R290 (3 x ppf plates). -/
  plates : List Nat := []
  /-- R68 (u8). -/
  ppf : Nat := 0
  /-- R290 (u8). -/
  format : Nat := 0
  /-- R290 (u8). -/
  carriage : Nat := 0
  /-- R67 (newest first, up to 3). -/
  frames : List Frame := []
  /-- R290 (u64). -/
  written : Nat := 0
deriving DecidableEq, Repr

/-- A trunk endpoint's mapping (R85). -/
structure TrunkMap where
  /-- R85 (6). -/
  link : Nat := 0
  /-- R85 (u8). -/
  stream : Nat := 0
  /-- R85 (u8). -/
  rate : Nat := 0
deriving DecidableEq, Repr

/-- A keep record of the standing forme (R88). -/
structure KeepRecord where
  /-- R88 (u64). -/
  seq : Nat := 0
  /-- R88 (u64). -/
  timeS : Nat := 0
  /-- R88 (30). -/
  timeNs : Nat := 0
  /-- R88 (u32). -/
  id : Nat := 0
  /-- R88 (u16). -/
  modified : Nat := 0
  /-- R88 (2,048 entries). -/
  entries : Tbl Entry := []
  /-- R88 (512). -/
  sends : Tbl TrunkMap := []
  /-- R88 (512). -/
  receives : Tbl TrunkMap := []
  /-- R88, R418 (1: record_crc does not match). -/
  torn : Bool := false
deriving DecidableEq, Repr

/-- The lattice (R58 to R93). -/
structure Lattice where
  /-- R75 standing forme. -/
  standing : Standing := {}
  /-- R75 pending formes (up to 8). -/
  pending : List Forme := []
  /-- R80 step 6 (lock-ups complete but for their keep record). -/
  completing : List Forme := []
  /-- R59 selectors (2,048). -/
  dests : Tbl Dest := []
  /-- R67, R68 (by source). -/
  stores : Tbl Store := []
  /-- R85 send maps (512). -/
  sends : Tbl TrunkMap := []
  /-- R85 receive maps (512). -/
  receives : Tbl TrunkMap := []
  /-- R85, R92 (64 counters of 32 bits). -/
  unmapped : Tbl Nat := []
  /-- R88 (ns: end of the gathering period). -/
  keepDue : Option Nat := none
  /-- R88 (ns: last keep write). -/
  keepLast : Option Nat := none
  /-- R63 (trunk sources whose stream arrives). -/
  trunkPresent : List Nat := []
  /-- R63 (ns: when a block of a trunk source last arrived). -/
  trunkSeen : Tbl Nat := []
deriving DecidableEq, Repr

/-- A lane's role (R94). -/
inductive LaneRole where
  | none
  | sdi
  | eth
  | voxad
deriving DecidableEq, Repr

/-- A Voxad lane receiver's state (R156). -/
inductive RxAlign where
  | los
  | comma
  | hunt
  | locked
deriving DecidableEq, Repr

/-- A lane-table entry as a lane holds it (R107): the settings of its equaliser and driver for one rate class. -/
structure LaneEntry where
  /-- R106 (4: rate class, 0xFF where none is loaded). -/
  cls : Nat := 255
  /-- R107 (1). -/
  valid : Bool := false
  /-- R107 (1). -/
  rxInvert : Bool := false
  /-- R107 (1). -/
  txInvert : Bool := false
  /-- R107 (5). -/
  ctle : Nat := 0
  /-- R107 (s8). -/
  dfe1 : Int := 0
  /-- R107 (s8). -/
  dfe2 : Int := 0
  /-- R107 (4). -/
  txPre : Nat := 0
  /-- R107 (4). -/
  txPost : Nat := 0
  /-- R107 (6). -/
  txSwing : Nat := 0
deriving DecidableEq, Repr

/-- An SDI receiver's status (R110). -/
structure SdiRx where
  /-- R110 (1). -/
  carrier : Bool := false
  /-- R110 (1: cdr_lock). -/
  cdr : Bool := false
  /-- R110 (1: trs_lock; the receiver is locked). -/
  locked : Bool := false
  /-- R110 (1). -/
  pidValid : Bool := false
  /-- R110 (1). -/
  bondOk : Bool := false
  /-- R110 (1). -/
  atcPresent : Bool := false
  /-- R110 (1). -/
  pidMismatch : Bool := false
  /-- R110 (0xFF when unlocked) (u8). -/
  rateClass : Nat := 255
  /-- R110 (1). -/
  family : Bool := false
  /-- R110 (0x00 unknown) (u8). -/
  format : Nat := 0
  /-- R110 (u8). -/
  carriage : Nat := 0
  /-- R99, R102 (1: 4:2:2 10-bit). -/
  sampling422 : Bool := true
  /-- R110 (u32). -/
  payloadId : Nat := 0
  /-- R110 (u32). -/
  crcErrors : U32 := 0
  /-- R110 (u16). -/
  trsErrors : U16 := 0
  /-- R110 (u16). -/
  ancErrors : U16 := 0
  /-- R110 (u32). -/
  timecode : U32 := 0
  /-- R65, R110 (s16). -/
  phase : Int := 0
  /-- R65 (1: a phase has been measured since lock). -/
  measured : Bool := false
  /-- R66 (frames in the return band, to 16). -/
  inBand : Nat := 0
  /-- R110 (u16). -/
  skew : Nat := 0
  /-- R110 (u32). -/
  relocks : U32 := 0
  /-- R65 (frames measured since reset). -/
  frames : Nat := 0
deriving DecidableEq, Repr

/-- One lane: its role, SDI settings and receivers. -/
structure Lane where
  /-- R94 (2). -/
  role : LaneRole := .none
  /-- R455 (5). -/
  rxRates : Nat := 31
  /-- R455 (1). -/
  rxEnable : Bool := true
  /-- R455 (1). -/
  ancDropBad : Bool := false
  /-- R455 (u8, 0 unconfigured). -/
  txFormat : Nat := 0
  /-- R455 (u8). -/
  txCarriage : Nat := 0
  /-- R455 (2). -/
  txMode : Nat := 0
  /-- R455 (2). -/
  tcMode : Nat := 0
  /-- R455 (s32). -/
  txOffset : Int := 0
  /-- R111, R455 (up to 8 DID/SDID pairs). -/
  filter : List (Nat × Nat) := []
  /-- R103, R455 (0, 2 or 4). -/
  rxBond : Nat := 0
  /-- R103 (u8). -/
  rxBondFirst : Nat := 0
  /-- R103, R455 (0, 2 or 4). -/
  txBond : Nat := 0
  /-- R103 (u8). -/
  txBondFirst : Nat := 0
  /-- R110 (32 bytes). -/
  rx : SdiRx := {}
  /-- R156, R438 (1: signal detector). -/
  signal : Bool := false
  /-- R96, R109 (class whose entry is loaded, 0xFF none). -/
  equaliser : Nat := 255
  /-- R96, R109 (settings of the receive half). -/
  rxEntry : LaneEntry := {}
  /-- R96, R109 (settings of the transmit half). -/
  txEntry : LaneEntry := {}
  /-- R156. -/
  align : RxAlign := .los
  /-- R156 (consecutive K28.5). -/
  commas : Nat := 0
  /-- R156 (consecutive valid headers in HUNT). -/
  headers : Nat := 0
  /-- R156 (last 64 headers, true invalid). -/
  badHeaders : List Bool := []
  /-- R147 (4). -/
  sequence : Nat := 0
deriving DecidableEq, Repr

/-- A copy of the lane table (R106): its bytes. -/
structure LaneTable where
  /-- R106 (20,512 bytes, unlisted bytes 0). -/
  bytes : Memory := []
deriving DecidableEq, Repr

/-- The lanes, octants and lane table. -/
structure Lanes where
  /-- R94 (256). -/
  lanes : Tbl Lane := []
  /-- R100, R455 (32). -/
  family : Tbl Bool := []
  /-- R108 (20,512 bytes). -/
  inUse : Option LaneTable := none
  /-- R118 (u8: 0 flash, 1 keep, 2 none). -/
  source : Nat := 2
  /-- R108 (20,512 bytes). -/
  flash : Option LaneTable := none
  /-- R108 (20,512 bytes). -/
  keep : Option LaneTable := none
  /-- R109 (20,512 bytes, unlisted bytes 0). -/
  staging : Memory := []
  /-- R109 commit in progress. -/
  commit : Option Handle := none
  /-- R109 (20,512 bytes: the table of the commit in progress). -/
  committing : Memory := []
deriving DecidableEq, Repr

/-- A MAC's mode (R120). -/
inductive MacMode where
  | off
  | r25
  | r100
deriving DecidableEq, Repr

/-- A paused transmit priority (R139). -/
structure Pause where
  /-- R139 (ns). -/
  until_ : Nat := 0
deriving DecidableEq, Repr

/-- An armed FRAME_TX frame (R141). -/
structure LaunchFrame where
  /-- R141 (ns). -/
  due : Nat := 0
  /-- R141 (bytes). -/
  frame : List Byte := []
  /-- R141. -/
  handle : Handle := {}
deriving DecidableEq, Repr

/-- A frame that waits for the end of an honoured pause (R139). -/
structure HeldFrame where
  /-- R139 (3). -/
  prio : Nat := 0
  /-- R136 (ns: its launch instant). -/
  due : Nat := 0
  /-- R138 (ns: how long a frame already on the line holds it back). -/
  wait : Nat := 0
  /-- R139 (bytes). -/
  frame : List Byte := []
  /-- R139 (the flow whose packet it is, and its path B). -/
  flow : Option (Nat × Bool) := none
  /-- R141 (the command that completes when it leaves). -/
  handle : Option Handle := none
deriving DecidableEq, Repr

/-- One MAC (R120 to R124). -/
structure Mac where
  /-- R120, R143 (2). -/
  mode : MacMode := .off
  /-- R143 (u16). -/
  firstLane : Nat := 0
  /-- R121 (1). -/
  fec : Bool := false
  /-- R138 (1). -/
  preempt : Bool := false
  /-- R139 (1). -/
  honourMedia : Bool := false
  /-- R139 (u8). -/
  mediaMask : Nat := 0
  /-- R122 (u16). -/
  mtu : Nat := 1518
  /-- R143 (48). -/
  station : List Byte := [0, 0, 0, 0, 0, 0]
  /-- R138 (2). -/
  fragSize : Nat := 0
  /-- R124 (16 addresses). -/
  filter : List (List Byte) := []
  /-- R124 (1). -/
  acceptBcast : Bool := false
  /-- R124 (1). -/
  acceptMcast : Bool := false
  /-- R124 (1). -/
  promiscuous : Bool := false
  /-- R143 (1). -/
  linkUp : Bool := false
  /-- R138 (1). -/
  preemptActive : Bool := false
  /-- R139 (8 priorities). -/
  pauses : Tbl Pause := []
  /-- R139 (frames that wait for the end of a pause). -/
  held : List HeldFrame := []
  /-- R141 (armed frames). -/
  launches : List LaunchFrame := []
  /-- R131 (second of excCount). -/
  excSecond : Nat := 0
  /-- R131 (frames admitted in it). -/
  excCount : Nat := 0
  /-- R143 (u32). -/
  rxFrames : U32 := 0
  /-- R143 (u32). -/
  txFrames : U32 := 0
  /-- R122, R143 (u32). -/
  fcsErrors : U32 := 0
  /-- R124, R143 (u32). -/
  filtered : U32 := 0
  /-- R143 (u32). -/
  fecUncorrected : U32 := 0
  /-- R139, R143 (u32). -/
  pauseIgnored : U32 := 0
  /-- R139, R143 (u32). -/
  pauseHonoured : U32 := 0
deriving DecidableEq, Repr

/-- A classifier entry (R126). -/
structure ClsEntry where
  /-- R126 (u32). -/
  dstIp : Nat := 0
  /-- R126 (u16). -/
  dstPort : Nat := 0
  /-- R126 (12). -/
  vlan : Nat := 0
  /-- R126 (1). -/
  vlanMatch : Bool := false
  /-- R126 (1). -/
  srcMatch : Bool := false
  /-- R126 (u32). -/
  srcIp : Nat := 0
  /-- R126 (u8). -/
  mac : Nat := 255
  /-- R126 (2). -/
  action : Nat := 0
  /-- R126 (1). -/
  legB : Bool := false
  /-- R126 (u16). -/
  flow : Nat := 0
  /-- R126 (u16). -/
  ageLimit : Nat := 0
deriving DecidableEq, Repr

/-- One way of a classifier set: its entry if valid, its generation (R128) and its age start (R129). -/
structure Way where
  /-- R126 (24 bytes). -/
  entry : Option ClsEntry := none
  /-- R128 (u8). -/
  generation : Byte := 0
  /-- R129 (ns). -/
  lastHit : Nat := 0
deriving DecidableEq, Repr

/-- A receive flow's configuration (R143). -/
structure RxFlowCfg where
  /-- R132 (u8). -/
  kind : Nat := 0
  /-- R143 (u8). -/
  param : Nat := 0
  /-- R133 (u8). -/
  payloadType : Nat := 0
  /-- R133 (1). -/
  ssrcCheck : Bool := false
  /-- R132 (u16). -/
  ancOf : Nat := 65535
  /-- R133 (u32). -/
  ssrc : Nat := 0
  /-- R134 (u32). -/
  skewUs : Nat := 0
  /-- R143 (u8). -/
  ptime : Nat := 0
  /-- R143 (1). -/
  rate96 : Bool := false
  /-- R143 (1). -/
  l24 : Bool := false
deriving DecidableEq, Repr

/-- One sequence number that the merge remembers (R134). -/
structure SeqSeen where
  /-- R134 (u32 or u16). -/
  seq : Nat := 0
  /-- R134 (ns). -/
  atA : Option Nat := none
  /-- R134 (ns). -/
  atB : Option Nat := none
  /-- R134 (1). -/
  used : Bool := false
deriving DecidableEq, Repr

/-- A receive flow (R132 to R134). -/
structure RxFlow where
  /-- R143 (20 bytes). -/
  cfg : RxFlowCfg := {}
  /-- R143 next frame start (20 bytes). -/
  staged : Option RxFlowCfg := none
  /-- R133 (1: packets arrive). -/
  present : Bool := false
  /-- R133 (1). -/
  lost : Bool := false
  /-- R133 (u32: RTP timestamp of the frame in progress). -/
  rtp : Option Nat := none
  /-- R133. -/
  lastSeq : Option Nat := none
  /-- R133 (sequence numbers counted in missing). -/
  gaps : List Nat := []
  /-- R133 (1: the packet used last ended its frame). -/
  marker : Bool := false
  /-- R134 (8,192). -/
  recent : List SeqSeen := []
  /-- R143 (u32). -/
  packetsA : U32 := 0
  /-- R143 (u32). -/
  packetsB : U32 := 0
  /-- R133 (u32). -/
  missing : U32 := 0
  /-- R134 (u32). -/
  late : U32 := 0
  /-- R134 (s32). -/
  skewNs : Int := 0
  /-- R134 (ns, over the frame). -/
  skewSum : Int := 0
  /-- R134. -/
  skewCount : Nat := 0
  /-- R134 (1). -/
  skewRaised : Bool := false
  /-- R134 (u32). -/
  dupDropped : U32 := 0
  /-- R133 (u32). -/
  seqErrors : U32 := 0
  /-- R220 (u16). -/
  poolBase : Option Nat := none
  /-- R220 (u16). -/
  linkOffsetUs : Nat := 0
  /-- R215 (arrival index and sample frames of received packets). -/
  arrived : List (Nat × List (List Int)) := []
  /-- R220 (u32). -/
  latePackets : U32 := 0
deriving DecidableEq, Repr

/-- One path block of a sender (R143). -/
structure TxPath where
  /-- R143 (u8). -/
  mac : Nat := 0
  /-- R143 (6). -/
  dscp : Nat := 0
  /-- R143 (u8). -/
  ttl : Nat := 0
  /-- R143 (48). -/
  dstMac : List Byte := [0, 0, 0, 0, 0, 0]
  /-- R143 (u16). -/
  vlan : Nat := 0
  /-- R143 (u32). -/
  dstIp : Nat := 0
  /-- R143 (u32). -/
  srcIp : Nat := 0
  /-- R143 (u16). -/
  dstPort : Nat := 0
  /-- R143 (u16). -/
  srcPort : Nat := 0
deriving DecidableEq, Repr

/-- A transmit flow's configuration (R143). -/
structure TxFlowCfg where
  /-- R135 (u8). -/
  kind : Nat := 0
  /-- R143 (u8). -/
  param : Nat := 0
  /-- R143 (1). -/
  enable : Bool := false
  /-- R136 (1). -/
  typeW : Bool := false
  /-- R135 (1). -/
  pathB : Bool := false
  /-- R143 (u8). -/
  payloadType : Nat := 96
  /-- R143 (u8). -/
  ptime : Nat := 0
  /-- R143 (1). -/
  rate96 : Bool := false
  /-- R143 (1). -/
  l24 : Bool := false
  /-- R143 (u32). -/
  ssrc : Nat := 0
  /-- R136 (s32). -/
  troNs : Int := 0
  /-- R143 (24 bytes). -/
  a : TxPath := {}
  /-- R143 (24 bytes). -/
  b : TxPath := {}
deriving DecidableEq, Repr

/-- A transmit flow (R135 to R137). -/
structure TxFlow where
  /-- R143 (64 bytes). -/
  cfg : TxFlowCfg := {}
  /-- R143 next frame start (64 bytes). -/
  staged : Option TxFlowCfg := none
  /-- R143 (1). -/
  running : Bool := false
  /-- R137 (u32 RTP sequence). -/
  seq : Nat := 0
  /-- R143 (frame number of the packet sent last). -/
  lastFrame : Option Nat := none
  /-- R136 (packets of that frame sent). -/
  packet : Nat := 0
  /-- R135 (u64: the frame of the source that it sends). -/
  picture : Nat := 0
  /-- R143 (u32). -/
  packetsA : U32 := 0
  /-- R143 (u32). -/
  packetsB : U32 := 0
  /-- R136 (u32). -/
  late : U32 := 0
  /-- R220 (u16). -/
  poolBase : Option Nat := none
deriving DecidableEq, Repr

/-- A frame in the exception queue (R131). -/
structure ExcFrame where
  /-- R131 (u8). -/
  mac : Nat := 0
  /-- R131 (up to 2,048 bytes). -/
  data : List Byte := []
deriving DecidableEq, Repr

/-- PTP0 or PTP1's MAC (R140). -/
structure PtpPort where
  /-- R140, R143 (u8, 0xFF none). -/
  mac : Nat := 255
  /-- R140 (1). -/
  oneStep : Bool := false
  /-- R140 (s32). -/
  asymPs : Int := 0
deriving DecidableEq, Repr

/-- MACs, classifier, flows and exception path. -/
structure Eth where
  /-- R120 (64). -/
  macs : Tbl Mac := []
  /-- R125 (4,096 ways (set x 8 + way)). -/
  standing : Tbl Way := []
  /-- R125 (4,096 ways). -/
  shadow : Tbl Way := []
  /-- R130 (1). -/
  rebuild : Bool := false
  /-- R131 (256). -/
  exceptions : List ExcFrame := []
  /-- R143 (u8, saturating). -/
  dropped : Nat := 0
  /-- R132 (1,024). -/
  rx : Tbl RxFlow := []
  /-- R135 (1,024). -/
  tx : Tbl TxFlow := []
  /-- R140. -/
  ptp0 : PtpPort := {}
  /-- R140. -/
  ptp1 : PtpPort := {}
deriving DecidableEq, Repr

/-- A link's role (R168). -/
inductive LinkRole where
  | off
  | trunk
  | parent
  | child
  | twin
deriving DecidableEq, Repr

/-- A link's state (R158). -/
inductive LinkState where
  | off
  | down
  | wake
  | train
  | step
  | up
deriving DecidableEq, Repr

/-- What the peer's TRAIN blocks say (R153). -/
structure Peer where
  /-- R153 (u16). -/
  node : Nat := 0
  /-- R153 (3). -/
  role : Nat := 0
  /-- R153 (2). -/
  twinRole : Nat := 0
  /-- R153 (1). -/
  apex : Bool := false
  /-- R153 (3). -/
  lifecycle : Nat := 0
  /-- R153 (4). -/
  rateCaps : Nat := 0
  /-- R153 (4). -/
  failMask : Nat := 0
  /-- R153 (u8). -/
  rateClass : Nat := 6
  /-- R153 (1). -/
  rxLocked : Bool := false
  /-- R153 (1). -/
  refuse : Bool := false
  /-- R153 (2). -/
  width : Nat := 0
  /-- R153 (3). -/
  cluster : Nat := 0
  /-- R153 (u64). -/
  serial : Nat := 0
  /-- R153 (u8). -/
  link : Nat := 0
  /-- R153 (u16). -/
  credit1 : Nat := 0
  /-- R153 (u16). -/
  credit2 : Nat := 0
  /-- R153 (u16). -/
  credit3 : Nat := 0
deriving DecidableEq, Repr

/-- The credit counts of one VC of a link (R161). -/
structure VcCredit where
  /-- R161 (u16). -/
  offered : Nat := 0
  /-- R161 (u16). -/
  sent : Nat := 0
  /-- R161 (u16). -/
  freed : Nat := 0
  /-- R161 (u16: blocks received from the peer). -/
  received : Nat := 0
  /-- R161 (u16: own blocks freed). -/
  returned : Nat := 0
  /-- R161 (u16: last CREDIT sent). -/
  told : Nat := 0
deriving DecidableEq, Repr

/-- An outstanding link transaction (R180). -/
structure Transaction where
  /-- R180 (10). -/
  txid : Nat := 0
  /-- R180 (2). -/
  vc : Nat := 1
  /-- R180 (link of the incoming transaction; none at the originator). -/
  inLink : Option Nat := none
  /-- R180 (10). -/
  inTxid : Nat := 0
  /-- R183 (the packet sent). -/
  packet : List Byte := []
  /-- R179 (u8). -/
  content : Nat := 0
  /-- R183 (at most 2). -/
  replays : Nat := 0
  /-- R177 (1). -/
  path : Nat := 0
  /-- R179 (u8). -/
  hops : Nat := 8
  /-- R181 (port or function that issued it). -/
  handle : Option Handle := none
  /-- R288 (channel of a remote-DMA message). -/
  dmaChannel : Option Nat := none
  /-- R181 (ns: the counted time of its link and VC when it was opened). -/
  start : Nat := 0
deriving DecidableEq, Repr

/-- LINK_COUNTERS of a link (R168). -/
structure LinkCtr where
  /-- R145 (u32). -/
  codeErrors : U32 := 0
  /-- R145 (u32). -/
  disparityErrors : U32 := 0
  /-- R156 (u32). -/
  invalidHeaders : U32 := 0
  /-- R156 (u32). -/
  lockLosses : U32 := 0
  /-- R151 (u32). -/
  discarded : U32 := 0
  /-- R161 (u32). -/
  creditErrors : U32 := 0
  /-- R163 (u32). -/
  holdsReceived : U32 := 0
  /-- R163 (u32). -/
  holdsIgnored : U32 := 0
  /-- R154 (u32). -/
  unknownControl : U32 := 0
  /-- R168 (u32). -/
  fallbacks : U32 := 0
deriving DecidableEq, Repr

/-- A packet or frame being received on a VC (R151). -/
structure Partial where
  /-- R151 (bytes so far). -/
  data : List Byte := []
  /-- R151 (1: a block of it was discarded). -/
  bad : Bool := false
deriving DecidableEq, Repr

/-- One Voxad link (R157 to R168). -/
structure Link where
  /-- R168 (3). -/
  role : LinkRole := .off
  /-- R168 (2). -/
  width : Nat := 0
  /-- R168 (u16). -/
  firstLane : Nat := 0
  /-- R168 (4). -/
  maxClass : Nat := 9
  /-- R163, R168 (1). -/
  honourVc0 : Bool := false
  /-- R158 (3). -/
  state : LinkState := .off
  /-- R149 (u8). -/
  rateClass : Nat := 6
  /-- R168 (u8). -/
  cause : Nat := 0
  /-- R158 (4). -/
  failMask : Nat := 0
  /-- R158 (u8: class after the retune). -/
  stepTo : Nat := 6
  /-- R160 (4: own refuse_cause). -/
  refusing : Nat := 0
  /-- R158 (consecutive step_ready blocks received). -/
  readyRun : Nat := 0
  /-- R158 (consecutive done blocks received). -/
  doneRun : Nat := 0
  /-- R158 (step_ready or done blocks sent). -/
  sentRun : Nat := 0
  /-- R153 (64 bytes). -/
  peer : Peer := {}
  /-- R161. -/
  vc1 : VcCredit := {}
  /-- R161. -/
  vc2 : VcCredit := {}
  /-- R161. -/
  vc3 : VcCredit := {}
  /-- R163 (ns: VC1 held until). -/
  held1 : Nat := 0
  /-- R163 (ns: VC2 held until). -/
  held2 : Nat := 0
  /-- R163 (ns: VC0 held until). -/
  held0 : Nat := 0
  /-- R163 (4: own HOLD mask). -/
  holding : Nat := 0
  /-- R163 (ns: own HOLD until). -/
  holdUntil : Nat := 0
  /-- R163 (VC0 blocks that wait for a HOLD, each with the places of K30.7 in it). -/
  queue0 : List (List Byte × List Nat) := []
  /-- R161, R163 (VC1 blocks that wait for credit or a HOLD). -/
  queue1 : List (List Byte) := []
  /-- R161, R163 (VC2 blocks that wait). -/
  queue2 : List (List Byte) := []
  /-- R161 (VC3 blocks that wait). -/
  queue3 : List (List Byte) := []
  /-- R162 (2: VC1 or VC2, which of them sent last). -/
  lastVc : Nat := 2
  /-- R168 (u32). -/
  retrains : U32 := 0
  /-- R168 (u32). -/
  lastUpS : Nat := 0
  /-- R168 (u16). -/
  skew : Nat := 0
  /-- R168 (40 bytes). -/
  counters : LinkCtr := {}
  /-- R180 (10). -/
  nextTxid1 : Nat := 0
  /-- R180 (10). -/
  nextTxid2 : Nat := 0
  /-- R180 (256 for each VC). -/
  outstanding : List Transaction := []
  /-- R180 (requests beyond 256). -/
  waiting : List Transaction := []
  /-- R181 (ns that count towards timeouts on VC1). -/
  counted1 : Nat := 0
  /-- R181 (ns that count towards timeouts on VC2). -/
  counted2 : Nat := 0
  /-- R181 (ns of the last count). -/
  countedAt : Nat := 0
  /-- R151 (by stream). -/
  partial0 : Tbl Partial := []
  /-- R151 (byte offset of the next block of a frame, by stream). -/
  trunkAt : Tbl Nat := []
  /-- R151. -/
  partial1 : Option Partial := none
  /-- R151. -/
  partial2 : Option Partial := none
  /-- R169 (u16). -/
  idleTrunks : Nat := 0
  /-- R319 (u16: VC3 sequence). -/
  seqSync : Nat := 0
  /-- R319 (u16). -/
  seqReq : Nat := 0
  /-- R320 (ns: t1 of the last TIME_SYNC). -/
  syncT1 : Nat := 0
  /-- R320 (ns). -/
  syncT2 : Nat := 0
  /-- R320 (ns). -/
  reqT3 : Nat := 0
  /-- R319 (u32). -/
  vc3Unknown : U32 := 0
deriving DecidableEq, Repr

/-- The Voxad links. -/
structure Voxad where
  /-- R157 (64). -/
  links : Tbl Link := []
deriving DecidableEq, Repr

/-- A route table entry (R174). -/
structure RouteSlots where
  /-- R174 (u8). -/
  slot0 : Nat := 255
  /-- R174 (u8). -/
  slot1 : Nat := 255
deriving DecidableEq, Repr

/-- What the apex holds for one node of a system forme (R184 to R190). -/
structure NodeAnswer where
  /-- R184 (staged record bytes). -/
  record : Memory := []
  /-- R184 (bytes staged). -/
  size : Nat := 0
  /-- R185 (0 no, 1 held, 2 failed). -/
  pushed : Nat := 0
  /-- R199 (the PREPARE packet sent, for a take-over). -/
  prepare : List Byte := []
  /-- R185 (status of the answer that failed). -/
  pushStatus : Nat := 0
  /-- R200 (u8). -/
  answer : Nat := 255
  /-- R200 (u8). -/
  lockup : Nat := 0
  /-- R200 (u16). -/
  errDest : Nat := 65535
  /-- R200 (u8). -/
  errReason : Nat := 0
  /-- R187 (1). -/
  committed : Bool := false
  /-- R189 (u8, 0xFF none). -/
  decisionAnswer : Nat := 255
deriving DecidableEq, Repr

/-- A system forme at the apex (R184 to R191). -/
structure SysForme where
  /-- R200 (u8). -/
  state : Nat := 0
  /-- R184 (up to 16,382). -/
  nodes : Tbl NodeAnswer := []
  /-- R184 (u8). -/
  rate : Nat := 0
  /-- R187 (1). -/
  partialOk : Bool := false
  /-- R187 (ns). -/
  t : Nat := 0
  /-- R185. -/
  pushHandle : Option Handle := none
  /-- R187. -/
  runHandle : Option Handle := none
  /-- R201 (0 none, 1 commit, 2 abort, 3 partial). -/
  decision : Nat := 0
  /-- R189 (u16 of the decision). -/
  tag : Nat := 0
  /-- R199 (u16). -/
  prepareTag : Nat := 0
  /-- R199 (1: its packets are sent again after a take-over). -/
  replayed : Bool := false
deriving DecidableEq, Repr

/-- A pushed record at a node (R185). -/
structure Pushed where
  /-- R185 (record bytes). -/
  bytes : Memory := []
  /-- R185. -/
  size : Nat := 0
  /-- R185 (1). -/
  complete : Bool := false
deriving DecidableEq, Repr

/-- An originated command that waits for a route (R183). -/
structure WaitingCmd where
  /-- R177 (1). -/
  path : Nat := 0
  /-- R183. -/
  packet : List Byte := []
  /-- R183 (2). -/
  vc : Nat := 1
  /-- R183. -/
  replays : Nat := 0
  /-- R183. -/
  handle : Option Handle := none
  /-- R183 (ns). -/
  until_ : Nat := 0
deriving DecidableEq, Repr

/-- An armed snapshot (R192). -/
structure ArmedSnap where
  /-- R192 (u32). -/
  id : Nat := 0
  /-- R192 (u16). -/
  set : Nat := 0
  /-- R192 (1). -/
  keep : Bool := false
  /-- R192 (ns). -/
  t : Nat := 0
  /-- R192. -/
  handle : Handle := {}
deriving DecidableEq, Repr

/-- A snapshot bank (R363). -/
structure SnapBank where
  /-- R363 (u32). -/
  id : Nat := 0
  /-- R363 (u16). -/
  set : Nat := 0
  /-- R363 (ns). -/
  t : Nat := 0
  /-- R363 (10 groups). -/
  groups : List (List Byte) := []
deriving DecidableEq, Repr

/-- A SYS_SNAPSHOT in progress (R194). -/
structure SysSnap where
  /-- R194 (u32). -/
  id : Nat := 0
  /-- R194 (nodes without an answer). -/
  waiting : List Nat := []
  /-- R194 (u16). -/
  armed : Nat := 0
  /-- R194 (u16). -/
  late : Nat := 0
  /-- R194 (u16). -/
  unreachable : Nat := 0
  /-- R194 (u16). -/
  nodes : Nat := 0
  /-- R194. -/
  handle : Handle := {}
deriving DecidableEq, Repr

/-- An armed migration cut (R195). -/
structure Cut where
  /-- R195 (u16). -/
  process : Nat := 0
  /-- R195 (u16). -/
  oldEpoch : Nat := 0
  /-- R195 (u16). -/
  newEpoch : Nat := 0
  /-- R195 (u16). -/
  n : Nat := 0
  /-- R195 (u64). -/
  startIndex : Nat := 0
  /-- R195 (u64). -/
  cutIndex : Nat := 0
  /-- R195. -/
  handle : Handle := {}
  /-- R196 (1: a new_epoch result for the tick before the cut arrived). -/
  newSeen : Bool := false
  /-- R196 (u32). -/
  dropped : Nat := 0
deriving DecidableEq, Repr

/-- The folio relay (R197, R198). -/
structure Relay where
  /-- R198 (u32). -/
  version : Nat := 0
  /-- R200 (u8). -/
  children : Nat := 0
  /-- R200 (u8). -/
  done : Nat := 0
  /-- R200 (u8). -/
  failed : Nat := 0
  /-- R197 (child link and next offset). -/
  active : List (Nat × Nat) := []
  /-- R198 (child links not yet offered). -/
  queue : List Nat := []
  /-- R200 (u64). -/
  bytesSent : Nat := 0
deriving DecidableEq, Repr

/-- The hierarchy (R170 to R201). -/
structure Hier where
  /-- R170, R50 (1). -/
  apexRole : Bool := false
  /-- R170 (1: a parent or child link has been UP). -/
  roleFixed : Bool := false
  /-- R171 (2). -/
  tier : Nat := 0
  /-- R171 (by joined parent link: the tier that its JOIN gave). -/
  parentTiers : Tbl Nat := []
  /-- R200 (u16). -/
  apexNode : Nat := 0
  /-- R200 (1). -/
  joined : Bool := false
  /-- R175 (u8). -/
  primary : Nat := 255
  /-- R175 (u8). -/
  alternate : Nat := 255
  /-- R173 (parent links with a JOIN outstanding). -/
  joinPending : List Nat := []
  /-- R173 (serial, node at the apex). -/
  joinedSerials : List (Nat × Nat) := []
  /-- R174 (16,384). -/
  routes : Tbl RouteSlots := []
  /-- R200 (u16). -/
  timeoutMs : Nat := 10
  /-- R200 (u16). -/
  commitMarginUs : Nat := 1000
  /-- R200 (u8). -/
  relayFanout : Nat := 4
  /-- R200 (u32). -/
  replays : U32 := 0
  /-- R200 (u32). -/
  duplicates : U32 := 0
  /-- R200 (u32). -/
  timeouts : U32 := 0
  /-- R200 (u32). -/
  hopDrops : U32 := 0
  /-- R184 (4). -/
  sysFormes : Tbl SysForme := []
  /-- R185 (8). -/
  pushed : Tbl Pushed := []
  /-- R183. -/
  waiting : List WaitingCmd := []
  /-- R172 (u16: device-generated tags). -/
  nextTag : Nat := 0
  /-- R172, R199 (u15: tags of system formes, 0x8000 added). -/
  sysTag : Nat := 0
  /-- R192 (4). -/
  snaps : List ArmedSnap := []
  /-- R192, R363 (172,696 bytes). -/
  shadow : Option SnapBank := none
  /-- R192 (1: the bank is to be kept). -/
  keepDue : Bool := false
  /-- R194. -/
  sysSnaps : List SysSnap := []
  /-- R195. -/
  cuts : List Cut := []
  /-- R197. -/
  relay : Relay := {}
deriving DecidableEq, Repr

/-- An audio route entry (R206). -/
structure AudioRoute where
  /-- R206 (u16). -/
  source : Nat := 65535
  /-- R206 (s16, 0.01 dB). -/
  gain : Int := 0
  /-- R206 (1). -/
  xfade : Bool := false
  /-- R206 (1). -/
  invert : Bool := false
deriving DecidableEq, Repr

/-- A crossfade in progress (R208). -/
structure Fade where
  /-- R208. -/
  old : AudioRoute := {}
  /-- R208 (sample index of the boundary). -/
  start : Nat := 0
deriving DecidableEq, Repr

/-- One destination channel (R206 to R211, R227). -/
structure AudioDest where
  /-- R206 (8 bytes). -/
  route : AudioRoute := {}
  /-- R227 (s16). -/
  pendingGain : Option Int := none
  /-- R227 (ns: first pending start). -/
  pendingFrom : Nat := 0
  /-- R227 (ms in force at that start). -/
  timeoutMs : Nat := 10
  /-- R208. -/
  fade : Option Fade := none
  /-- R214 (u64: output index behind the newest sample). -/
  index : Nat := 0
  /-- R214 (the newest 320 output samples). -/
  samples : List Int := []
  /-- R211 (1: V = 0). -/
  valid : Bool := false
deriving DecidableEq, Repr

/-- An AUDIO_ROUTE_SET that waits for its boundaries (R208). -/
structure RouteSetArmed where
  /-- R208 (ns). -/
  t : Nat := 0
  /-- R208 (up to 500). -/
  entries : List (Nat × AudioRoute) := []
deriving DecidableEq, Repr

/-- One source channel (R202, R210, R230). -/
structure AudioSrc where
  /-- R211 (1). -/
  present : Bool := false
  /-- R210 (1). -/
  nonPcm : Bool := false
  /-- R205 (u16). -/
  unsupported : U16 := 0
  /-- R205 (1: lost with reason UNSUPPORTED). -/
  badGroup : Bool := false
  /-- R230 (1). -/
  silent : Bool := false
  /-- R230 (s16, 0.01 dBFS). -/
  threshold : Int := -12000
  /-- R230 (u32). -/
  holdMs : Nat := 100
  /-- R231 (3). -/
  actions : Nat := 0
  /-- R230 (1: SILENCE_CONFIG names it). -/
  configured : Bool := false
  /-- R230 (ns). -/
  belowSince : Option Nat := none
  /-- R233 (s16, 0.01 dBFS). -/
  peak : Int := -32768
  /-- R212, R135 (the newest 136 samples up to the block last taken). -/
  last : List Int := []
  /-- R212 (u64). -/
  lastIndex : Nat := 0
  /-- R210 (u8: place in the channel status block of a ST 2110-31 channel). -/
  csPos : Nat := 0
deriving DecidableEq, Repr

/-- One AES3 input or output port (R216 to R225). -/
structure AesPort where
  /-- R217 (u8). -/
  mode : Nat := 0
  /-- R217 (u8). -/
  follow : Nat := 0
  /-- R218 (1). -/
  csAuto : Bool := false
  /-- R218 (24 bytes ([]: zeros)). -/
  template : List Byte := []
  /-- R216 (1). -/
  locked : Bool := false
  /-- R225 (1, sticky). -/
  pairSlip : Bool := false
  /-- R225 (1). -/
  swapped : Bool := false
  /-- R225 (5: subframes of 16). -/
  fifo : Nat := 8
  /-- R233 (u32). -/
  rateMhz : Nat := 0
  /-- R233 (u16). -/
  slips : U16 := 0
  /-- R233 (u16). -/
  parityErrors : U16 := 0
  /-- R233 (u16). -/
  crccErrors : U16 := 0
  /-- R233 (u16). -/
  relocks : U16 := 0
  /-- R216 (24 bytes). -/
  csA : List Byte := []
  /-- R216 (24 bytes). -/
  csB : List Byte := []
  /-- R216 (24 bytes). -/
  userA : List Byte := []
  /-- R216 (24 bytes). -/
  userB : List Byte := []
  /-- R231 (1). -/
  driverOff : Bool := false
  /-- R225 (1). -/
  restarting : Bool := false
  /-- R225 (1). -/
  awaitTrigger : Bool := false
  /-- R225. -/
  restartHandles : List Handle := []
  /-- R219 (index at which a status block began). -/
  blockStart : Nat := 0
deriving DecidableEq, Repr

/-- An armed AES_START (R219). -/
structure AesStartArmed where
  /-- R233 (64). -/
  inMask : Nat := 0
  /-- R233 (64). -/
  outMask : Nat := 0
  /-- R219 (1: waits for TRIG_IN). -/
  trigger : Bool := true
  /-- R219 (ns). -/
  startNs : Option Nat := none
  /-- R219 (u64). -/
  indexA : Nat := 0
  /-- R219 (u64). -/
  indexB : Nat := 0
  /-- R233. -/
  handle : Handle := {}
deriving DecidableEq, Repr

/-- An audio trunk bundle in one direction (R222). -/
structure Bundle where
  /-- R222 (u8). -/
  link : Nat := 0
  /-- R222 (u8). -/
  stream : Nat := 0
  /-- R222 (u8). -/
  channels : Nat := 0
  /-- R222 (1). -/
  rate96 : Bool := false
  /-- R222 (u64 of the last frame). -/
  index : Nat := 0
  /-- R222 (u16 of the last frame). -/
  epoch : Nat := 0
  /-- R222 (received frames not yet used: index, epoch, 8 sample frames). -/
  frames : List (Nat × Nat × List (List Int)) := []
deriving DecidableEq, Repr

/-- A capture or playout buffer (R223). -/
structure AudioBuf where
  /-- R233 (u8). -/
  first : Nat := 0
  /-- R233 (u8). -/
  count : Nat := 0
  /-- R224 (u8). -/
  packing : Nat := 0
  /-- R223 (1). -/
  rate96 : Bool := false
  /-- R223 (u48). -/
  base : Nat := 0
  /-- R223 (u32). -/
  frames : Nat := 64
  /-- R233 (u64). -/
  index : Nat := 0
  /-- R233 (u32). -/
  wraps : U32 := 0
  /-- R233 (u32). -/
  faults : U32 := 0
  /-- R223 (1). -/
  stopped : Bool := false
deriving DecidableEq, Repr

/-- A parameter set's banks (R228). -/
structure ParamSet where
  /-- R228, R255 (16,384 bytes, unlisted 0). -/
  active : Memory := []
  /-- R228, R255 (16,384 bytes, unlisted 0). -/
  staged : Memory := []
  /-- R228 (ns: T). -/
  armed : Option Nat := none
  /-- R229. -/
  handle : Option Handle := none
deriving DecidableEq, Repr

/-- The audio path (R202 to R234). -/
structure Audio where
  /-- R233 (u16). -/
  zcTimeoutMs : Nat := 10
  /-- R203 (16,384). -/
  dests : Tbl AudioDest := []
  /-- R202 (16,384). -/
  srcs : Tbl AudioSrc := []
  /-- R208. -/
  armed : List RouteSetArmed := []
  /-- R216 (64). -/
  inputs : Tbl AesPort := []
  /-- R217 (64). -/
  outputs : Tbl AesPort := []
  /-- R219. -/
  starts : List AesStartArmed := []
  /-- R222 (32). -/
  sends : Tbl Bundle := []
  /-- R222 (32). -/
  receives : Tbl Bundle := []
  /-- R223 (16). -/
  captures : Tbl AudioBuf := []
  /-- R223 (16). -/
  playouts : Tbl AudioBuf := []
  /-- R228 (512). -/
  sets : Tbl ParamSet := []
deriving DecidableEq, Repr

/-- A complex value: raw integers of two parts (R235, R236). -/
structure Cplx where
  /-- R236 (40 or 96). -/
  re : Int := 0
  /-- R236 (40 or 96). -/
  im : Int := 0
deriving DecidableEq, Repr

/-- An address generator (R239). -/
structure Gen where
  /-- R239 (1). -/
  space : Bool := false
  /-- R239 (15). -/
  base : Nat := 0
  /-- R239 (u16). -/
  length : Nat := 0
  /-- R239 (u16). -/
  index : Int := 0
  /-- R239 (s16). -/
  step : Int := 0
deriving DecidableEq, Repr

/-- A placement of a process (R246, R252). -/
structure Placement where
  /-- R246 (u16). -/
  epoch : Nat := 0
  /-- R252 (u8, 0xFF remote). -/
  engine : Nat := 255
  /-- R253 (u8). -/
  bundle : Nat := 0
  /-- R252 (0 LOADED, 1 RUNNING). -/
  running : Bool := false
  /-- R252 (u64). -/
  startIndex : Nat := 0
  /-- R254 (u64). -/
  stopIndex : Option Nat := none
  /-- R244 (u32). -/
  cycles : Nat := 0
  /-- R251 (code_words of 64 bits). -/
  code : List Nat := []
  /-- R251 (u16). -/
  dmWords : Nat := 0
  /-- R240 (8). -/
  gens : List Gen := []
  /-- R247 (data space). -/
  dm : Tbl Cplx := []
  /-- R252. -/
  startHandle : Option Handle := none
  /-- R254. -/
  stopHandle : Option Handle := none
  /-- R247 (output region of the last run). -/
  output : Tbl Cplx := []
deriving DecidableEq, Repr

/-- A Chord process (R246). -/
structure Process where
  /-- R246 (1). -/
  domainB : Bool := false
  /-- R246 (u8). -/
  n : Nat := 8
  /-- R260 (u16). -/
  inFirst : Nat := 0
  /-- R260 (u16). -/
  inCount : Nat := 0
  /-- R260 (u16). -/
  outFirst : Nat := 0
  /-- R260 (u16). -/
  outCount : Nat := 1
  /-- R247 (1). -/
  inPair : Bool := false
  /-- R247 (1). -/
  outPair : Bool := false
  /-- R247 (1). -/
  inSmaj : Bool := false
  /-- R247 (1). -/
  outSmaj : Bool := false
  /-- R255 (u16). -/
  paramWords : Nat := 0
  /-- R257 (u16). -/
  restFirst : Nat := 0
  /-- R257 (u16). -/
  restWords : Nat := 0
  /-- R253 (u16 current epoch). -/
  epoch : Nat := 0
  /-- R246 (2). -/
  placements : List Placement := []
  /-- R257 (1). -/
  resting : Bool := false
  /-- R237 (u32). -/
  saturations : U32 := 0
  /-- R258 (u32). -/
  addrFaults : U32 := 0
  /-- R258 (ns). -/
  lastSatEvent : Option Nat := none
  /-- R254 (u64 of the last cut). -/
  cutIndex : Nat := 0
  /-- R196 (u16: epoch before the last cut). -/
  prior : Nat := 0
  /-- R253 (u32 results dropped). -/
  dropped : U32 := 0
  /-- R249 (block of each input channel). -/
  inputs : Tbl (List Int) := []
  /-- R249 (newest samples of each output channel). -/
  outputs : Tbl (List Int) := []
  /-- R249 (u64: index behind the newest output sample). -/
  outIndex : Nat := 0
deriving DecidableEq, Repr

/-- A Chord engine (R248). -/
structure Engine where
  /-- R248, R260 (u8, 0 unconfigured). -/
  n : Nat := 0
  /-- R248 (1). -/
  domainB : Bool := false
deriving DecidableEq, Repr

/-- A delay line (R256). -/
structure DelayLine where
  /-- R256 (u16). -/
  process : Nat := 0
  /-- R256 (u16). -/
  sendAddr : Nat := 0
  /-- R256 (u16). -/
  retAddr : Nat := 0
  /-- R256 (u32). -/
  delay : Nat := 0
  /-- R256 (u32: from the next run). -/
  newDelay : Nat := 0
  /-- R256 (u32). -/
  ring : Nat := 0
  /-- R256 (u48). -/
  base : Nat := 0
  /-- R297 (ns: last fault message). -/
  lastFault : Option Nat := none
deriving DecidableEq, Repr

/-- The Chord engines (R235 to R261). -/
structure Chord where
  /-- R235 (32). -/
  engines : Tbl Engine := []
  /-- R246 (512). -/
  processes : Tbl Process := []
  /-- R251 (4 x 393,312 bytes, unlisted 0). -/
  slots : Tbl Memory := []
  /-- R256 (2,048). -/
  lines : Tbl DelayLine := []
deriving DecidableEq, Repr

/-- A page record (R265). -/
structure Page where
  /-- R265 (u8). -/
  input : Nat := 0
  /-- R265 (2). -/
  blend : Nat := 0
  /-- R265 (1). -/
  drawn : Bool := false
  /-- R265 (1). -/
  keyInvert : Bool := false
  /-- R265 (11). -/
  opacity : Nat := 0
  /-- R265 (6). -/
  edge : Nat := 0
  /-- R265 (u16). -/
  srcX : Nat := 0
  /-- R265 (u16). -/
  srcY : Nat := 0
  /-- R265 (u16). -/
  srcW : Nat := 2
  /-- R265 (u16). -/
  srcH : Nat := 1
  /-- R265 (s16). -/
  dstX : Int := 0
  /-- R265 (s16). -/
  dstY : Int := 0
  /-- R265 (u16). -/
  dstW : Nat := 2
  /-- R265 (u16). -/
  dstH : Nat := 1
  /-- R265 (10). -/
  keyLow : Nat := 4
  /-- R265 (10). -/
  keyHigh : Nat := 5
deriving DecidableEq, Repr

/-- A staged page record (R271). -/
structure StagedPage where
  /-- R271. -/
  record : Page := {}
  /-- R271 (ns). -/
  notBefore : Nat := 0
  /-- R271 (newest first). -/
  handles : List Handle := []
deriving DecidableEq, Repr

/-- A sheet's page order (R269). -/
structure Order where
  /-- R269 (1 LIST). -/
  list : Bool := false
  /-- R269 (1 to 16, bottom first). -/
  pages : List Nat := []
deriving DecidableEq, Repr

/-- A staged order (R271). -/
structure StagedOrder where
  /-- R271. -/
  order : Order := {}
  /-- R271 (ns). -/
  notBefore : Nat := 0
  /-- R271. -/
  handles : List Handle := []
deriving DecidableEq, Repr

/-- A SHEET_CONFIG that waits for a frame start (R271, R272). -/
structure StagedSheet where
  /-- R272 (1). -/
  enable : Bool := false
  /-- R272 (s32). -/
  offset : Int := 0
  /-- R271 (3 x 10). -/
  background : Int × Int × Int := (64, 512, 512)
  /-- R271 (ns). -/
  notBefore : Nat := 0
deriving DecidableEq, Repr

/-- A sheet (R262 to R275). -/
structure Sheet where
  /-- R264 (1). -/
  enabled : Bool := false
  /-- R264 (u8). -/
  format : Nat := 0
  /-- R264 (u8). -/
  carriage : Nat := 0
  /-- R264 (s32). -/
  offset : Int := 0
  /-- R275 (3 x 10). -/
  background : Int × Int × Int := (64, 512, 512)
  /-- R271. -/
  staged : Option StagedSheet := none
  /-- R269. -/
  order : Order := {}
  /-- R271. -/
  stagedOrder : Option StagedOrder := none
  /-- R265 (16 active records). -/
  pages : Tbl Page := []
  /-- R271 (16). -/
  stagedPages : Tbl StagedPage := []
  /-- R275 (u8). -/
  drawn : Nat := 0
  /-- R275 (u32). -/
  frames : U32 := 0
  /-- R275 (u16). -/
  idlePages : Nat := 0
  /-- R273 (u16). -/
  fetchFaults : U16 := 0
  /-- R275 (ns). -/
  lastStart : Nat := 0
  /-- R411 (1: a folio pause owes one repeat). -/
  repeatDue : Bool := false
deriving DecidableEq, Repr

/-- A page input's configuration (R263). -/
structure PageInput where
  /-- R263 (u8, 0 unconfigured). -/
  format : Nat := 0
  /-- R263 (u8). -/
  carriage : Nat := 0
deriving DecidableEq, Repr

/-- The imposition engine. -/
structure Imposition where
  /-- R262 (32). -/
  sheets : Tbl Sheet := []
  /-- R263 (256). -/
  inputs : Tbl PageInput := []
deriving DecidableEq, Repr

/-- A plate table entry (R281). -/
structure Pte where
  /-- R281 (1). -/
  writable : Bool := false
  /-- R281 (1). -/
  pinned : Bool := false
  /-- R281 (1). -/
  rt : Bool := false
  /-- R281 (1). -/
  remote : Bool := false
  /-- R281 (u8). -/
  generation : Byte := 0
  /-- R281 (14). -/
  node : Nat := 0
  /-- R281 (21). -/
  plate : Nat := 0
deriving DecidableEq, Repr

/-- A general plate's state (R282). -/
inductive PlateState where
  | free
  | zeroing
  | allocated
deriving DecidableEq, Repr

/-- A general plate (R282, R287). -/
structure Plate where
  /-- R282. -/
  state : PlateState := .free
  /-- R282. -/
  mapCount : Nat := 0
  /-- R287 (u8 export mode). -/
  mode : Nat := 0
deriving DecidableEq, Repr

/-- A background descriptor (R293). -/
structure Descriptor where
  /-- R293 (1 FILL). -/
  fill : Bool := false
  /-- R293 (2). -/
  srcSpace : Nat := 0
  /-- R293 (2). -/
  dstSpace : Nat := 0
  /-- R293 (u32). -/
  length : Nat := 4
  /-- R293 (u64). -/
  src : Nat := 0
  /-- R293 (u64). -/
  dst : Nat := 0
deriving DecidableEq, Repr

/-- A job of a background channel (R294). -/
structure DmaJob where
  /-- R294 (1 to 64). -/
  descriptors : List Descriptor := []
  /-- R294. -/
  handle : Handle := {}
  /-- R305 (u64 bytes). -/
  moved : Nat := 0
deriving DecidableEq, Repr

/-- A background channel's state (R294). -/
inductive DmaState where
  | idle
  | running
  | parked
deriving DecidableEq, Repr

/-- A DMA channel (R291 to R296). -/
structure DmaChan where
  /-- R294. -/
  state : DmaState := .idle
  /-- R305 (u8). -/
  cause : Nat := 0
  /-- R294 (up to 64 descriptors). -/
  jobs : List DmaJob := []
  /-- R296 (u16). -/
  descIndex : Nat := 0
  /-- R296 (u64). -/
  progress : Nat := 0
  /-- R305 (u64). -/
  faultVa : Nat := 0
  /-- R305 (u64). -/
  bytesTotal : U64 := 0
  /-- R297 (ns: last fault message of a real-time consumer). -/
  lastFault : Nat := 0
deriving DecidableEq, Repr

/-- A DRAM stack's controller (R277 to R279). -/
structure Stack where
  /-- R305 (1). -/
  trained : Bool := false
  /-- R278 (u32). -/
  corrected : U32 := 0
  /-- R278 (u32). -/
  uncorrected : U32 := 0
  /-- R279 (u32). -/
  scrubPasses : U32 := 0
  /-- R279 (lines read in the pass). -/
  scrubDone : Nat := 0
  /-- R277 (u32). -/
  rtPeak : U32 := 0
  /-- R305 (u64). -/
  lastUe : Nat := 18446744073709551615
deriving DecidableEq, Repr

/-- Why the matrix is in ordered mode (R302). -/
inductive MatrixWhy where
  | none
  | startup
  | proof
  | recovery
deriving DecidableEq, Repr

/-- Memory, plate tables, DMA channels and the bus matrix (R276 to R305). -/
structure Plates where
  /-- R276 (96 GiB by local offset). -/
  dram : Memory := []
  /-- R278 (offsets of poisoned 64-byte lines). -/
  poison : List Nat := []
  /-- R280 (level-2 entries by VA plate number). -/
  tables : Tbl Pte := []
  /-- R282 (general plates 32,768-47,103). -/
  plates : Tbl Plate := []
  /-- R282 (8 bits by plate; unlisted: the boot value). -/
  generations : Tbl Byte := []
  /-- R282 (8). -/
  bootGeneration : Byte := 0
  /-- R285 (VA plates held in unpinned ways, most recent first). -/
  cache : List Nat := []
  /-- R286 (16 walks in flight, by VA plate). -/
  walks : List Nat := []
  /-- R286 (256). -/
  walkQueue : List Nat := []
  /-- R286 (requests held at the bus matrix beyond the queue, by VA plate). -/
  walkHeld : List Nat := []
  /-- R305 (u32). -/
  hits : U32 := 0
  /-- R305 (u32). -/
  misses : U32 := 0
  /-- R305 (u32). -/
  walkFaults : U32 := 0
  /-- R291 (64). -/
  channels : Tbl DmaChan := []
  /-- R277 (4). -/
  dramStacks : Tbl Stack := []
  /-- R279 (u8). -/
  scrubHours : Nat := 8
  /-- R300 REMAP (1). -/
  remap : Bool := false
  /-- R302. -/
  matrixWhy : MatrixWhy := .startup
  /-- R305 (u32). -/
  decodeErrors : U32 := 0
  /-- R305 (u32). -/
  timeouts : U32 := 0
  /-- R305 (8 x u8). -/
  outstanding : List Nat := [0, 0, 0, 0, 0, 0, 0, 0]
deriving DecidableEq, Repr

/-- The reference selector's state (R313). -/
inductive RefState where
  | freeRun
  | acquiring
  | locked
  | holdover
  | lost
deriving DecidableEq, Repr

/-- A reference candidate (R309, R310). -/
structure Candidate where
  /-- R331 (u8, 0 disables). -/
  priority : Nat := 0
  /-- R309 (u8). -/
  configQuality : Nat := 248
  /-- R309 (u8 of candidates 2 to 4). -/
  liveQuality : Nat := 255
  /-- R331 (1). -/
  tenm : Bool := false
  /-- R331 (u16). -/
  lane : Nat := 0
  /-- R331 (s32). -/
  asymPs : Int := 0
  /-- R310 (1). -/
  present : Bool := false
  /-- R310 (ns). -/
  presentSince : Nat := 0
  /-- R310 (1). -/
  qualified : Bool := false
  /-- R309 (ns; none: unlimited). -/
  phasePeriod : Option Nat := none
  /-- R314 (s32). -/
  phaseNs : Int := 0
  /-- R331 (s32). -/
  freqPpb : Int := 0
  /-- R331 (u32). -/
  losses : U32 := 0
deriving DecidableEq, Repr

/-- A PTP instance (R321). -/
structure PtpInst where
  /-- R321 (u8). -/
  domain : Nat := 127
  /-- R321 (1). -/
  hybrid : Bool := false
  /-- R321 (u8). -/
  announceTimeout : Nat := 3
  /-- R331 (8 bytes). -/
  gm : Nat := 0
  /-- R310 (1: a master is selected). -/
  selected : Bool := false
  /-- R321 (u8). -/
  prio1 : Nat := 255
  /-- R321 (u8). -/
  prio2 : Nat := 255
  /-- R331 (u8). -/
  clockClass : Nat := 248
  /-- R331 (u8). -/
  accuracy : Nat := 254
  /-- R331 (u16). -/
  variance : Nat := 65535
  /-- R331 (s32). -/
  offsetNs : Int := 0
  /-- R331 (u32). -/
  pathNs : Nat := 0
  /-- R331 (s16). -/
  utcOffset : Int := 0
  /-- R321 (1). -/
  utcValid : Bool := false
  /-- R332 (1). -/
  leap61 : Bool := false
  /-- R331 (u16). -/
  steps : U16 := 0
  /-- R331 (u32). -/
  syncRx : U32 := 0
  /-- R331 (u32). -/
  announceRx : U32 := 0
  /-- R321 (ns). -/
  t1 : Nat := 0
  /-- R321 (ns). -/
  t2 : Nat := 0
  /-- R140, R321 (ns: transmit timestamp of the last Delay_Req). -/
  t3 : Nat := 0
  /-- R321 (u16: sequence of the last Delay_Req). -/
  reqSeq : Nat := 0
deriving DecidableEq, Repr

/-- A capture record (R322). -/
structure Capture where
  /-- R331 (u8). -/
  source : Nat := 0
  /-- R331 (ns). -/
  t : Nat := 0
  /-- R331 (u16). -/
  frac : Nat := 0
deriving DecidableEq, Repr

/-- One monitored clock (R326). -/
structure ClockMon where
  /-- R326 (1). -/
  good : Bool := true
  /-- R328 (consecutive accepted windows, to 16). -/
  stable : Nat := 16
deriving DecidableEq, Repr

/-- Reference selector, PTP, captures and clocks (R307 to R332). -/
structure Time where
  /-- R309 (8). -/
  candidates : Tbl Candidate := []
  /-- R313, R50 (3). -/
  state : RefState := .freeRun
  /-- R331 (ns). -/
  stateSince : Nat := 0
  /-- R331 (u8). -/
  selected : Option Nat := none
  /-- R367 (u8). -/
  lastSelected : Nat := 255
  /-- R315 (1: LOCKED since the last reset). -/
  everLocked : Bool := false
  /-- R313 (servo updates in LOCKED, 16 a second). -/
  lockedUpdates : Nat := 0
  /-- R317 (offset of the increment in each of the last 60 s of LOCKED). -/
  history : List Int := []
  /-- R312 (u8). -/
  heldQuality : Nat := 248
  /-- R313 (to 16). -/
  goodUpdates : Nat := 0
  /-- R316 (1). -/
  slewing : Bool := false
  /-- R332 (ns). -/
  slewStart : Nat := 0
  /-- R331 (s32). -/
  remainingNs : Int := 0
  /-- R307, R318 (offset of the increment that the servo or the trim asks for, without slew). -/
  base : Int := 0
  /-- R318 (increment towards which the time base moves). -/
  target : Nat := 2199023255552
  /-- R316 (u16). -/
  slope : Nat := 100
  /-- R331 (u8). -/
  qualS : Nat := 5
  /-- R331 (1). -/
  stepFirst : Bool := true
  /-- R331 (1). -/
  ocxoEnable : Bool := false
  /-- R331 (u32). -/
  holdoverMaxS : Nat := 86400
  /-- R331 (u8). -/
  freqLimitPpm : Nat := 50
  /-- R331 (u8). -/
  qualityLimit : Nat := 255
  /-- R318 (s32). -/
  trimPpb : Int := 0
  /-- R321. -/
  ptp0 : PtpInst := {}
  /-- R321. -/
  ptp1 : PtpInst := {}
  /-- R322 (5). -/
  captureMask : Nat := 0
  /-- R322 (64). -/
  captures : List Capture := []
  /-- R322 (u8, saturating). -/
  capturesLost : Nat := 0
  /-- R329 (u8). -/
  clkmonSource : Nat := 0
  /-- R329 (u16). -/
  clkmonDiv : Nat := 0
  /-- R326 (XO, OCXO, fallback, 11 PLLs, 32 PLL_V). -/
  clocks : Tbl ClockMon := []
  /-- R326 (1: a good OCXO is counted). -/
  ocxoFitted : Bool := false
  /-- R327 (1). -/
  xoUnmonitored : Bool := false
  /-- R331 (u32). -/
  failures : U32 := 0
  /-- R331 (48). -/
  onFallback : Nat := 0
  /-- R331 (s32). -/
  localOffset : Int := 0
  /-- R331 (u32). -/
  jamS : Nat := 0
  /-- R331 (u8). -/
  utcMode : Nat := 0
  /-- R331 (s16). -/
  utcManual : Int := 0
  /-- R323 (s16 from the selected reference). -/
  utcOffset : Int := 0
  /-- R319 (1: the parent's utc_offset is valid). -/
  utcValid : Bool := false
  /-- R332 (1). -/
  leapPending : Bool := false
deriving DecidableEq, Repr

/-- The twin role (R333). -/
inductive TwinRole where
  | solo
  | active
  | standby
deriving DecidableEq, Repr

/-- A health report (R342). -/
structure HealthReport where
  /-- R342 (48 bytes). -/
  bytes : List Byte := []
  /-- R342 (ns of its arrival). -/
  t : Nat := 0
deriving DecidableEq, Repr

/-- The standby's comparison of one output (R341). -/
structure DigestUnit where
  /-- R341 (consecutive, to 16). -/
  mismatches : Nat := 0
deriving DecidableEq, Repr

/-- One digest of a unit (R340, R341). -/
structure DigestRec where
  /-- R341 (u16). -/
  dest : Nat := 0
  /-- R341 (u8). -/
  kind : Nat := 0
  /-- R341 (u32). -/
  index : Nat := 0
  /-- R341 (u32). -/
  crc : Nat := 0
  /-- R340 (1: the unit is complete). -/
  done : Bool := true
deriving DecidableEq, Repr

/-- The twin unit (R333 to R349). -/
structure Twin where
  /-- R333, R50 (2). -/
  role : TwinRole := .solo
  /-- R334, R444 (1 TWIN_ACT). -/
  act : Bool := false
  /-- R334 (1 TWIN_PEER). -/
  peerPin : Bool := false
  /-- R346 (1: parent and child links retrain within 1 ms). -/
  retrainDue : Bool := false
  /-- R334 (1 TWIN_POS). -/
  position : Bool := false
  /-- R348 (1). -/
  enable : Bool := false
  /-- R348 (1). -/
  autoPair : Bool := false
  /-- R348 (u8). -/
  link : Nat := 255
  /-- R348 (u16). -/
  settleMs : Nat := 2000
  /-- R337 (ns: the end of step 4). -/
  settleFrom : Nat := 0
  /-- R348 (u16). -/
  mirrorLeadUs : Nat := 200
  /-- R348 (u8). -/
  pairState : Nat := 0
  /-- R343 (1). -/
  mirrored : Bool := false
  /-- R337 (1). -/
  settled : Bool := false
  /-- R342 (1: fit cleared since the last pairing). -/
  fitLost : Bool := true
  /-- R348 (u8). -/
  cause : Nat := 0
  /-- R348 (u32). -/
  takeovers : U32 := 0
  /-- R345 (ns). -/
  tDrop : Nat := 0
  /-- R348 (u32). -/
  mirroredCmds : U32 := 0
  /-- R348 (u64). -/
  copiedBytes : Nat := 0
  /-- R348 (bytes of step 4). -/
  copyTotal : Nat := 0
  /-- R337. -/
  pairHandle : Option Handle := none
  /-- R344 (ns). -/
  swapAt : Option Nat := none
  /-- R344. -/
  swapHandle : Option Handle := none
  /-- R342 (48 bytes). -/
  report : Option HealthReport := none
  /-- R342 (u32). -/
  healthSeq : U32 := 0
  /-- R342 (1). -/
  lateRaised : Bool := false
  /-- R340 (own digests not yet compared or sent). -/
  own : List DigestRec := []
  /-- R341 (by kind x 65,536 + dest). -/
  units : Tbl DigestUnit := []
  /-- R342 (u32 in the second). -/
  sdiMismatch : U32 := 0
  /-- R342 (u32). -/
  audioMismatch : U32 := 0
  /-- R342 (u32). -/
  flowMismatch : U32 := 0
  /-- R342 (u32). -/
  compared : U32 := 0
  /-- R342 (u32). -/
  missed : U32 := 0
  /-- R342 (u16). -/
  firstDest : Nat := 65535
  /-- R342 (u16). -/
  proofFailed : U16 := 0
  /-- R342 (u16). -/
  eccFound : U16 := 0
  /-- R342 (u16). -/
  diverged : U16 := 0
  /-- R342 (u16). -/
  linkErrors : U16 := 0
  /-- R337 (opcode and payload of the settings executed since the start, from which the configuration copy is made). -/
  log : List (Nat × List Byte) := []
  /-- R337 (plates whose contents are being copied). -/
  copyPlates : List Nat := []
deriving DecidableEq, Repr

/-- A fault message (R350). -/
structure FaultMsg where
  /-- R350 (12). -/
  source : Nat := 0
  /-- R350 (8). -/
  kind : Nat := 0
  /-- R350 (48). -/
  detail : Nat := 0
  /-- R350 (ns). -/
  t : Nat := 0
  /-- R351 (u16). -/
  count : Nat := 1
  /-- R353 (u8). -/
  severity : Nat := 1
  /-- R359 (1). -/
  overflow : Bool := false
  /-- R365 (u32). -/
  seq : Nat := 0
deriving DecidableEq, Repr

/-- The fault collector (R350 to R367). -/
structure Faults where
  /-- R352 (by source; unlisted: the default of R352). -/
  severities : Tbl Nat := []
  /-- R354 (highest classified severity of each active source). -/
  active : Tbl Nat := []
  /-- R360 (u32 by source). -/
  counts : Tbl Nat := []
  /-- R351, R364 (messages that I36 has not taken). -/
  held : List FaultMsg := []
  /-- R359 (64). -/
  queue : List FaultMsg := []
  /-- R359 (256, newest first). -/
  log : List FaultMsg := []
  /-- R365 (u32). -/
  nextSeq : U32 := 0
  /-- R50 FAULT_OVERFLOW (u32). -/
  overflow : U32 := 0
  /-- R359 (1: records discarded before the next entry). -/
  overflowFlag : Bool := false
  /-- R355, R50 SAFE_STATE (1). -/
  safe : Bool := false
  /-- R366 (12). -/
  safeBy : Nat := 0
  /-- R355 (1: SAFE_ENTERED is owed). -/
  safeEvent : Bool := false
  /-- R361 (1). -/
  selfFault : Bool := false
  /-- R358, R444 (1 FAULT_N asserted). -/
  pinLow : Bool := false
  /-- R358 (ns). -/
  lastAssert : Nat := 0
  /-- R358 (1). -/
  holdMode : Bool := false
  /-- R358 (1). -/
  forced : Bool := false
  /-- R353 (u8). -/
  minSeverity : Nat := 4
  /-- R358 (1: a release waits for the 20 us). -/
  releaseDue : Bool := false
  /-- R364 (4 in KA). -/
  sticky : List FaultMsg := []
  /-- R409 (1: a YIELD or SAFE fault since activation). -/
  yielded : Bool := false
deriving DecidableEq, Repr

/-- A resource group's state (R370). -/
inductive GroupState where
  | run
  | quiet
  | dormant
deriving DecidableEq, Repr

/-- A resource group (R370 to R372), in the order LANES, MACS, CHORD, IMPOSITION, DRAM. -/
structure Group where
  /-- R370 (2). -/
  state : GroupState := .run
  /-- R372 (u32 us). -/
  budget : Nat := 0
  /-- R371 (ns). -/
  idleSince : Option Nat := none
deriving DecidableEq, Repr

/-- A rail monitor (R380). -/
structure RailMon where
  /-- R380 (1). -/
  under : Bool := false
  /-- R382 (u16). -/
  mv : Nat := 0
deriving DecidableEq, Repr

/-- The power manager (R368 to R383). -/
structure Power where
  /-- R50, R373 (2 POWER_STATE). -/
  state : GroupState := .run
  /-- R370 (5). -/
  groups : Tbl Group := []
  /-- R382 (u16). -/
  idleMs : Nat := 1000
  /-- R382 (u32). -/
  octantMask : Nat := 4294967295
  /-- R382 (u8). -/
  wakeFlags : Nat := 15
  /-- R382 (u32). -/
  wakes : U32 := 0
  /-- R379 (u8). -/
  lastWake : Nat := 0
  /-- R382 (u16). -/
  lastWakeLane : Nat := 0
  /-- R382 (u64). -/
  lastWakeS : Nat := 0
  /-- R375 (ns of the last wake event). -/
  wakeAt : Nat := 0
  /-- R376 (0: not entering; 1 to 4). -/
  entryStep : Nat := 0
  /-- R375 (0: not waking; 1 to 9). -/
  wakingStep : Nat := 0
  /-- R17, R369 (domains woken by a request although they have no service to give). -/
  gated : List Nat := []
  /-- R380 (7). -/
  rails : Tbl RailMon := []
  /-- R380 (16 x s8). -/
  temps : List Int := []
  /-- R30, R434 (1: power state OFF). -/
  off : Bool := false
  /-- R379 (1 WAKE_N). -/
  wakeNLow : Bool := false
  /-- R377 (1: KA_BUDGET raised for the present estimate). -/
  kaRaised : Bool := false
  /-- R17, R375 (domains with a request held at their crossing). -/
  heldRequests : List Nat := []
deriving DecidableEq, Repr

/-- One item of a run (R393). -/
structure ProofItem where
  /-- R387 (u8). -/
  test : Nat := 0
  /-- R393 (u16). -/
  first : Nat := 0
  /-- R393 (u16). -/
  units : Nat := 1
deriving DecidableEq, Repr

/-- One step of a run (R388). -/
structure ProofStep where
  /-- R387 (u8). -/
  test : Nat := 0
  /-- R387 (u16). -/
  unit : Nat := 0
  /-- R389 (ns). -/
  started : Option Nat := none
  /-- R389 (ns since it was offered). -/
  since : Nat := 0
deriving DecidableEq, Repr

/-- A proof run (R389, R393). -/
structure ProofRunSt where
  /-- R393 (u16). -/
  id : Nat := 0
  /-- R388 (steps not yet ended). -/
  steps : List ProofStep := []
  /-- R393 (u16). -/
  total : Nat := 0
  /-- R393 (u16). -/
  passed : Nat := 0
  /-- R393 (u16). -/
  failed : Nat := 0
  /-- R393 (u16). -/
  aborted : Nat := 0
  /-- R393 (u16). -/
  skipped : Nat := 0
  /-- R393 (u32). -/
  firstSeq : Nat := 0
  /-- R393. -/
  handle : Handle := {}
  /-- R386 (1). -/
  force : Bool := false
deriving DecidableEq, Repr

/-- A result record (R391). -/
structure ProofRec where
  /-- R391 (u32). -/
  seq : Nat := 0
  /-- R391 (u16). -/
  runId : Nat := 0
  /-- R391 (u8). -/
  test : Nat := 0
  /-- R391 (u8). -/
  result : Nat := 0
  /-- R391 (u16). -/
  unit : Nat := 0
  /-- R391 (u8). -/
  coverage : Nat := 0
  /-- R391 (u8). -/
  cause : Nat := 0
  /-- R391 (u32). -/
  durationUs : Nat := 0
  /-- R391 (u48). -/
  detail : Nat := 0
  /-- R391 (ns). -/
  t : Nat := 0
deriving DecidableEq, Repr

/-- The proof engine (R384 to R393). -/
structure Proof where
  /-- R389 (the running run, then up to 4 queued). -/
  runs : List ProofRunSt := []
  /-- R393 (u16). -/
  nextRun : Nat := 1
  /-- R391 (1,024, newest first). -/
  results : List ProofRec := []
  /-- R391 (u32). -/
  nextSeq : U32 := 0
  /-- R390, R393 (3). -/
  liveMask : Nat := 0
  /-- R393 (u8). -/
  sliceFormat : Nat := 68
  /-- R393 (u8). -/
  sliceEvery : Nat := 16
  /-- R387, R390 (slices done, by test x 256 + unit). -/
  slices : Tbl Nat := []
  /-- R386, R393 PROOF_RUNs forwarded to the standby, by twin tag. -/
  forwarded : List (Nat × Handle) := []
  /-- R390 (units of the present pass that failed). -/
  liveFailed : List Nat := []
deriving DecidableEq, Repr

/-- The life-cycle state (R394, R50). -/
inductive Lifecycle where
  | blank
  | factory
  | field
  | service
  | retired
deriving DecidableEq, Repr

/-- A folio slot's state (R412). -/
inductive SlotState where
  | empty
  | writing
  | valid
deriving DecidableEq, Repr

/-- A key slot (R400). -/
structure KeySlot where
  /-- R400 (2). -/
  kind : Nat := 0
  /-- R400 (5). -/
  usage : Nat := 0
  /-- R400 (1 expiry). -/
  volatile : Bool := false
  /-- R400 (5). -/
  lcMask : Nat := 0
  /-- R400 (u32). -/
  uses : Nat := 0
  /-- R400 (u32). -/
  label : Nat := 0
  /-- R400 (32, 48 or 97 bytes). -/
  key : List Byte := []
  /-- R399 (1: K00 or K02 failed its hash check). -/
  bad : Bool := false
deriving DecidableEq, Repr

/-- A folio slot of flash (R407). -/
structure FolioSlot where
  /-- R407, R412 (u8). -/
  state : SlotState := .empty
  /-- R407 (u32). -/
  version : Nat := 0
  /-- R407 (u32). -/
  length : Nat := 0
  /-- R407 (48 bytes). -/
  digest : List Byte := []
  /-- R404 (1). -/
  media : Bool := false
  /-- R404 (6). -/
  affected : Nat := 0
  /-- R407 (12 bytes: storage IV). -/
  iv : List Byte := []
  /-- R407 (16 bytes: storage tag). -/
  tag : List Byte := []
  /-- R407 (ciphertext under K_store). -/
  content : Memory := []
deriving DecidableEq, Repr

/-- A journal record (R412). -/
structure JournalRec where
  /-- R412 (u32). -/
  seq : Nat := 0
  /-- R412 (u8). -/
  kind : Nat := 0
  /-- R412 (u8). -/
  region : Nat := 0
  /-- R412 (u8). -/
  state : Nat := 0
  /-- R412 (u32). -/
  first : Nat := 0
  /-- R412 (u32). -/
  bytes : Nat := 0
  /-- R412 (u32). -/
  version : Nat := 0
deriving DecidableEq, Repr

/-- An armed activation (R410). -/
structure Activation where
  /-- R410 (u8). -/
  slot : Nat := 0
  /-- R410 (ns). -/
  t : Nat := 0
  /-- R410. -/
  handle : Handle := {}
deriving DecidableEq, Repr

/-- A store in progress (R406). -/
structure StoreJob where
  /-- R415 (u32). -/
  length : Nat := 0
  /-- R407 (u8). -/
  slot : Nat := 0
  /-- R408 (1: FOLIO_GOLDEN). -/
  golden : Bool := false
  /-- R406 (u8: the failed step of R406, 0 none so far). -/
  reason : Nat := 0
  /-- R406 (u32). -/
  version : Nat := 0
  /-- R406. -/
  handle : Handle := {}
  /-- R197 (parent link of the relay). -/
  fromLink : Option Nat := none
deriving DecidableEq, Repr

/-- Life cycle, keys, folios, flash and fuses (R394 to R416). -/
structure Life where
  /-- R394, R50 (3, fuses). -/
  lifecycle : Lifecycle := .field
  /-- R394 fuse burn in progress. -/
  nextLifecycle : Option Lifecycle := none
  /-- R394 (u8, fuses). -/
  serviceEntries : Nat := 0
  /-- R395 (draws of the random bit generator). -/
  nonceSeq : Nat := 0
  /-- R397, R415 (1). -/
  secretOk : Bool := false
  /-- R394 (1, fuse). -/
  helperBlown : Bool := false
  /-- R394 (48 bytes, fuses). -/
  k00Hash : List Byte := []
  /-- R394 (48 bytes, fuses). -/
  k02Hash : List Byte := []
  /-- R399 (64). -/
  slots : Tbl KeySlot := []
  /-- R409 (0-255, fuses). -/
  rollback : Nat := 0
  /-- R405 (32 MiB). -/
  a : FolioSlot := {}
  /-- R405 (32 MiB). -/
  b : FolioSlot := {}
  /-- R405 (32 MiB). -/
  golden : FolioSlot := {}
  /-- R408, R412 (u8; 0xFF no SELECT record). -/
  selectSlot : Nat := 255
  /-- R409 (1). -/
  selectTrial : Bool := false
  /-- R409 (u8). -/
  previousSlot : Nat := 255
  /-- R415 (u8: 0 A, 1 B, 2 golden, 0xFF none). -/
  running : Nat := 255
  /-- R412 (128 KiB bank in use, newest first). -/
  journal : List JournalRec := []
  /-- R413 (1). -/
  journalBank : Nat := 0
  /-- R412 (u32). -/
  journalSeq : Nat := 0
  /-- R415 (u32). -/
  recovered : U32 := 0
  /-- R407 (33,554,304 bytes, unlisted 0). -/
  staging : Memory := []
  /-- R407 (bytes). -/
  stagingLength : Nat := 0
  /-- R197 (u32). -/
  stagingVersion : Nat := 0
  /-- R407 (bytes of the stored transport form). -/
  transport : Nat := 0
  /-- R197 (parent link that sends a folio). -/
  receiving : Option Nat := none
  /-- R197 (u32). -/
  receiveVersion : Nat := 0
  /-- R197 (u32). -/
  receiveLength : Nat := 0
  /-- R406. -/
  store : Option StoreJob := none
  /-- R410. -/
  activation : Option Activation := none
  /-- R411 (the activation whose control pause runs). -/
  paused : Option Activation := none
  /-- R409 (ns of the activation). -/
  trialSince : Option Nat := none
  /-- R411 (6: affected units of the newest activation). -/
  mediaMask : Nat := 0
  /-- R411 (ns: end of the audio silence of the newest activation). -/
  silentUntil : Nat := 0
  /-- R411 (ns: end of the skipped Chord runs of the newest activation). -/
  chordUntil : Nat := 0
  /-- R408 (passed-over slot and cause of this start). -/
  fallbacks : List (Nat × Nat) := []
  /-- R408 (slots tried in this start). -/
  tried : List Nat := []
  /-- R420 (u8 slot that FOLIO chose). -/
  pendingLoad : Nat := 255
deriving DecidableEq, Repr

/-- Keep memory (R10, R88, R172, R421): its records. -/
structure KeepMem where
  /-- R88 (64 slots of 32 KiB). -/
  records : Tbl KeepRecord := []
  /-- R92 (1). -/
  restore : Bool := true
  /-- R172 (u16). -/
  nodeId : Nat := 0
  /-- R173 (serial, node: up to 16,382). -/
  plan : List (Nat × Nat) := []
  /-- R421 (newest copy: opcode and payload). -/
  profile : List (Nat × List Byte) := []
  /-- R421 (1: a copy is valid). -/
  profileValid : Bool := false
  /-- R421 (copy written last). -/
  profileCopy : Nat := 0
  /-- R192 (172,696 bytes). -/
  snapshot : Option SnapBank := none
  /-- R282 (u32). -/
  bootCounter : Nat := 0
  /-- R402 (u32: boot counter under which slots with expiry 1 are sealed). -/
  volatileBoot : Nat := 0
  /-- R376 (1: control core context saved). -/
  context : Bool := false
deriving DecidableEq, Repr

/-- Start-up and reset (R417 to R426). -/
structure Boot where
  /-- R50, R420 (u8 STARTUP_PHASE). -/
  phase : Nat := 0
  /-- R50, R424 (u8 RESET_CAUSE). -/
  cause : Nat := 1
  /-- R417 (1 PWRGOOD). -/
  pwrgood : Bool := false
  /-- R418 (1 RESET_N level). -/
  resetN : Bool := false
  /-- R419 (1 BOOT_SRC). -/
  bootSrc : Bool := false
  /-- R419 (3 CLUSTER_ID). -/
  cluster : Nat := 0
  /-- R421 (profile settings in force: opcode, payload). -/
  inForce : List (Nat × List Byte) := []
  /-- R421 (ns). -/
  profileDue : Option Nat := none
  /-- R421 (ns). -/
  profileLast : Option Nat := none
  /-- R424, R426 (ns of a LEGACY_RESET or watchdog reset). -/
  resetDue : Option Nat := none
  /-- R424 (u8). -/
  resetDueCause : Nat := 0
  /-- R418, R444 (1: every driver and transmitter disabled). -/
  driversOff : Bool := true
deriving DecidableEq, Repr

/-- The whole device, and the commands that wait, first in, first out. -/
structure State where
  /-- The time base (R306, R307), counted as one number of 2^-40 ns since the PTP epoch: seconds, nanoseconds and the 16-bit fraction are read from it. -/
  tb : TimeBase := {}
  /-- Command ports, galleys, tag records, the timed list and the status window. -/
  ports : Ports := {}
  /-- The lattice (R58 to R93). -/
  lat : Lattice := {}
  /-- The lanes, octants and lane table. -/
  lanes : Lanes := {}
  /-- MACs, classifier, flows and exception path. -/
  eth : Eth := {}
  /-- The Voxad links. -/
  vox : Voxad := {}
  /-- The hierarchy (R170 to R201). -/
  hier : Hier := {}
  /-- The audio path (R202 to R234). -/
  audio : Audio := {}
  /-- The Chord engines (R235 to R261). -/
  chord : Chord := {}
  /-- The imposition engine. -/
  imp : Imposition := {}
  /-- Memory, plate tables, DMA channels and the bus matrix (R276 to R305). -/
  mem : Plates := {}
  /-- Reference selector, PTP, captures and clocks (R307 to R332). -/
  ref : Time := {}
  /-- The twin unit (R333 to R349). -/
  twin : Twin := {}
  /-- The fault collector (R350 to R367). -/
  faults : Faults := {}
  /-- The power manager (R368 to R383). -/
  power : Power := {}
  /-- The proof engine (R384 to R393). -/
  proof : Proof := {}
  /-- Life cycle, keys, folios, flash and fuses (R394 to R416). -/
  life : Life := {}
  /-- Keep memory (R10, R88, R172, R421): its records. -/
  keep : KeepMem := {}
  /-- Start-up and reset (R417 to R426). -/
  boot : Boot := {}
  /-- The commands that wait, first in, first out: the model's own queue. -/
  pending : List Instr := []
deriving DecidableEq, Repr

/-- A key that the factory put into a slot, as LC_PROVISION does (R399; log 5, log 112). -/
def factorySlot (k : BitVec 776) : KeySlot :=
  { kind := 3, usage := 4, lcMask := 14, uses := 0xFFFFFFFF, key := leBytes 97 k.toNat }

/-- What the factory left in fuses, flash and key slots of a provisioned device (log 5): life-cycle state FIELD, the keys of
K00 and K02 with their fused hashes, a confirmed folio in slot A, and the journal records that say so. -/
def factoryLife : Life :=
  let k00 := factorySlot Config.k00
  let k02 := factorySlot Config.k02
  let state : JournalRec := { seq := 0, kind := 3, region := 2, state := 2 }
  let select : JournalRec := { seq := 1, kind := 4, region := 2, state := 1 }
  { k00Hash := Crypto.sha384 k00.key, k02Hash := Crypto.sha384 k02.key, slots := [(0, k00), (2, k02)]
    a := { state := .valid, length := 12582912, digest := zeros 48 }
    selectSlot := 0, journal := [select, state], journalSeq := 2 }

/-- The machine right after a power-on reset (R417, R424): phase HELD, every field at the value of its declaration, and
what the factory left (log 4, log 5). -/
def State.reset : State := { life := factoryLife }

end Sys2Proof.Machine
end

