-- ==== Sys2Proof/Machine/Ops.lean ====
section
/-! DEFINITION. The operations that every family shares: the time base, events and their delivery, replies, completion
events, fault messages and the safe state. -/

namespace Sys2Proof.Machine

/-! One section of the state changed. -/

def State.onTb (s : State) (f : TimeBase → TimeBase) : State := { s with tb := f s.tb }
def State.onPorts (s : State) (f : Ports → Ports) : State := { s with ports := f s.ports }
def State.onLat (s : State) (f : Lattice → Lattice) : State := { s with lat := f s.lat }
def State.onLanes (s : State) (f : Lanes → Lanes) : State := { s with lanes := f s.lanes }
def State.onEth (s : State) (f : Eth → Eth) : State := { s with eth := f s.eth }
def State.onVox (s : State) (f : Voxad → Voxad) : State := { s with vox := f s.vox }
def State.onHier (s : State) (f : Hier → Hier) : State := { s with hier := f s.hier }
def State.onAudio (s : State) (f : Audio → Audio) : State := { s with audio := f s.audio }
def State.onChord (s : State) (f : Chord → Chord) : State := { s with chord := f s.chord }
def State.onImp (s : State) (f : Imposition → Imposition) : State := { s with imp := f s.imp }
def State.onMem (s : State) (f : Plates → Plates) : State := { s with mem := f s.mem }
def State.onRef (s : State) (f : Time → Time) : State := { s with ref := f s.ref }
def State.onTwin (s : State) (f : Twin → Twin) : State := { s with twin := f s.twin }
def State.onFaults (s : State) (f : Faults → Faults) : State := { s with faults := f s.faults }
def State.onPower (s : State) (f : Power → Power) : State := { s with power := f s.power }
def State.onProof (s : State) (f : Proof → Proof) : State := { s with proof := f s.proof }
def State.onLife (s : State) (f : Life → Life) : State := { s with life := f s.life }
def State.onKeep (s : State) (f : KeepMem → KeepMem) : State := { s with keep := f s.keep }
def State.onBoot (s : State) (f : Boot → Boot) : State := { s with boot := f s.boot }

/-- A list of state changes made in order. -/
def each {α : Type} (l : List α) (f : α → State → State) (s : State) : State := l.foldl (fun s a => f a s) s

/-! The time base. -/

/-- 1 ns in the time base's units (R306). -/
def nsUnits : Nat := 2 ^ 40

/-- 1 s in ns. -/
def sec : Nat := 1000000000

/-- The time base in whole ns since the PTP epoch (R306). -/
def State.now (s : State) : Nat := s.tb.t40 / nsUnits

/-- The time base in whole us (R39). -/
def State.nowUs (s : State) : Nat := s.now / 1000

/-- The nominal increment, 2 ns (R307). -/
def nominalInc : Nat := 2 ^ 41

/-- The increment after so many cycles: it moves towards its target by 219 units a cycle, less than 50 ppm/ms (R318). -/
def moveInc (cycles inc target : Nat) : Nat :=
  if inc < target then min target (inc + 219 * cycles) else max target (inc - 219 * cycles)

/-- One cycle of the I47 clock (R307). -/
def State.tick (s : State) : State :=
  s.onTb (fun b => { t40 := b.t40 + b.inc, inc := moveInc 1 b.inc s.ref.target })

/-- The time base moved on to an instant; an instant already passed leaves it (log 1). -/
def State.advance (at_ : Nat) (s : State) : State :=
  s.onTb (fun b =>
    { t40 := max b.t40 (at_ * nsUnits), inc := moveInc ((at_ * nsUnits - b.t40) / nominalInc) b.inc s.ref.target })

/-- An instant as seconds u64 and nanoseconds u32. -/
def timeBytes (t : Nat) : List Byte := leBytes 8 (t / sec) ++ leBytes 4 (t % sec)

/-- The instant that a seconds and a nanoseconds field name. -/
def instant (secs ns : Nat) : Nat := secs * sec + ns

/-! Outputs that the model records. -/

/-- A DMA write to a host's memory. -/
def State.toHost (side : PcieSide) (address : Nat) (data : List Byte) (s : State) : State :=
  s.onPorts (fun p => { p with hostOut := p.hostOut ++ [{ side := side, address := address, data := data }] })

/-- A free value of one byte (log 8). -/
def State.freeByte (s : State) : Byte × State :=
  (Config.freeByte s.ports.freeCtr, s.onPorts (fun p => { p with freeCtr := p.freeCtr + 1 }))

/-- A free integer (log 8). -/
def State.freeInt (s : State) : Int × State :=
  (Config.freeInt s.ports.freeCtr, s.onPorts (fun p => { p with freeCtr := p.freeCtr + 1 }))

/-! Packets. -/

/-- A packet with its CRC trailer (R35, R36). -/
def packet (opcode tag flags status target originator etref : Nat) (payload : List Byte) : List Byte :=
  let body := leBytes 2 opcode ++ leBytes 2 tag ++ leBytes 2 payload.length ++ leBytes 1 flags ++ leBytes 1 status
    ++ leBytes 2 target ++ leBytes 2 originator ++ leBytes 4 etref ++ payload
  body ++ leBytes 4 (crc32c body)

/-- The device's own node ID (R172). -/
def State.node (s : State) : Nat := s.keep.nodeId

/-- The port code of R56. -/
def portCode : Port → Nat
  | .cpa => 0
  | .cpb => 1
  | .cpm => 2
  | .cpt => 3
  | .link n => 64 + n

/-- The port of a port code (R56). -/
def portOf (code : Nat) : Port :=
  if code = 0 then .cpa else if code = 1 then .cpb else if code = 2 then .cpm else if code = 3 then .cpt
  else .link (code - 64)

/-! Ports. -/

def State.pcie (s : State) (side : PcieSide) : PciePort :=
  match side with
  | .cpa => s.ports.cpa
  | .cpb => s.ports.cpb

def State.onPcie (s : State) (side : PcieSide) (f : PciePort → PciePort) : State :=
  match side with
  | .cpa => s.onPorts (fun p => { p with cpa := f p.cpa })
  | .cpb => s.onPorts (fun p => { p with cpb := f p.cpb })

def State.onCpm (s : State) (f : CpmPort → CpmPort) : State := s.onPorts (fun p => { p with cpm := f p.cpm })
def State.onCpt (s : State) (f : CptPort → CptPort) : State := s.onPorts (fun p => { p with cpt := f p.cpt })

/-- The counters of one port changed (R56). -/
def State.count (s : State) (p : Port) (f : PortCounters → PortCounters) : State :=
  match p with
  | .cpa => s.onPcie .cpa (fun q => { q with counters := f q.counters })
  | .cpb => s.onPcie .cpb (fun q => { q with counters := f q.counters })
  | .cpm => s.onCpm (fun q => { q with counters := f q.counters })
  | .cpt => s.onCpt (fun q => { q with counters := f q.counters })
  | .link n => s.onPorts (fun q => { q with links := q.links.upd n {} (fun l => { l with counters := f l.counters }) })

/-- The counters of one port (R56). -/
def State.counters (s : State) (p : Port) : PortCounters :=
  match p with
  | .cpa => s.ports.cpa.counters
  | .cpb => s.ports.cpb.counters
  | .cpm => s.ports.cpm.counters
  | .cpt => s.ports.cpt.counters
  | .link n => (s.ports.links.at n {}).counters

/-- One event discarded: EVENTS_LOST and the port's events_lost count it (R47). -/
def State.loseEvent (s : State) (p : Port) : State :=
  (s.count p (fun c => { c with eventsLost := c.eventsLost + 1 })).onPorts
    (fun q => { q with eventsLost := q.eventsLost + 1 })

/-- One event of a PCIe port discarded; the next category-15 notice counts it (R47, R454). -/
def State.losePcie (s : State) (side : PcieSide) : State :=
  (s.loseEvent (match side with | .cpa => .cpa | .cpb => .cpb)).onPcie side
    (fun p => { p with discarded := p.discarded + 1, noticeDue := true })

/-- MSI-X vector `v` signalled: the table entry's message is written, or the pending bit set while the entry is
masked (R46, R47; the entry's layout is PCIe's, log 9). -/
def State.signalMsix (side : PcieSide) (v : Nat) (s : State) : State :=
  let p := s.pcie side
  if p.msixMask.getLsbD v then
    let e := Memory.readN p.msixTable (16 * v) 16
    if bit (u32 e 12) 0 then s.onPcie side (fun p => { p with pba := p.pba ||| BitVec.ofNat 16 (2 ^ v) })
    else s.toHost side (u64 e 0) (leBytes 4 (u32 e 8))
  else s

/-- The entry of an event ring: one event packet, zero-filled to 64 bytes (R47). -/
def ringEntry (packet : List Byte) : List Byte := packet ++ zeros (64 - packet.length)

/-- An event written to a port's ring; the producer advances and the category's vector is signalled (R47). -/
def State.writeEvent (side : PcieSide) (e : EventEntry) (s : State) : State :=
  let p := s.pcie side
  let slot := p.evtProducer.toNat % 256
  (((s.toHost side (p.evtRingBase.toNat + 64 * slot) (ringEntry e.packet)).onPcie side
    (fun p => { p with ring := p.ring ++ [e], evtProducer := p.evtProducer + 1 })).signalMsix side e.category)

/-- The newest held notice taken out of a held list; completion events stay (R47). -/
def dropNewestNotice (l : List EventEntry) : Option (List EventEntry) :=
  let r := l.reverse
  match r.findIdx? (fun e => e.category != 1) with
  | none => none
  | some i => some (r.eraseIdx i).reverse

/-- Whether the category-15 notice has to be the next entry: EVT_RING_EN was set with events discarded before, and
category 15 is enabled (R47, R454). -/
def PciePort.noticeAhead (p : PciePort) : Bool := p.noticeFirst && p.noticeDue && p.ringMask.getLsbD 15

/-- An event offered to a port's ring: written, held, displacing the newest held notice, or discarded (R47). -/
def State.deliver (side : PcieSide) (e : EventEntry) (s : State) : State :=
  let p := s.pcie side
  if !p.evtRingEn then s.losePcie side
  else if p.ring.length < 256 && p.held.isEmpty && !p.noticeAhead then s.writeEvent side e
  else if p.held.length < 64 then s.onPcie side (fun p => { p with held := p.held ++ [e] })
  else if e.category = 1 then
    match dropNewestNotice p.held with
    | some l => (s.losePcie side).onPcie side (fun p => { p with held := l ++ [e] })
    | none => s.onPcie side (fun p => { p with held := p.held ++ [e] })
  else s.losePcie side

/-- The packet of a notice (R56): 44 payload bytes, the detail zero-filled to 24. -/
def State.noticePacket (s : State) (category code obj : Nat) (detail : List Byte) (target originator : Nat) :
    List Byte :=
  packet 0x000F 0 2 0 target originator (s.nowUs % 2 ^ 32)
    (leBytes 1 category ++ [0] ++ leBytes 2 code ++ leBytes 4 obj ++ timeBytes s.now
      ++ (detail ++ zeros 24).take 24)

/-- The category-15 notice of a port, if one is owed and enabled and the ring has room (R47, R454). -/
def State.noticeLost (side : PcieSide) (s : State) : State :=
  let p := s.pcie side
  if p.noticeDue && p.evtRingEn && (p.held.isEmpty || p.noticeAhead) && p.ring.length < 256 && p.ringMask.getLsbD 15 then
    let s := s.onPorts (fun q => { q with eventCount := q.eventCount + 1 })
    let e : EventEntry := { category := 15,
                            packet := s.noticePacket 15 1 (match side with | .cpa => 0 | .cpb => 1)
                              (leBytes 4 p.discarded.toNat ++ leBytes 4 s.ports.eventsLost.toNat) 0 0 }
    (s.writeEvent side e).onPcie side (fun p => { p with discarded := 0, noticeDue := false, noticeFirst := false })
  else s

/-- Held events written in order while the ring has room. -/
def State.refillHeld (side : PcieSide) : Nat → State → State
  | 0, s => s
  | n + 1, s =>
    match (s.pcie side).held with
    | [] => s
    | e :: r =>
      if (s.pcie side).ring.length < 256 then
        State.refillHeld side n ((s.onPcie side (fun p => { p with held := r })).writeEvent side e)
      else s

/-- What happens when room returns in a port's ring (R47): a notice that has to come first, the held events in order, and
then the notice of what was discarded. -/
def State.refill (side : PcieSide) (s : State) : State :=
  let s := if (s.pcie side).noticeAhead then s.noticeLost side else s
  (s.refillHeld side (s.pcie side).held.length).noticeLost side

/-- Whether EVENT_N is asserted: an unconsumed event of an enabled category stands in a ring (R48), or a CLOCK_FALLBACK,
whatever the mask (R327). -/
def State.eventN (s : State) : Bool :=
  let on (e : EventEntry) := e.urgent || s.ports.eventNMask.getLsbD e.category
  s.ports.cpa.ring.any on || s.ports.cpb.ring.any on

/-! Voxad links: what is put on them. -/

def State.link (s : State) (n : Nat) : Link := s.vox.links.at n {}
def State.onLink (s : State) (n : Nat) (f : Link → Link) : State :=
  s.onVox (fun v => { v with links := v.links.upd n {} f })

/-- Lanes of a width code (R153). -/
def widthLanes (w : Nat) : Nat := 2 ^ w

/-- The block type of a channel of the record: VC 0 to 3, 4 CONTROL, 5 TRAIN (R148). -/
def blockTypeOf (channel : Nat) : Nat := if channel = 4 then 2 else if channel = 5 then 1 else 8 + channel

/-- Something put on a link's channel: VC 0 to 3, 4 a CONTROL block, 5 TRAIN data, 6 a wake burst (log 7). A block takes its
member lane and sequence from the count of blocks before it, IDLE ones among them (R147, R152, R157; log 147); `poison`
are the places where K30.7 stands for a byte (R146). -/
def State.emitWith (poison : List Nat) (n channel : Nat) (data : List Byte) (s : State) : State :=
  let w := widthLanes (s.link n).width
  s.onPorts (fun p =>
    if channel = 6 then
      { p with linkOut := p.linkOut ++ [{ link := n, channel := 6, data := data }], txBlocks := p.txBlocks.put n 0 }
    else
      let sent := p.txBlocks.at n 0
      let idle := if channel < 5 && p.txAt.at n 0 != s.now then Config.idleBlocks n sent else 0
      let k := sent + idle
      { p with
        linkOut := p.linkOut ++ [{ link := n, channel := channel, data := data, member := k % w,
                                   typeSeq := 16 * blockTypeOf channel + k / w % 16, idle := idle, poison := poison }]
        txBlocks := p.txBlocks.put n (k + 1)
        txAt := p.txAt.put n s.now })

def State.emit (n channel : Nat) (data : List Byte) (s : State) : State := s.emitWith [] n channel data

/-- The payload of a CONTROL block that carries one message among NOPs: 15 messages and their CRC-16 (R154). -/
def controlBlock (msg : List Byte) : List Byte :=
  let m := msg ++ zeros (60 - msg.length)
  m ++ leBytes 2 (crc16 m)

/-- A CONTROL message sent (R154). -/
def State.sendControl (n : Nat) (msg : List Byte) (s : State) : State := s.emit n 4 (controlBlock msg)

def Link.credit (l : Link) (vc : Nat) : VcCredit := if vc = 1 then l.vc1 else if vc = 2 then l.vc2 else l.vc3
def Link.onCredit (l : Link) (vc : Nat) (f : VcCredit → VcCredit) : Link :=
  if vc = 1 then { l with vc1 := f l.vc1 } else if vc = 2 then { l with vc2 := f l.vc2 } else { l with vc3 := f l.vc3 }
def Link.queueOf (l : Link) (vc : Nat) : List (List Byte) :=
  if vc = 0 then l.queue0.map (·.1) else if vc = 1 then l.queue1 else if vc = 2 then l.queue2 else l.queue3
def Link.setQueue (l : Link) (vc : Nat) (q : List (List Byte)) : Link :=
  if vc = 1 then { l with queue1 := q } else if vc = 2 then { l with queue2 := q } else { l with queue3 := q }
def Link.heldUntil (l : Link) (vc : Nat) : Nat :=
  if vc = 0 then l.held0 else if vc = 1 then l.held1 else if vc = 2 then l.held2 else 0

/-- Credits left to send on a VC (R161). -/
def VcCredit.left (c : VcCredit) : Nat := (c.offered + 65536 - (c.sent + 65536 - c.freed) % 65536) % 65536

/-- Blocks that so many bytes fill, 60 to a block (R150). -/
def blocksOf (n : Nat) : Nat := cdiv n 60

/-- The payload of one VC block (R150). -/
def vcPayload (stream : Nat) (first last : Bool) (data : List Byte) : List Byte :=
  bytes [stream, data.length + 64 * flag first + 128 * flag last] ++ (data ++ zeros 60).take 60

/-- A frame or packet cut into the blocks that carry it, at most `k` of them (R150, R151). -/
def vcBlocks (stream : Nat) (first : Bool) : Nat → List Byte → List (List Byte)
  | 0, _ => []
  | k + 1, d =>
    let last : Bool := d.length ≤ 60
    vcPayload stream first last (d.take 60) :: (if last then [] else vcBlocks stream false k (d.drop 60))

/-- The blocks of a frame or packet (R150). -/
def blocksFor (stream : Nat) (d : List Byte) : List (List Byte) := vcBlocks stream true (blocksOf d.length) d

/-- Whether a VC of an UP link has a block that may leave: credit is left, on VC0 none is needed, and no HOLD stands (R161,
R163). -/
def Link.ready (l : Link) (now vc : Nat) : Bool :=
  l.state = .up && !(l.queueOf vc).isEmpty && (vc = 0 || 0 < (l.credit vc).left) && l.heldUntil vc ≤ now

/-- The VC whose block leaves next: VC3, VC0, then VC1 and VC2, alternately when both are ready (R162). -/
def Link.choose (l : Link) (now : Nat) : Option Nat :=
  if l.ready now 3 then some 3
  else if l.ready now 0 then some 0
  else if l.ready now 1 && !(l.ready now 2 && l.lastVc = 1) then some 1
  else if l.ready now 2 then some 2
  else none

/-- The bookkeeping of a block that leaves a VC's queue (R161, R162). -/
def Link.took (l : Link) (vc : Nat) : Link :=
  if vc = 0 then { l with queue0 := l.queue0.drop 1 }
  else
    let l := (l.setQueue vc ((l.queueOf vc).drop 1)).onCredit vc (fun c => { c with sent := (c.sent + 1) % 65536 })
    if vc ≤ 2 then { l with lastVc := vc } else l

/-- Blocks leave in the order of precedence while one may (R161 to R163). -/
def State.drainLink (n : Nat) : Nat → State → State
  | 0, s => s
  | k + 1, s =>
    match (s.link n).choose s.now with
    | none => s
    | some vc =>
      let poison := if vc = 0 then ((s.link n).queue0.headD ([], [])).2 else []
      State.drainLink n k ((s.emitWith poison n vc (((s.link n).queueOf vc).headD [])).onLink n (fun l => l.took vc))

/-- Everything that may leave on a link leaves. -/
def State.drain (n : Nat) (s : State) : State :=
  let l := s.link n
  s.drainLink n (l.queue0.length + l.queue1.length + l.queue2.length + l.queue3.length)

/-- The time that counts towards the transaction timeouts of a link is brought up to now: not while VC1 is held, nor while
blocks of the VC wait for credit (R181). -/
def State.countLink (n : Nat) (s : State) : State :=
  s.onLink n (fun l =>
    let free (q : List (List Byte)) (held : Nat) : Nat :=
      if l.state = .up && q.isEmpty then s.now - max l.countedAt held else 0
    { l with counted1 := l.counted1 + free l.queue1 l.held1, counted2 := l.counted2 + free l.queue2 l.held1,
             countedAt := max l.countedAt s.now })

/-- A packet or message queued on VC1, VC2 or VC3 of an UP link, as the blocks that carry it; on a link that is not UP it
is lost. -/
def State.putLink (n vc : Nat) (data : List Byte) (s : State) : State :=
  if (s.link n).state = .up then
    ((s.countLink n).onLink n (fun l => l.setQueue vc (l.queueOf vc ++ blocksFor 0 data))).drain n
  else s

/-- A frame of a VC0 stream queued on an UP link; `poisoned` names its bytes whose source data were uncorrectable, which K30.7
replaces (R146, R150). -/
def State.putStream (n stream : Nat) (data : List Byte) (poisoned : List Nat) (s : State) : State :=
  let places (k : Nat) : List Nat := (poisoned.filter (fun p => p / 60 = k)).map (fun p => 2 + p % 60)
  if (s.link n).state = .up then
    (s.onLink n (fun l => { l with
      queue0 := l.queue0 ++ (blocksFor stream data).zipIdx.map (fun b => (b.1, places b.2)) })).drain n
  else s

/-- The 8-byte link transaction header (R179). -/
def txHeader (txid kind path hops content bytes : Nat) : List Byte :=
  let h := leBytes 2 (txid % 1024 + 1024 * kind + 4096 * path) ++ leBytes 1 hops ++ leBytes 1 content ++ leBytes 2 bytes
  h ++ leBytes 2 (crc16 h)

/-- Blocks received on a VC and freed at once (R161). -/
def State.gotBlocks (n vc k : Nat) (s : State) : State :=
  if (s.link n).state != .up then s
  else s.onLink n (fun l => l.onCredit vc (fun c =>
    { c with received := (c.received + k) % 65536, returned := (c.returned + k) % 65536 }))

/-- The credit that this end offers on a VC, in blocks (R153). -/
def creditOffer (vc : Nat) : Nat := if vc = 1 then 128 else if vc = 2 then 1024 else 16

/-- Blocks that the peer may still send on a VC (R161). -/
def State.creditRoom (n vc : Nat) (s : State) : Nat :=
  let c := (s.link n).credit vc
  creditOffer vc - (c.received + 65536 - c.told) % 65536

/-- A packet or message of `k` blocks received: one that comes within credit goes on to `f`; of any other the blocks beyond
are discarded and counted, and the packet is lost with them (R151, R161). -/
def State.receiveBlocks (n vc k : Nat) (f : State → State) (s : State) : State :=
  if (s.link n).state != .up || k ≤ s.creditRoom n vc then f (s.gotBlocks n vc k)
  else
    let room := s.creditRoom n vc
    (s.gotBlocks n vc room).onLink n (fun l => { l with counters :=
      { l.counters with creditErrors := l.counters.creditErrors + BitVec.ofNat 32 (k - room) } })

/-- A packet sent as a transaction of a kind (0 REQUEST, 1 RESPONSE, 2 POSTED) on a link (R179). -/
def State.putPacket (n vc txid kind path hops : Nat) (pkt : List Byte) (s : State) : State :=
  s.putLink n vc (txHeader txid kind path hops 0 pkt.length ++ pkt)

/-! Routes upward and downward (R174 to R177). -/

/-- A usable parent link: UP, and its peer does not advertise STANDBY (R175). -/
def State.usableParent (s : State) (n : Nat) : Bool :=
  let l := s.link n
  l.role = .parent && l.state = .up && l.peer.twinRole != 2

/-- The usable parent links in ascending number (R175). -/
def State.parents (s : State) : List Nat := s.vox.links.keys.filter s.usableParent

/-- A facet with no usable parent link is detached (R176). -/
def State.detached (s : State) : Bool := !s.hier.apexRole && s.parents.isEmpty

/-- A child link whose peer is DORMANT, or is being woken: traffic for it is held while it trains (R30; log 150). -/
def Link.wakes (l : Link) : Bool := l.role = .child && l.cause = 9 && l.state != .up && l.state != .off

/-- The link on which a packet for a target leaves (R177): a route slot whose link is UP, or one whose DORMANT peer the
packet wakes (R30); for a target without a route entry, a facet's primary parent. -/
def State.routeLink (target path : Nat) (s : State) : Option Nat :=
  let r := s.hier.routes.at target {}
  let up (n : Nat) : Bool := n != 255 && (s.link n).state = .up
  let wakes (n : Nat) : Bool := n != 255 && (s.link n).wakes
  let a := if path = 0 then r.slot0 else r.slot1
  let b := if path = 0 then r.slot1 else r.slot0
  if up a then some a else if up b then some b
  else if wakes a then some a else if wakes b then some b
  else if r.slot0 != 255 || r.slot1 != 255 then none
  else if s.hier.apexRole then none else s.parents.head?

/-- The link for a packet that this device originates: through a parent only once it has joined there (R176, R183). -/
def State.ownRoute (target path : Nat) (s : State) : Option Nat :=
  match s.routeLink target path with
  | some n => if (s.link n).role != .parent || (s.hier.parentTiers.get? n).isSome then some n else none
  | none => none

/-- A POSTED packet for a target sent on its route; without a route it is lost (R179, R190), and counted nowhere (DESIGN
CHOICE, log 159). -/
def State.post (vc target : Nat) (pkt : List Byte) (s : State) : State :=
  match s.routeLink target 0 with
  | some n => s.putPacket n vc 0 2 0 8 pkt
  | none => s

/-! Events. -/

/-- Whether a port's ring_mask enables a category; category 1 always is (R47). -/
def enabled (mask : U16) (category : Nat) : Bool := category = 1 || mask.getLsbD category

/-- A notice sent towards the originator that listens on a link (R54). -/
def State.raiseOnLinks (category code obj : Nat) (detail : List Byte) (s : State) : State :=
  each s.ports.links (fun e s =>
    if e.2.ringMask.getLsbD category then
      s.post 1 (e.2.listener % 16384)
        (s.noticePacket category code obj detail (e.2.listener % 16384) (s.node + 16384))
    else s) s

/-- An event raised: EVENT_COUNT counts it, and every port that enables its category receives it (R47, R54, R56). -/
def State.raise (category code obj : Nat) (detail : List Byte) (s : State) : State :=
  let s := s.onPorts (fun q => { q with eventCount := q.eventCount + 1 })
  let e : EventEntry := { category := category, packet := s.noticePacket category code obj detail 0 0 }
  let s := if enabled s.ports.cpa.ringMask category then s.deliver .cpa e else s
  let s := if enabled s.ports.cpb.ringMask category then s.deliver .cpb e else s
  s.raiseOnLinks category code obj detail

/-! Fault messages (R350 to R361). -/

/-- The default severity of a source, 0 for a source that R352 does not define. -/
def defaultSeverity (src : Nat) : Nat :=
  if src ≤ 0x0FF then 2 else if src ≤ 0x13F then 2 else if src ≤ 0x15F then 3 else if src ≤ 0x17F then 2
  else if src ≤ 0x1BF then 2 else if src = 0x1C0 then 2 else if src = 0x1C1 then 4
  else if 0x1C2 ≤ src && src ≤ 0x1C5 then 3 else if src = 0x1C8 then 3
  else if 0x200 ≤ src && src ≤ 0x23F then 2 else if src = 0x240 || src = 0x241 then 2 else if src = 0x242 then 4
  else if src = 0x250 then 2 else if src = 0x260 then 4 else if src = 0x270 then 3
  else if src = 0x271 || src = 0x280 then 2 else if 0x290 ≤ src && src ≤ 0x293 then 2
  else if 0x2A0 ≤ src && src ≤ 0x2A2 then 4 else if src = 0x2F0 then 5 else if src = 0x2FF then 5 else 0

/-- The severity programmed for a source (R352). -/
def State.severity (s : State) (src : Nat) : Nat :=
  if src = 0x2FF then 5 else s.faults.severities.at src (defaultSeverity src)

/-- A notice is kind ECC_CORRECTED; every other kind is a fault (R352, R367). -/
def isNotice (kind : Nat) : Bool := kind = 1

/-- FAULT_N asserted by a fault, and its 20 us started again (R358). -/
def State.assertFaultN (s : State) : State :=
  s.onFaults (fun f => { f with pinLow := true, lastAssert := s.now, releaseDue := false })

/-- A record put on the collector queue: coalesced, appended or discarded (R359). -/
def queueFault (f : Faults) (m : FaultMsg) : Faults :=
  if f.queue.any (fun e => e.source == m.source && e.kind == m.kind) then
    { f with queue := f.queue.map (fun e =>
        if e.source == m.source && e.kind == m.kind then
          { e with count := sat 65535 (e.count + m.count), severity := max e.severity m.severity }
        else e) }
  else if f.queue.length < 64 then { f with queue := f.queue ++ [m] }
  else { f with overflow := f.overflow + 1, overflowFlag := true }

/-- The first whole microsecond after an instant (R344, R355). -/
def nextUs (t : Nat) : Nat := (t / 1000 + 1) * 1000

/-- The code of a twin role (R50, R348). -/
def TwinRole.code : TwinRole → Nat
  | .solo => 0
  | .active => 1
  | .standby => 2

/-- The twin role changed, with its event (R349). -/
def State.setTwinRole (r : TwinRole) (cause : Nat) (s : State) : State :=
  let old := s.twin.role.code
  (s.onTwin (fun t => { t with role := r })).raise 8 1 r.code (bytes [old, cause])

/-- An ACTIVE twin drops TWIN_ACT at `t` and becomes STANDBY with fit 0 (R344); its parent and child links retrain
within 1 ms (R346). -/
def State.twinDrop (t cause : Nat) (s : State) : State :=
  (s.onTwin (fun w => { w with act := false, fitLost := true, tDrop := t, cause := cause, swapAt := none,
                               retrainDue := true })).setTwinRole .standby cause

/-- The safe state entered: the source that caused it, and its event owed (R355). -/
def State.enterSafe (src : Nat) (s : State) : State :=
  if s.faults.safe then s
  else s.onFaults (fun f => { f with safe := true, safeBy := src, safeEvent := true })

/-- A message classified by the severity of its source (R353): the counts, the active flags, the queue and each
severity's reaction. -/
def State.classify (m : FaultMsg) (s : State) : State :=
  let sev := if isNotice m.kind then 1 else if defaultSeverity m.source = 0 then 1 else s.severity m.source
  let s := s.onFaults (fun f =>
    let f := if defaultSeverity m.source = 0 then f
             else { f with counts := f.counts.upd m.source 0 (fun c => (c + m.count) % 2 ^ 32) }
    let f := if isNotice m.kind || defaultSeverity m.source = 0 then f
             else { f with active := f.active.upd m.source 0 (fun v => max v sev) }
    queueFault f { m with severity := sev })
  let s := if sev ≥ s.faults.minSeverity then s.assertFaultN else s
  let s := if sev = 5 then s.enterSafe m.source else s
  let s := if sev ≥ 4 then s.onFaults (fun f => { f with yielded := true }) else s
  if sev ≥ 4 && s.twin.role = .active then s.twinDrop (nextUs s.now) (if sev = 5 then 2 else 1) else s

/-- Whether I36 runs and takes fault messages: not while HELD, DORMANT or OFF; a wake switches it on in step 3 (R364,
R375, R420). -/
def State.i36On (s : State) : Bool :=
  s.boot.phase != 0 && (s.power.state != .dormant || s.power.wakingStep ≥ 3) && !s.power.off

/-- Whether the command ports take commands as far as the power state goes: a wake does from step 4 (R375). -/
def State.portsAwake (s : State) : Bool :=
  (s.power.state != .dormant || s.power.wakingStep ≥ 4) && !s.power.off

/-- A message that stands for so many detections (R350, R351): the collector takes it, or its block holds it while I36
is off. -/
def State.faultMsg (source kind detail count : Nat) (s : State) : State :=
  let m : FaultMsg := { source := source, kind := kind, detail := detail % 2 ^ 48, t := s.now, count := count }
  if s.i36On then s.classify m
  else if s.faults.held.any (fun e => e.source == source && e.kind == kind) then
    s.onFaults (fun f => { f with held := f.held.map (fun e =>
      if e.source == source && e.kind == kind then { e with count := sat 65535 (e.count + count) } else e) })
  else s.onFaults (fun f => { f with held := f.held ++ [m] })

/-- A block detects a fault (R350). -/
def State.fault (source kind detail : Nat) (s : State) : State := s.faultMsg source kind detail 1

/-- The messages that blocks hold reach the collector in order of detection (R351, R364). -/
def State.takeHeld (s : State) : State :=
  each s.faults.held State.classify (s.onFaults (fun f => { f with held := [] }))

/-- The highest severity among active sources, SAFE during a collector self-fault (R354, R361). -/
def State.topSeverity (s : State) : Nat :=
  if s.faults.selfFault then 5 else s.faults.active.foldl (fun m e => max m e.2) 0

/-- Whether the device drives its media outputs: ACTIVE, or SOLO with TWIN_PEER low; a SOLO device that already drives
goes on until contention resolves (R333, R335). -/
def State.drives (s : State) : Bool :=
  s.twin.role = .active || (s.twin.role = .solo && (s.twin.act || !s.twin.peerPin))

/-- Whether lane commands and services run in the life-cycle state (R29). -/
def State.inField (s : State) : Bool :=
  s.life.lifecycle = .factory || s.life.lifecycle = .field || s.life.lifecycle = .service

/-! The tag record (R38). -/

/-- The key of an originator's tag record: the local port, or the 16-bit originator of a link (R37, R172). -/
def tagKey (p : Port) (originator : Nat) : Nat :=
  match p with
  | .link _ => 65536 + originator
  | p => portCode p

def State.onTags (s : State) (k : Nat) (f : List TagEntry → List TagEntry) : State :=
  s.onPorts (fun p => { p with tags := p.tags.upd k [] f })

/-- The record of an admitted tag, if one is kept (R38). -/
def State.findTag (s : State) (k tag : Nat) : Option TagEntry := (s.ports.tags.at k []).find? (fun e => e.tag == tag)

/-- A tag admitted: the newest of the last 1,024, in progress (R38). -/
def State.recordTag (s : State) (k tag : Nat) : State :=
  s.onTags k (fun l => ({ tag := tag, status := 1, length := 0 } :: l).take 1024)

/-- Whether descriptor fetch stopped on a command's port while the command was in progress (R49). -/
def State.isCut (s : State) (k tag : Nat) : Bool := (s.findTag k tag).any (·.cut)

/-- The final answer of a tag: a BUSY tag is removed (R452), any other keeps status and length (R38). -/
def State.finishTag (s : State) (k tag status length : Nat) : State :=
  if status = 2 then s.onTags k (fun l => l.filter (fun e => e.tag != tag))
  else s.onTags k (fun l => l.map (fun e => if e.tag = tag then { e with status := status, length := length } else e))

/-! Replies and completion events. -/

/-- How a command ended: its status code (R55) and its reply payload. -/
structure Res where
  status : Nat
  payload : List Byte := []
deriving DecidableEq, Repr

/-- A command's meaning once it executes: its answer and the state it leaves. -/
abbrev Body := Request → State → Res × State

/-- A reply packet of an opcode to a request (R35, R39): originator and target change places. -/
def State.replyPacket (s : State) (opcode : Nat) (rq : Request) (status : Nat) (payload : List Byte) : List Byte :=
  packet opcode rq.tag 1 status (rq.originator % 16384) s.node (s.nowUs % 2 ^ 32) payload

/-- Room made for a reply in CPT's queue: its place was reserved, so the newest entry of a full queue is a completion event
that found no room (R53; log 142). -/
def State.cptRoom (s : State) : State :=
  if s.ports.cpt.queue.length < 64 then s
  else (s.loseEvent .cpt).onCpt (fun p => { p with queue := p.queue.take 63 })

/-- A packet put where a port's replies go (R31, R45, R52, R53, R180). An empty packet is a suppressed OK. -/
def State.sendReply (rq : Request) (status : Nat) (pkt : List Byte) (s : State) : State :=
  match rq.port with
  | .cpa | .cpb =>
    let side : PcieSide := if rq.port = .cpa then .cpa else .cpb
    if (s.pcie side).cmdRingEn then
      s.onPcie side (fun p => { p with replies := p.replies ++
        [{ slot := rq.slot, replyAddr := rq.replyAddr, status := status, packet := pkt }] })
    else s.loseEvent rq.port
  | .cpm => if pkt.isEmpty then s else s.onCpm (fun p => { p with replies := p.replies ++ [pkt] })
  | .cpt => if pkt.isEmpty then s else s.cptRoom.onCpt (fun p => { p with queue := p.queue ++ [pkt] })
  | .link n => if pkt.isEmpty then s else s.putPacket n rq.vc rq.txid 1 0 8 pkt

/-- A request refused at admission: a reply of length 0 (R41), and the port's counters (R56), which count refusals of
admission only (DESIGN CHOICE, log 160). -/
def State.refuse (opcode : Nat) (rq : Request) (status : Nat) (payload : List Byte) (s : State) : State :=
  let s := s.count rq.port (fun c =>
    if status = 2 then { c with busy := c.busy + 1 }
    else if status = 4 then { c with badCrc := c.badCrc + 1 }
    else if status = 12 then { c with duplicate := c.duplicate + 1 }
    else { c with refusedOther := c.refusedOther + 1 })
  s.sendReply rq status (s.replyPacket opcode rq status payload)

/-- Whether NOACK suppresses an answer: only an OK reply (R43). -/
def silent (rq : Request) (status : Nat) : Bool := bit rq.flags 2 && status = 0

/-! Mirrored commands (R339). -/

/-- The tag that a command carries on the twin link (R37, R339). -/
def twinTag (p : Port) (tag : Nat) : Nat :=
  match p with
  | .link _ => tag
  | p => tag % 16384 + 16384 * portCode p

/-- A device leaves its pair: SOLO, unpaired (R30, R348). -/
def State.splitPair (cause : Nat) (s : State) : State :=
  if s.twin.role = .solo then s
  else
    (((s.onTwin (fun t => { t with pairState := 0, mirrored := false, settled := false, swapAt := none })).onPorts
      (fun p => { p with mirrorPending := [] })).setTwinRole .solo cause)

/-- The two final statuses of a mirrored command, once both are known: a difference raises MIRROR_DIVERGED and clears
the standby's fit (R339, R342); for a lane command the pair splits (R30). The standby hears of either (log 90). -/
def State.mirrorJudge (e : MirrorWait) (s : State) : State :=
  match e.own, e.peer with
  | some a, some b =>
    let s := s.onPorts (fun p => { p with mirrorPending := p.mirrorPending.erase e })
    if a = b then s
    else
      let s := ((s.onTwin (fun t => { t with fitLost := true, diverged := t.diverged + 1 })).raise 8 7 e.opcode
        (leBytes 2 e.portTag ++ bytes [a, b])).fault 0x250 0x82 e.opcode
      let tell (k : Nat) (s : State) : State :=
        s.putPacket s.twin.link 2 0 2 0 8 (packet 0xA012 0 0 0 0 (s.node + 16384) 0 (bytes [k, flag (k = 9), 0, 0]))
      if e.opcode / 4096 = 2 then (tell 9 s).splitPair 0 else tell 10 s
  | _, _ => s

/-- A final status of a mirrored command arrives from one side (R339). -/
def State.mirrorSide (opcode tag : Nat) (f : MirrorWait → MirrorWait) (s : State) : State :=
  match s.ports.mirrorPending.find? (fun e => e.opcode = opcode && e.tag = tag) with
  | none => s
  | some e =>
    (s.onPorts (fun p => { p with mirrorPending := p.mirrorPending.map (fun x => if x = e then f x else x) })).mirrorJudge (f e)

/-- The active's own final status (R339). -/
def State.mirrorOwn (opcode : Nat) (p : Port) (tag status : Nat) (s : State) : State :=
  s.mirrorSide opcode (twinTag p tag) (fun e => { e with own := some status })

/-- The apex commands that a standby ends with ACCEPTED: what completes them is the active's alone (R199; log 151). -/
def apexOnly (opcode : Nat) : Bool := opcode = 0x3021 || opcode = 0x3022 || opcode = 0x3031

/-- The standby's status: ACCEPTED is not final (R339). Of an apex's own command it is all the standby ever says. -/
def State.mirrorStatus (opcode tag status : Nat) (s : State) : State :=
  if status = 1 && apexOnly opcode then
    s.onPorts (fun p => { p with mirrorPending := p.mirrorPending.filter (fun e => !(e.opcode = opcode && e.tag = tag)) })
  else if status = 1 then s else s.mirrorSide opcode tag (fun e => { e with peer := some status })

/-- An executed command answered: its tag is finished unless it completes later, and its reply is sent (R43, R452), or
discarded and counted where descriptor fetch has stopped meanwhile (R49). -/
def State.answer (opcode : Nat) (rq : Request) (r : Res) (s : State) : State :=
  let cut := s.isCut (tagKey rq.port rq.originator) rq.tag
  let s := if r.status = 1 then s
    else (s.finishTag (tagKey rq.port rq.originator) rq.tag r.status r.payload.length).mirrorOwn opcode rq.port rq.tag r.status
  if cut then s.loseEvent rq.port
  else s.sendReply rq r.status (if silent rq r.status then [] else s.replyPacket opcode rq r.status r.payload)

/-- What the completion event of a request's command will need (R43). -/
def handleOf (opcode : Nat) (rq : Request) : Handle :=
  { port := rq.port, opcode := opcode, tag := rq.tag, originator := rq.originator, mirrored := bit rq.flags 3,
    noack := bit rq.flags 2, slot := rq.slot, replyAddr := rq.replyAddr, late := rq.late }

/-- The commands that the transactions of a link carry for a local port (R37). -/
def Link.forwardedFor (l : Link) (p : Port) : Nat :=
  ((l.outstanding ++ l.waiting).filter (fun t => t.handle.any (fun h => h.port = p))).length

/-- A port's commands that were forwarded into the hierarchy and are not answered yet (R37, R183). -/
def State.forwardedFor (s : State) (p : Port) : Nat :=
  s.vox.links.foldl (fun n e => n + e.2.forwardedFor p) 0
    + (s.hier.waiting.filter (fun w => w.handle.any (fun h => h.port = p))).length

/-- A port's galley. -/
def State.galley (s : State) (p : Port) : List Queued := s.ports.galleys.at (portCode p) []

/-- Reply places that a port's commands hold (R52, R53): those in its galley, those forwarded and not answered, and CPM's
own on the timed list, which are answered when they execute (log 142). -/
def State.reserved (s : State) (p : Port) : Nat :=
  (s.galley p).length + s.forwardedFor p
    + (if p = .cpm then (s.ports.timed.filter (fun t => t.cmd.request.port = .cpm)).length else 0)

/-- A completion event handed to a local port (R31, R43, R47, R53). -/
def State.completionAt (p : Port) (pkt : List Byte) (s : State) : State :=
  match p with
  | .cpa => if s.ports.cpa.cmdRingEn then s.deliver .cpa { category := 1, packet := pkt } else s.losePcie .cpa
  | .cpb => if s.ports.cpb.cmdRingEn then s.deliver .cpb { category := 1, packet := pkt } else s.losePcie .cpb
  | .cpt => if s.ports.cpt.queue.length + s.reserved .cpt < 64 then s.onCpt (fun p => { p with queue := p.queue ++ [pkt] })
            else s.loseEvent .cpt
  | _ => s

/-- A completion event (R43): it ends the tag and goes to the command's port. A mirrored command completes at the
active twin's port; the standby returns its final status over the twin link (R339). An action that a time-base step passed over reports LATE in place of OK (R315). The event of a command whose port
stopped descriptor fetch meanwhile is discarded and counted (R49). -/
def State.complete (h : Handle) (status : Nat) (payload : List Byte) (s : State) : State :=
  let payload := payload.take 44
  let status := if h.late && status = 0 then 11 else status
  let cut := s.isCut (tagKey h.port h.originator) h.tag
  let s := s.finishTag (tagKey h.port h.originator) h.tag status payload.length
  if h.mirrored then
    (match h.port with
     | .link n => s.putPacket n 1 0 2 0 8 (packet h.opcode h.tag 11 status 0 s.node (s.nowUs % 2 ^ 32) payload)
     | _ => s)
  else
  let s := s.mirrorOwn h.opcode h.port h.tag status
  let s := s.onPorts (fun q => { q with eventCount := q.eventCount + 1 })
  let pkt := packet h.opcode h.tag 3 status (h.originator % 16384) s.node (s.nowUs % 2 ^ 32) payload
  match h.port with
  | .link n =>
    if (s.link n).role = .twin || h.originator % 16384 = 0 then s.putPacket n 1 0 2 0 8 pkt
    else s.post 1 (h.originator % 16384) pkt
  | .cpa => if cut then s.losePcie .cpa else s.completionAt .cpa pkt
  | .cpb => if cut then s.losePcie .cpb else s.completionAt .cpb pkt
  | p => s.completionAt p pkt

/-- A completion event where one is owed. -/
def State.completeOpt (h : Option Handle) (status : Nat) (payload : List Byte) (s : State) : State :=
  match h with
  | some h => s.complete h status payload
  | none => s

end Sys2Proof.Machine
end

