-- ==== Sys2Proof/Machine/Operands.lean ====
section
/-! DEFINITION. Status codes (R55), and the forms in which a request's payload gives its operands: exact lengths (R42),
reserved fields (R9) and instants. -/

namespace Sys2Proof.Machine

/-! Status codes (R55). -/

abbrev stOk : Nat := 0
abbrev stAccepted : Nat := 1
abbrev stBusy : Nat := 2
abbrev stPrivilege : Nat := 3
abbrev stBadCrc : Nat := 4
abbrev stBadLength : Nat := 5
abbrev stBadOpcode : Nat := 6
abbrev stBadParam : Nat := 7
abbrev stWrongState : Nat := 8
abbrev stTwinStandby : Nat := 9
abbrev stLinkLost : Nat := 10
abbrev stLate : Nat := 11
abbrev stDuplicate : Nat := 12
abbrev stTimeout : Nat := 13
abbrev stBusyRebuild : Nat := 14
abbrev stLifecycle : Nat := 15
abbrev stResource : Nat := 16
abbrev stTrunkFull : Nat := 17

/-- A command that ends in a status and changes nothing. -/
def fail (status : Nat) (s : State) : Res × State := ({ status := status }, s)

/-- A command that ends OK without a payload. -/
def ok (s : State) : Res × State := ({ status := stOk }, s)

/-- A command that ends OK with a reply payload. -/
def okWith (payload : List Byte) (s : State) : Res × State := ({ status := stOk, payload := payload }, s)

/-- A command that completes later (R43). -/
def accepted (s : State) : Res × State := ({ status := stAccepted }, s)

/-- A command whose fields are checked: BAD_PARAM and no effect when a check fails (R42). -/
def require (good : Bool) (k : Res × State) (s : State) : Res × State := if good then k else fail stBadParam s

/-- All the bytes of a range are zero (R9). -/
def zeroAt (p : List Byte) (off n : Nat) : Bool := fld p off n == 0

/-- A nanoseconds field: bits [31:30] reserved, and below 1 s (log 11). -/
def nsOk (p : List Byte) (off : Nat) : Bool := u32 p off < sec

/-- The instant that a seconds field and a nanoseconds field name. -/
def timeAt (p : List Byte) (offS offNs : Nat) : Nat := instant (u64 p offS) (u32 p offNs)

/-- The records of a fixed size that follow a payload's fixed fields. -/
def records (p : List Byte) (off size n : Nat) : List (List Byte) :=
  (List.range n).map (fun i => (p.drop (off + size * i)).take size)

/-- 24 hours in ns. -/
def day : Nat := 86400 * sec

/-- A list without repeats. -/
def distinct (l : List Nat) : Bool :=
  match l with
  | [] => true
  | a :: r => !r.contains a && distinct r

end Sys2Proof.Machine
end

