-- ==== Sys2Proof/Machine/Flags.lean ====
section
/-! DEFINITION. What admission asks of an opcode and of a packet's flags: the required class (R32, R447), the life-cycle
states (R448), the opcodes that carry their own time (R450), the largest reply (R40) and the flag bits (R35). -/

namespace Sys2Proof.Machine

/-- The class that an opcode requires (R32); `deviceOnly` for the packets that only devices send (R449). -/
inductive OpClass where
  | m
  | c
  | a
  | t
  | deviceOnly
deriving DecidableEq, Repr

/-- The M-class opcodes (R447). -/
def mOpcodes : List Nat :=
  [0x0001, 0x0002, 0x0003, 0x0005, 0x1007, 0x1008, 0x1009, 0x100B, 0x100D, 0x2009, 0x200A, 0x200B, 0x3002, 0x3003,
   0x3013, 0x3014, 0x3024, 0x3043, 0x4003, 0x4008, 0x400B, 0x5003, 0x5005, 0x500B, 0x500F, 0x6002, 0x6006, 0x6009,
   0x600B, 0x7004, 0x7006, 0x8005, 0x8007, 0x800A, 0x800B] ++
  [0x800D, 0x800E, 0x9001, 0x9005, 0x9007, 0x900C, 0xA004, 0xA005, 0xB001, 0xB003, 0xB007, 0xB009, 0xC002, 0xC004,
   0xC005, 0xD003, 0xD005, 0xE001, 0xE010, 0xE023, 0xF001]

/-- The C-class opcodes (R447). -/
def cOpcodes : List Nat :=
  [0x0004, 0x1001, 0x1002, 0x1003, 0x1004, 0x1005, 0x1006, 0x100A, 0x100C, 0x2001, 0x2002, 0x2003, 0x2004, 0x2005,
   0x2006, 0x2007, 0x2008, 0x3001, 0x3004, 0x3010, 0x3011, 0x3012, 0x3015, 0x3020, 0x3021, 0x3022, 0x3023, 0x3030,
   0x3031, 0x3038, 0x4001, 0x4002, 0x4004, 0x4005, 0x4006, 0x4007, 0x4009, 0x400A, 0x400C, 0x400D, 0x400E] ++
  [0x5001, 0x5002, 0x5004, 0x5006, 0x5007, 0x5008, 0x5009, 0x500A, 0x500C, 0x500D, 0x500E, 0x6001, 0x6003, 0x6004,
   0x6005, 0x6007, 0x6008, 0x600A, 0x7001, 0x7002, 0x7003, 0x7005, 0x8001, 0x8002, 0x8003, 0x8004, 0x8006, 0x8008,
   0x8009, 0x800C, 0x9002, 0x9003, 0x9004, 0x9006, 0x9008, 0x9009, 0x900A, 0x900B, 0x900D] ++
  [0xA001, 0xA002, 0xA003, 0xB002, 0xB004, 0xB005, 0xB006, 0xC001, 0xC003, 0xD001, 0xD002, 0xD004, 0xE002, 0xE012,
   0xE013, 0xE014, 0xE015, 0xE020, 0xE021, 0xE022, 0xE024, 0xF002, 0xF003, 0xF004]

/-- The A-class opcodes (R447). -/
def aOpcodes : List Nat := [0x3028, 0x3029, 0x302A, 0x302B, 0x3040, 0x3041, 0x3042]

/-- The T-class opcodes (R447). -/
def tOpcodes : List Nat := [0xB008, 0xE003, 0xE011]

/-- The device-only opcodes (R447). -/
def deviceOpcodes : List Nat := [0x000F, 0x3016, 0x3017, 0x302C, 0xA010, 0xA011, 0xA012]

/-- The class of an opcode, none where R447 lists no such opcode. -/
def opClass (op : Nat) : Option OpClass :=
  if mOpcodes.contains op then some .m
  else if cOpcodes.contains op then some .c
  else if aOpcodes.contains op then some .a
  else if tOpcodes.contains op then some .t
  else if deviceOpcodes.contains op then some .deviceOnly
  else none

/-- A command is state-changing unless its opcode is M-class (R33). -/
def stateChanging (op : Nat) : Bool := opClass op != some .m

/-- The opcodes of the status set, valid in every life-cycle state and limited code (R34, R448). -/
def statusSet (op : Nat) : Bool := [0x0001, 0x0002, 0x0003, 0x0005, 0xB001, 0xB003, 0xB007, 0xF001].contains op

/-- The opcodes whose payload carries their own time (R450). -/
def ownTime (op : Nat) : Bool :=
  [0x1004, 0x3022, 0x3029, 0x3030, 0x3031, 0x3038, 0x400C, 0x5002, 0x5006, 0x500E, 0x6007, 0x6008, 0x7002, 0x7003,
   0xA003, 0xE022].contains op

/-- The opcodes that a standby twin's own ports accept although they change state (R364, R426, R448). -/
def standbyAccepts (op : Nat) : Bool := [0xB004, 0xB005, 0xB006, 0xB008, 0xF003].contains op

/-- Whether an opcode is valid in the life-cycle state, or in the limited code at which start-up ended (R448, R420). -/
def validNow (op : Nat) (p : Port) (s : State) : Bool :=
  if statusSet op then true
  else if s.boot.phase = 0xF0 then
    s.life.lifecycle = .blank && p = .cpt && (op = 0xE001 || op = 0xE003)
  else if s.boot.phase = 0xF3 then
    (op = 0xE020 || op = 0xE021) && (p = .cpa || p = .cpb || p = .cpt)
  else if 0xF0 ≤ s.boot.phase && s.boot.phase ≤ 0xF4 then false
  else
    match s.life.lifecycle with
    | .blank => p = .cpt && (op = 0xE001 || op = 0xE003)
    | .retired => false
    | .factory => op != 0xE003
    | .field => op != 0xE003 && op != 0xB008 && op != 0xE011 && op != 0xE024
    | .service => op != 0xE003 && op != 0xB008 && op != 0xE011

/-- Whether a device-only packet is the device's own hierarchy or twin traffic on the link it arrives on (R449). -/
def deviceTraffic (op : Nat) (rq : Request) (s : State) : Bool :=
  match rq.port with
  | .link n =>
    rq.originator / 16384 = 1 &&
      (([0x3016, 0x3017, 0x302C].contains op && (s.link n).role = .child)
        || ([0xA010, 0xA011, 0xA012].contains op && (s.link n).role = .twin))
  | _ => false

/-- The refusal of step 5, if any: the class a port or link carries (R32, R178). -/
def privilege (op : Nat) (rq : Request) (s : State) : Option Nat :=
  if deviceTraffic op rq s then none else
  match rq.port, opClass op with
  | .cpa, some .m | .cpa, some .c | .cpb, some .m | .cpb, some .c | .cpm, some .m | .cpt, some .m => none
  | .cpt, some .c | .cpt, some .t =>
    if s.life.lifecycle = .field && !(s.boot.phase = 0xF3 && (op = 0xE020 || op = 0xE021)) then some stLifecycle else none
  | .link n, some cls =>
    let l := s.link n
    if l.role = .parent then (if cls = .m || cls = .c || cls = .a then none else some stPrivilege)
    else if l.role = .child then (if cls = .m || cls = .c then none else some stPrivilege)
    else if l.role = .trunk then (if cls = .m && rq.target = 0 then none else some stPrivilege)
    else if l.role = .twin then
      (if bit rq.flags 3 && (cls = .m || cls = .c || cls = .a) && s.twin.role = .standby then none
       else some stPrivilege)
    else some stPrivilege
  | _, _ => some stPrivilege

/-- Whether a request arrives on the twin link (R35, R39). -/
def onTwinLink (rq : Request) (s : State) : Bool :=
  match rq.port with
  | .link n => (s.link n).role = .twin
  | _ => false

/-- The header check of step 3 (R35, R37, R40, R172). -/
def headerOk (rq : Request) (s : State) : Bool :=
  rq.status = 0 && !bit rq.flags 0 && !bit rq.flags 1 && rq.flags < 32
    && (!bit rq.flags 3 || onTwinLink rq s)
    && (match rq.port with
        | .link _ => rq.originator < 0x8000 && (rq.originator % 16384 != 0 || rq.originator = 0x4000)
            && rq.originator % 16384 != 0x3FFF || (rq.originator = 0 && bit rq.flags 3)
        | _ => rq.originator = 0 && rq.tag < 0x4000)
    && rq.target ≤ 0x3FFF

/-- The largest reply payload of each opcode that replies with one (R40 step 10): from the reply maps of the class tables. -/
def replyTable : List (Nat × Nat) :=
  [(0x0001, 4096), (0x0002, 24), (0x0003, 256), (0x0005, 28), (0x1007, 40), (0x1008, 4084),
   (0x1009, 4084), (0x100B, 16), (0x100D, 24), (0x2009, 16), (0x200A, 2052), (0x200B, 4068),
   (0x3002, 32), (0x3003, 40), (0x3013, 32), (0x3014, 4004), (0x3024, 4008), (0x3029, 4),
   (0x3040, 8), (0x3043, 16), (0x4003, 32), (0x4008, 192), (0x400B, 32), (0x400D, 4096)] ++
  [(0x5003, 4004), (0x5005, 64), (0x500B, 16), (0x500F, 4004), (0x6002, 16), (0x6006, 12),
   (0x6009, 32), (0x600B, 4000), (0x7004, 32), (0x7006, 32), (0x8001, 2052), (0x8005, 4008),
   (0x8007, 488), (0x800A, 32), (0x800B, 32), (0x800D, 24), (0x800E, 20), (0x9001, 16),
   (0x9005, 144), (0x9007, 32), (0x900A, 1028), (0x900C, 16), (0xA004, 28), (0xA005, 48)] ++
  [(0xB001, 520), (0xB003, 4004), (0xB007, 16), (0xB009, 4000), (0xC002, 32), (0xC004, 1364),
   (0xC005, 56), (0xD003, 3848), (0xD005, 12), (0xE001, 12), (0xE010, 24), (0xE013, 8),
   (0xE014, 3928), (0xE023, 24), (0xF001, 16)]

/-- The largest reply payload of an opcode (R40). -/
def largestReply (op : Nat) : Nat := ((replyTable.find? (fun e => e.1 = op)).map (·.2)).getD 0

/-- Whether a port takes packets now (R34, R423, R420): in service or in a limited code, and not while DORMANT. -/
def State.serving (s : State) (p : Port) : Bool :=
  s.boot.phase ≥ 0xF0 && s.portsAwake
    && (match p with
        | .cpt => true
        | .cpa | .cpb | .cpm => s.life.lifecycle != .blank
        | .link n => s.boot.phase = 0xFF && (s.link n).state = .up)

end Sys2Proof.Machine
end

