-- ==== Sys2Proof/Machine/Groups.lean ====
section
/-! DEFINITION. Resource groups (R368 to R373): which are busy, the states that budgets allow, and the return of a group
to RUN; with it the start of a Voxad link (R158), which a return of LANES calls for. -/

namespace Sys2Proof.Machine

def GroupState.code : GroupState → Nat
  | .run => 0
  | .quiet => 1
  | .dormant => 2

def State.lane (s : State) (n : Nat) : Lane := s.lanes.lanes.at n {}
def State.onLane (s : State) (n : Nat) (f : Lane → Lane) : State :=
  s.onLanes (fun l => { l with lanes := l.lanes.upd n {} f })

/-- The member lanes of a link (R157). -/
def Link.members (l : Link) : List Nat := (List.range (widthLanes l.width)).map (fun i => l.firstLane + i)

/-- The offset of a lane's entry for a rate class in the lane table (R106). -/
def entryOffset (lane k : Nat) : Nat := 32 + (10 * lane + k) * 8

/-- An entry of the lane table (R107). -/
def laneEntry (t : Memory) (lane k : Nat) : LaneEntry :=
  let e := Memory.readN t (entryOffset lane k) 8
  let b := u8 e 0
  { cls := k, valid := bit b 0, rxInvert := bit b 1, txInvert := bit b 2, ctle := u8 e 1 % 32, dfe1 := s8 e 2, dfe2 := s8 e 3,
    txPre := u8 e 4 % 16, txPost := u8 e 4 / 16, txSwing := u8 e 5 % 64 }

/-- The entry of the lane table in use for a lane and rate class (R107, R108). -/
def State.tableEntry (lane k : Nat) (s : State) : LaneEntry :=
  match s.lanes.inUse with
  | none => { cls := k }
  | some t => laneEntry t.bytes lane k

/-- Whether the lane table in use holds a valid entry for a lane and rate class (R107). -/
def State.classValid (lane k : Nat) (s : State) : Bool := (s.tableEntry lane k).valid

/-- The settings that a half of a lane has at a rate class: those it runs on while the class stays, else the table's (R109). -/
def State.entryFor (held : LaneEntry) (lane k : Nat) (s : State) : LaneEntry :=
  if held.cls = k then held else s.tableEntry lane k

/-- A Voxad receiver that starts at a rate class: both halves take its settings (R109), and alignment begins anew (R156). -/
def State.restartLane (k lane : Nat) (s : State) : State :=
  s.onLane lane (fun l => { l with
    equaliser := k, rxEntry := s.entryFor l.rxEntry lane k, txEntry := s.entryFor l.txEntry lane k,
    align := if l.signal then .comma else .los, commas := 0, headers := 0, badHeaders := [] })

def State.restartMembers (n k : Nat) (s : State) : State := each (s.link n).members (State.restartLane k) s

/-- A link enters WAKE: the wake burst begins on every member (R158, R164). -/
def State.linkWake (n cause : Nat) (s : State) : State :=
  ((s.onLink n (fun l => { l with
    state := .wake, cause := cause, rateClass := 6, retrains := l.retrains + 1, refusing := 0, readyRun := 0,
    doneRun := 0, sentRun := 0, peer := { l.peer with rxLocked := false, refuse := false } })).restartMembers n 6).emit n 6 []

/-! Groups: 0 LANES, 1 MACS, 2 CHORD, 3 IMPOSITION, 4 DRAM (R368). -/

/-- A resource group's state (R370). -/
def State.group (i : Nat) (s : State) : GroupState := (s.power.groups.at i {}).state

def State.onGroup (i : Nat) (f : Group → Group) (s : State) : State :=
  s.onPower (fun p => { p with groups := p.groups.upd i {} f })

/-- A standing entry with a source touches an endpoint of a range (R371). -/
def State.standingTouches (lo hi : Nat) (s : State) : Bool :=
  let hit (n : Nat) : Bool := lo ≤ n && n < hi
  s.lat.standing.entries.any (fun e => e.2.source != 0xFFFF && (hit e.1 || hit e.2.source))

/-- An audio route with an endpoint in a range of channels (R371). -/
def State.audioTouches (lo hi : Nat) (s : State) : Bool :=
  let hit (n : Nat) : Bool := lo ≤ n && n < hi
  s.audio.dests.any (fun e => e.2.route.source != 65535 && (hit e.1 || hit e.2.route.source))

/-- An active flow of either direction (R371). -/
def State.flowActive (s : State) : Bool :=
  s.eth.rx.any (fun f => f.2.cfg.kind != 0) || s.eth.tx.any (fun f => f.2.cfg.kind != 0 && f.2.cfg.enable)

/-- Whether a group is busy (R371; log 103). -/
def State.groupBusy (g : Nat) (s : State) : Bool :=
  match g with
  | 0 =>
    s.standingTouches 0 0x500 || s.standingTouches 0x600 0x700 || s.flowActive || s.audioTouches 0 0x2000
      || s.audioTouches 0x2100 0x3000 || s.audioTouches 0x3800 0x4000
      || s.lanes.lanes.any (fun l => l.2.role = .sdi && l.2.txFormat != 0 && l.2.txMode = 1)
  | 1 => s.standingTouches 0x100 0x500 || s.flowActive || s.audioTouches 0x2100 0x3000
  | 2 =>
    s.audioTouches 0x3000 0x3800
      || s.chord.processes.any (fun p => !p.2.resting && p.2.placements.any (fun x => x.running))
  | 3 => s.standingTouches 0x700 0x800 || s.imp.sheets.any (fun h => h.2.enabled)
  | _ =>
    !s.lat.stores.isEmpty || s.imp.sheets.any (fun h => h.2.enabled)
      || s.audio.captures.any (fun b => b.2.count != 0 && !b.2.stopped)
      || s.audio.playouts.any (fun b => b.2.count != 0 && !b.2.stopped) || s.chord.lines.any (fun l => l.2.ring != 0)
      || s.mem.channels.any (fun c => 48 ≤ c.1 && !c.2.jobs.isEmpty)

/-- The wake delay of a group from a state, in us (R374). -/
def groupDelay (g : Nat) (st : GroupState) : Nat :=
  match st with
  | .run => 0
  | .quiet => [20, 5, 10, 10, 2].getD g 0
  | .dormant => [2000, 500, 1500, 1000, 2500].getD g 0

/-- The delay of a group from device DORMANT, in us (R374). -/
def dormantDelay (g : Nat) : Nat := [6500, 6500, 8000, 8000, 4000].getD g 0

/-- Whether a group has been idle for idle_ms (R371). -/
def State.idleLong (g : Nat) (s : State) : Bool :=
  !s.groupBusy g && (match (s.power.groups.at g {}).idleSince with
    | some t => t + s.power.idleMs * 1000000 ≤ s.now
    | none => false)

/-- The deepest state that meets a condition, QUIET at most where DORMANT is barred. -/
def deepest (barred : Bool) (f : GroupState → Bool) : GroupState :=
  if f .dormant && !barred then .dormant else if f .quiet then .quiet else .run

/-- The states that the two passes of R372 choose: no deeper than QUIET for a twin and for an APEX (R30). -/
def State.chosenState (g : Nat) (s : State) : GroupState :=
  let deepest := deepest (s.twin.role != .solo || s.hier.apexRole)
  let budget (h : Nat) : Nat := (s.power.groups.at h {}).budget
  let first (g : Nat) (deps : List Nat) : GroupState :=
    if !s.idleLong g then .run
    else deepest (fun st => groupDelay g st ≤ budget g
      && deps.all (fun h => s.groupBusy h || groupDelay g st + groupDelay h .quiet ≤ budget h))
  let lanes := first 0 [1]
  let dram := first 4 [2, 3]
  let second (h : Nat) (dep : Nat) (depState : GroupState) : GroupState :=
    if !s.idleLong h then .run else deepest (fun st => groupDelay h st + groupDelay dep depState ≤ budget h)
  match g with
  | 0 => lanes
  | 1 => second 1 0 lanes
  | 2 => second 2 4 dram
  | 3 => second 3 4 dram
  | _ => dram

/-- Links that went down with their lanes wake with them (R158). -/
def State.wakeLocal (s : State) : State :=
  each s.vox.links (fun e s => if e.2.state = .down && e.2.cause = 10 then s.linkWake e.1 0 else s) s

/-- A group's state changed, with its event (R383). -/
def State.setGroup (g : Nat) (st : GroupState) (s : State) : State :=
  let old := s.group g
  if old = st then s
  else
    let s := (s.onGroup g (fun q => { q with state := st })).raise 9 2 g (bytes [old.code, st.code])
    if g = 0 && old = .dormant then s.wakeLocal else s

/-- RUN while any group is in RUN, else QUIET (R373). -/
def State.settleDevice (s : State) : State :=
  if s.power.state = .dormant then s
  else
    let st : GroupState := if (List.range 5).any (fun g => s.group g = .run) then .run else .quiet
    if st = s.power.state then s
    else (s.onPower (fun p => { p with state := st })).raise 9 1 st.code (bytes [s.power.state.code])

/-- Idle periods begin and end with what is in hand; a busy group returns to RUN at once (R371). -/
def State.trackGroups (s : State) : State :=
  if s.boot.phase != 0xFF || !s.inField || s.power.state = .dormant then s
  else
    (each (List.range 5) (fun g s =>
      if s.groupBusy g then (s.onGroup g (fun q => { q with idleSince := none })).setGroup g .run
      else s.onGroup g (fun q => { q with idleSince := match q.idleSince with | some t => some t | none => some s.now })) s).settleDevice

end Sys2Proof.Machine
end

