-- ==== Sys2Proof/Machine/Route.lean ====
section
/-! DEFINITION. Packets as received (R35), link transactions (R179 to R183) and the forwarding of packets by node (R37,
R177). -/

namespace Sys2Proof.Machine

/-- The header fields of a received packet (R35). -/
structure Header where
  opcode : Nat
  tag : Nat
  length : Nat
  flags : Nat
  status : Nat
  target : Nat
  originator : Nat
  etref : Nat
deriving DecidableEq, Repr

def parseHeader (b : List Byte) : Header :=
  { opcode := u16 b 0, tag := u16 b 2, length := u16 b 4, flags := u8 b 6, status := u8 b 7, target := u16 b 8,
    originator := u16 b 10, etref := u32 b 12 }

/-- The payload of a received packet (R35). -/
def payloadOf (b : List Byte) : List Byte := (b.drop 16).take (u16 b 4)

/-- Step 1 of admission: length at most 4,096 and as many bytes as it says (R40). -/
def lengthOk (b : List Byte) : Bool := 20 ≤ b.length && u16 b 4 ≤ 4096 && b.length = 20 + u16 b 4

/-- Step 2 of admission: the CRC over everything before it (R36, R40). -/
def crcOk (b : List Byte) : Bool := crc32c (b.take (b.length - 4)) = fld b (b.length - 4) 4

/-- The request that a received packet holds. -/
def requestOf (p : Port) (b : List Byte) : Request :=
  let h := parseHeader b
  { port := p, tag := h.tag, flags := h.flags, status := h.status, target := h.target, originator := h.originator,
    etref := h.etref, payload := payloadOf b }

/-- A packet with some header fields rewritten and its CRC made anew. -/
def rewrite (b : List Byte) (tag flags status target originator : Nat) : List Byte :=
  let h := parseHeader b
  packet h.opcode tag flags status target originator h.etref (payloadOf b)

/-- A packet with the REPLAY flag set (R35, R183). -/
def asReplay (b : List Byte) : List Byte :=
  let h := parseHeader b
  rewrite b h.tag (if bit h.flags 4 then h.flags else h.flags + 16) h.status h.target h.originator

/-- The next txid that is not outstanding, ascending modulo 1,024 (R180). -/
def freeTxid (used : List Nat) : Nat → Nat → Nat
  | 0, t => t
  | n + 1, t => if used.contains t then freeTxid used n ((t + 1) % 1024) else t

/-- The transactions outstanding on one VC of a link (R180). -/
def Link.openOn (l : Link) (vc : Nat) : List Transaction := l.outstanding.filter (fun t => t.vc = vc)

/-- The time counted on a VC of a link (R181). -/
def Link.counted (l : Link) (vc : Nat) : Nat := if vc = 2 then l.counted2 else l.counted1

/-- A link that was taken DOWN by a DORMANT peer wakes for traffic (R30, R158). -/
def State.wakeFor (n : Nat) (s : State) : State :=
  if (s.link n).state = .down && (s.link n).cause = 9 && s.group 0 != .dormant && s.power.state != .dormant then s.linkWake n 9 else s

/-- A transaction opened on a link, or waiting in order while 256 are outstanding (R180), or while a DORMANT peer is woken
(R30). -/
def State.openTxn (n : Nat) (t : Transaction) (s : State) : State :=
  let s := s.countLink n
  let l := s.link n
  let used := (l.openOn t.vc).map (·.txid)
  let t := { t with start := l.counted t.vc }
  if l.wakes then (s.onLink n (fun l => { l with waiting := l.waiting ++ [t] })).wakeFor n
  else if used.length < 256 then
    let x := freeTxid used 256 (if t.vc = 2 then l.nextTxid2 else l.nextTxid1)
    (s.onLink n (fun l =>
      let l := { l with outstanding := l.outstanding ++ [{ t with txid := x }] }
      if t.vc = 2 then { l with nextTxid2 := (x + 1) % 1024 } else { l with nextTxid1 := (x + 1) % 1024 })).putLink
        n t.vc (txHeader x 0 t.path t.hops t.content t.packet.length ++ t.packet)
  else s.onLink n (fun l => { l with waiting := l.waiting ++ [t] })

/-- The transactions held for a peer that was woken are opened: their timeouts start now (R30, R181). -/
def State.openHeld (n : Nat) (s : State) : State :=
  let l := (s.link n).waiting
  each l (fun t s => s.openTxn n t) (s.onLink n (fun l => { l with waiting := [] }))

/-- The first transaction that waits for a txid on a VC is opened once one is free (R180). -/
def State.openWaiting (n vc : Nat) (s : State) : State :=
  match (s.link n).waiting.find? (fun t => t.vc = vc) with
  | none => s
  | some t => (s.onLink n (fun l => { l with waiting := l.waiting.erase t })).openTxn n t

/-- The outstanding transaction of a txid on a VC (R180). -/
def State.findTxn (n vc txid : Nat) (s : State) : Option Transaction :=
  (s.link n).outstanding.find? (fun t => t.vc = vc && t.txid = txid)

/-- A transaction closed; a waiting one takes its place. -/
def State.closeTxn (n : Nat) (t : Transaction) (s : State) : State :=
  (s.onLink n (fun l => { l with outstanding := l.outstanding.erase t })).openWaiting n t.vc

def State.hopDrop (s : State) : State := s.onHier (fun h => { h with hopDrops := h.hopDrops + 1 })

/-- A replay that is sent is counted (R183, R200). -/
def State.countReplay (replays : Nat) (s : State) : State :=
  if replays = 0 then s else s.onHier (fun h => { h with replays := h.replays + 1 })

/-- A command that this device originates: sent on its route, or waiting up to timeout_ms for one (R183). The functions
of a standby twin originate nothing (R199). -/
def State.originate (h : Option Handle) (vc path target replays : Nat) (pkt : List Byte) (s : State) : State :=
  if h.isNone && s.twin.role = .standby then s else
  match s.ownRoute target path with
  | some n =>
    (s.countReplay replays).openTxn n
      { txid := 0, vc := vc, packet := pkt, handle := h, replays := replays, path := path, hops := 8 }
  | none => s.onHier (fun q => { q with waiting := q.waiting ++
      [{ packet := pkt, vc := vc, path := path, replays := replays, handle := h,
         until_ := s.now + q.timeoutMs * 1000000 }] })

/-- A reply packet of this device for a packet that it received (R41, R177). -/
def State.replyTo (b : List Byte) (status : Nat) (s : State) : List Byte :=
  let h := parseHeader b
  packet h.opcode h.tag 1 status (h.originator % 16384) s.node (s.nowUs % 2 ^ 32) []

/-- A packet of a link forwarded by target node (R177): kind 0 REQUEST, 2 POSTED. A detached facet answers LINK_LOST (R176). -/
def State.forward (inLink vc txid kind path hops : Nat) (b : List Byte) (s : State) : State :=
  let lost (status : Nat) (s : State) : State :=
    if kind = 0 then s.putPacket inLink vc txid 1 0 8 (s.replyTo b status) else s
  if hops = 0 then s.hopDrop
  else if s.twin.role = .standby then lost stTwinStandby s
  else if s.detached then lost stLinkLost s
  else
    match s.routeLink (parseHeader b).target path with
    | none => lost stLinkLost s
    | some n =>
      if kind = 0 then
        s.openTxn n { txid := 0, vc := vc, inLink := some inLink, inTxid := txid, packet := b, path := path,
                      hops := hops - 1 }
      else (s.putPacket n vc 0 2 path (hops - 1) b).wakeFor n

/-- The VC on which a command packet travels: FORME_PUSH and FOLIO_SEGMENT on VC2, every other on VC1 (R200). -/
def vcOf (op : Nat) : Nat := if op = 0x3028 || op = 0x3041 then 2 else 1

/-- A local-port command forwarded into the hierarchy: originator and tag bits [15:14] name node and port (R37). -/
def State.forwardLocal (op : Nat) (rq : Request) (s : State) : State :=
  let pkt := packet op (rq.tag % 16384 + 16384 * portCode rq.port) rq.flags 0 rq.target s.node rq.etref rq.payload
  s.originate (some (handleOf op rq)) (vcOf op) 0 rq.target 0 pkt

/-- The reply that a forwarded command's port receives: the answer with tag and originator as the port sent them (R37). A
DUPLICATE answer to a replay gives its first_status instead (R183). An answer longer than REPLY_BYTES is written whole (DESIGN
CHOICE, log 162). -/
def State.portReply (h : Handle) (replays : Nat) (answer : List Byte) (s : State) : State :=
  let r := parseHeader answer
  let p := payloadOf answer
  let (st, pl) := if r.status = stDuplicate && replays > 0 then (u8 p 0, []) else (r.status, p)
  let rq : Request := { port := h.port, tag := h.tag, originator := h.originator, slot := h.slot, replyAddr := h.replyAddr }
  if h.cut then s.loseEvent h.port
  else if h.noack && st = 0 then s.sendReply rq st []
  else s.sendReply rq st (packet h.opcode h.tag r.flags st 0 r.originator r.etref pl)

end Sys2Proof.Machine
end

