-- ==== Sys2Proof/Machine/Admission.lean ====
section
/-! DEFINITION. Admission (R40): the checks of a request in their order, the tag record, the timed list, mirroring by
an ACTIVE twin (R339), galleys (R42), and the execution of an admitted command. -/

namespace Sys2Proof.Machine

/-- What admission decides about a request. -/
inductive Verdict where
  | refuse (status : Nat) (payload : List Byte)
  /-- Addressed to another node: forwarded after step 5. -/
  | forward
  /-- Admitted to the timed list: it executes at this microsecond (R39, R339). -/
  | timed (due : Nat)
  /-- Admitted to its port's galley. -/
  | run
deriving DecidableEq, Repr

/-- Whether a request names this device (R37, R177). -/
def State.isForMe (rq : Request) (s : State) : Bool :=
  rq.target = 0 || (rq.target = s.node && s.node != 0) || (rq.target = 0x3FFF && s.hier.apexRole)

/-- Commands that an ACTIVE twin does not mirror although they change state (R339, R364, R426). -/
def notMirrored (op : Nat) (rq : Request) (s : State) : Bool :=
  op / 4096 = 0xA || op / 4096 = 0xD
    || [0x0004, 0xB004, 0xB005, 0xB006, 0xB008, 0xE002, 0xE003, 0xE020, 0xE021, 0xF003].contains op
    || (op = 0x3001 && (u8 rq.payload 4 = 4 || (s.link (u8 rq.payload 0)).role = .twin))
    || (op = 0x3004 && (s.link (u8 rq.payload 0)).role = .twin)

/-- Whether this device mirrors a command (R339). -/
def State.mirrors (op : Nat) (rq : Request) (s : State) : Bool :=
  s.twin.role = .active && s.twin.mirrored && stateChanging op && !notMirrored op rq s

/-- The distance of an etref ahead of now, in us modulo 2^32 (R39). -/
def State.ahead (etref : Nat) (s : State) : Nat := (etref + 2 ^ 32 - s.nowUs % 2 ^ 32) % 2 ^ 32

/-- Entries of the timed list that are a command's own (mirrored executions with etref 0 or on the twin link take no entry,
log 12). -/
def State.timedUsed (s : State) : Nat :=
  (s.ports.timed.filter (fun t => !t.plainReply || t.cmd.request.port = .cpm)).length

/-- Step 9, a full timed list with it (R451), and where an admitted command goes (R39, R339). -/
def timeVerdict (op : Nat) (rq : Request) (s : State) : Verdict :=
  let mirrorIn := bit rq.flags 3 && onTwinLink rq s
  let d := s.ahead rq.etref
  if rq.etref != 0 && ownTime op && !mirrorIn then .refuse stBadParam []
  else if rq.etref = 0 then
    if s.mirrors op rq then .timed ((s.now + 999) / 1000 + s.twin.mirrorLeadUs) else .run
  else if d < 50 || d ≥ 2 ^ 31 then .refuse stLate []
  else if s.mirrors op rq && d < s.twin.mirrorLeadUs then .refuse stLate []
  else if !mirrorIn && s.timedUsed ≥ 256 then .refuse stBusy []
  else .timed (s.nowUs + d)

/-- A packet that a link brings for this device by its node ID while it is an unjoined facet, which executes packets with
target 0x0000 only: LINK_LOST (R173; log 17). -/
def State.unjoined (rq : Request) (s : State) : Bool :=
  (match rq.port with | .link _ => true | _ => false)
    && !s.hier.apexRole && !s.hier.joined && rq.target != 0 && s.isForMe rq

/-- A packet that a TRUNK or TWIN link brings with a target other than 0x0000: dropped and counted (R177). -/
def State.wrongHop (rq : Request) (s : State) : Bool :=
  match rq.port with
  | .link n => ((s.link n).role = .trunk || (s.link n).role = .twin) && rq.target != 0
  | _ => false

/-- Steps 3 to 11 of admission (R40). -/
def verdict (op : Nat) (rq : Request) (s : State) : Verdict :=
  if !headerOk rq s then .refuse stBadParam []
  else if opClass op = none || (opClass op = some .deviceOnly && !deviceTraffic op rq s) then .refuse stBadOpcode []
  else
    match privilege op rq s with
    | some st => .refuse st []
    | none =>
      if !s.isForMe rq then .forward
      else if s.unjoined rq then .refuse stLinkLost []
      else if !validNow op rq.port s then .refuse stLifecycle []
      else if s.twin.role = .standby && stateChanging op && !standbyAccepts op
          && (match rq.port with | .link _ => false | _ => true) then .refuse stTwinStandby []
      else
        match s.findTag (tagKey rq.port rq.originator) rq.tag with
        | some e => .refuse stDuplicate (leBytes 1 e.status ++ [0] ++ leBytes 2 e.length)
        | none =>
          match timeVerdict op rq s with
          | .refuse st p => .refuse st p
          | v =>
            if (rq.port = .cpa || rq.port = .cpb) && rq.replyBytes < largestReply op + 20 then
              .refuse stBadLength []
            else if (s.galley rq.port).length ≥ 64 then .refuse stBusy []
            else v

/-- Whether a port's reply store has room for one more reply besides those that its commands in progress have reserved
(R52, R53; for CPT the reserved places are the model's choice, log 142). -/
def State.replyRoom (s : State) (p : Port) : Bool :=
  match p with
  | .cpm => s.ports.cpm.replies.length + s.reserved .cpm < 64
  | .cpt => s.ports.cpt.queue.length + s.reserved .cpt < 64
  | _ => true

/-- A packet discarded for want of reply room: received and refused count it (R52, R53). -/
def State.discard (p : Port) (s : State) : State :=
  let s := s.count p (fun c => { c with received := c.received + 1, refusedOther := c.refusedOther + 1 })
  if p = .cpm then s.onCpm (fun q => { q with rejected := true }) else s

/-- A request admitted: counted, and its tag recorded (R38, R40). -/
def State.takeIn (rq : Request) (s : State) : State :=
  (s.count rq.port (fun c => { c with admitted := c.admitted + 1 })).recordTag (tagKey rq.port rq.originator) rq.tag

/-! Settings (R421, R337). -/

/-- The commands whose settings the start-up profile keeps, each with the bytes of its payload that name what it sets
(R421). -/
def profileKey (op : Nat) : Option Nat :=
  match op with
  | 0x2001 => some 4 | 0x2002 => some 2 | 0x2003 => some 2 | 0x2004 => some 1 | 0x2005 => some 3 | 0x2006 => some 2
  | 0x3001 => some 1 | 0x3012 => some 0
  | 0x9003 => some 1 | 0x9004 => some 0 | 0x9006 => some 1 | 0x900D => some 0
  | 0xA001 => some 0 | 0xB002 => some 4 | 0xB006 => some 0 | 0xC001 => some 0 | 0xC003 => some 0
  | _ => none

/-- What the profile keeps of a payload: of FAULT_N_CONTROL, mode and fault_n_min alone (R421). -/
def profilePayload (op : Nat) (p : List Byte) : List Byte :=
  if op = 0xB006 then p.take 1 ++ [0] ++ p.drop 2 else p

/-- A profile write is due: at once, or when the 100 ms since the last have passed (R88, R421). -/
def State.profileTouch (s : State) : State :=
  s.onBoot (fun b => { b with profileDue := match b.profileDue with
    | some d => some d
    | none => some (match b.profileLast with | some k => max s.now (k + 100000000) | none => s.now) })

/-- The settings that the configuration copy carries as commands (R337): those of classes 0x1 to 0x9, 0xB and 0xC whose
effect is neither a state of its own segment nor an action that has passed (log 91). -/
def copied (op : Nat) : Bool :=
  [0x100A, 0x100C, 0x2001, 0x2002, 0x2003, 0x2004, 0x2005, 0x2006, 0x3010, 0x3012, 0x3015, 0x4001, 0x4002, 0x4004,
   0x4005, 0x4006, 0x4007, 0x4009, 0x400A, 0x400E].contains op
    || [0x5001, 0x5002, 0x5004, 0x5008, 0x5009, 0x500A, 0x500C, 0x500D, 0x500E, 0x6001, 0x6003, 0x6004, 0x6005, 0x6007,
        0x6008, 0x600A, 0x7001, 0x7002, 0x7003, 0x7005].contains op
    || [0x800C, 0x9003, 0x9004, 0x9006, 0x9008, 0x9009, 0x900B, 0x900D, 0xB002, 0xC001, 0xC003].contains op
    || op = 0x3001

/-- A setting executed: recorded for the profile and for the configuration copy (R421, R337). -/
def State.noteSetting (op : Nat) (rq : Request) (status : Nat) (s : State) : State :=
  if status != 0 && status != 1 then s
  else
    let p := profilePayload op rq.payload
    let s := if copied op then s.onTwin (fun t => { t with log := t.log ++ [(op, rq.payload)] }) else s
    match profileKey op with
    | none => s
    | some k =>
      (s.onBoot (fun b => { b with inForce := b.inForce.filter (fun e => !(e.1 = op && e.2.take k = p.take k)) ++ [(op, p)] })).profileTouch

/-- Whether a command would change a unit under a proof step (R388). -/
def State.touchesTest (op : Nat) (p : List Byte) (s : State) : Bool :=
  let inTest (tests : List Nat) (f : Nat → Bool) : Bool :=
    s.proof.runs.any (fun r => r.steps.any (fun x => tests.contains x.test && x.started.isSome && f x.unit))
  let lanes (first n : Nat) : Bool := inTest [1, 2] (fun u => first ≤ u && u < first + n)
  match op with
  | 0x2001 => lanes (u16 p 0) (u16 p 2)
  | 0x2002 | 0x2003 | 0x2006 => lanes (u16 p 0) 1
  | 0x2005 => lanes (u16 p 0) (u8 p 3)
  | 0x2004 => lanes (8 * u8 p 0) 8 || inTest [4] (fun u => u = 16 + u8 p 0)
  | 0x3001 => u8 p 4 != 0 && lanes (u16 p 2) (widthLanes (u8 p 1))
  | 0x6001 => inTest [7, 9] (fun u => u = u8 p 0)
  | 0x7001 => inTest [10] (fun u => u = u8 p 0) || inTest [7] (fun u => u = 0x40 + u8 p 0 / 16)
  | 0x9003 => inTest [3] (fun u => u = u8 p 0)
  | _ => false

/-- An admitted command executed and answered (R42, R43). -/
def runCommand (op : Nat) (body : Body) (rq : Request) (s : State) : State :=
  let r := body rq s
  let r := if r.1.status ≤ 1 && s.touchesTest op rq.payload then ({ status := stBusy }, s) else r
  ((r.2.noteSetting op rq r.1.status).answer op rq r.1).trackGroups

/-- A command put in its galley (R42). -/
def State.enqueue (op : Nat) (rq : Request) (s : State) : State :=
  s.onPorts (fun p => { p with galleys := p.galleys.upd (portCode rq.port) [] (fun l => l ++ [{ opcode := op, request := rq }]) })

/-- The mirrored form of a command, sent to the standby with the instant t_x (R37, R339). -/
def State.mirror (op due : Nat) (rq : Request) (s : State) : State :=
  let local_ := match rq.port with | .link _ => false | _ => true
  let tag := if local_ then rq.tag % 16384 + 16384 * portCode rq.port else rq.tag
  let orig := if local_ then s.node else rq.originator
  let flags := if bit rq.flags 3 then rq.flags else rq.flags + 8
  ((s.openTxn s.twin.link { txid := 0, vc := 1, packet := packet op tag flags 0 0 orig (due % 2 ^ 32) rq.payload }).onTwin
    (fun t => { t with mirroredCmds := t.mirroredCmds + 1 })).onPorts
    (fun p => { p with mirrorPending := p.mirrorPending ++ [{ opcode := op, tag := tag, portTag := rq.tag }] })

/-- A command put on the timed list, after every entry that is due no later (R39). -/
def State.addTimed (t : Timed) (s : State) : State :=
  s.onPorts (fun p => { p with timed := p.timed.filter (fun e => e.due ≤ t.due) ++ [t] ++ p.timed.filter (fun e => t.due < e.due) })

/-- Whether a command of the timed list answers with a reply when it executes: one mirrored at its t_x (R339), and one of
CPM, where nothing is answered ACCEPTED (R52; log 142). -/
def State.repliesAtDue (op : Nat) (rq : Request) (s : State) : Bool :=
  (s.mirrors op rq && rq.etref = 0) || bit rq.flags 3 || rq.port = .cpm

/-- An admitted command with an execution instant: answered ACCEPTED, or when it executes (R39, R52, R339). -/
def State.admitTimed (op due : Nat) (rq : Request) (s : State) : State :=
  let s' := (s.takeIn rq).addTimed { due := due, cmd := { opcode := op, request := rq }, plainReply := s.repliesAtDue op rq }
  let s' := if s.mirrors op rq then s'.mirror op due rq else s'
  if s.repliesAtDue op rq then s'
  else s'.sendReply rq stAccepted (s'.replyPacket op rq stAccepted [])

/-- Nothing waits for the command interpreter, and no folio control pause holds it (R42, R411). -/
def State.interpreterFree (s : State) : Bool :=
  s.ports.galleys.all (fun g => g.2.isEmpty) && s.life.paused.isNone

/-- A request that arrives: steps 3 to 11, then execution at once where its galley reaches it at once (log 3). -/
def command (op : Nat) (body : Body) (rq : Request) (s : State) : State :=
  if !s.serving rq.port then s
  else if s.wrongHop rq then s.hopDrop
  else if !s.replyRoom rq.port then s.discard rq.port
  else
    let s := s.count rq.port (fun c => { c with received := c.received + 1 })
    match verdict op rq s with
    | .refuse st p => s.refuse op rq st p
    | .forward =>
      (match rq.port with
       | .link n => s.forward n rq.vc rq.txid 0 0 8
           (packet op rq.tag rq.flags rq.status rq.target rq.originator rq.etref rq.payload)
       | _ => s.forwardLocal op rq)
    | .timed due => s.admitTimed op due rq
    | .run =>
      if s.interpreterFree then runCommand op body rq (s.takeIn rq) else (s.takeIn rq).enqueue op rq

/-- A packet's bytes that arrive at a local port: steps 1 and 2 (R40), then steps 3 to 11 into the galley or the timed
list. `lengthsAgree` says that the transport's own length agrees. -/
def State.receive (rq : Request) (b : List Byte) (lengthsAgree : Bool) (s : State) : State :=
  if !s.serving rq.port then s
  else if !s.replyRoom rq.port then s.discard rq.port
  else
    let s := s.count rq.port (fun c => { c with received := c.received + 1 })
    let op := u16 b 0
    let rq := { requestOf rq.port b with slot := rq.slot, replyAddr := rq.replyAddr, replyBytes := rq.replyBytes,
                                         vc := rq.vc, txid := rq.txid }
    if !lengthOk b || !lengthsAgree then s.refuse op rq stBadLength []
    else if !crcOk b then s.refuse op rq stBadCrc []
    else
      match verdict op rq s with
      | .refuse st p => s.refuse op rq st p
      | .forward => s.forwardLocal op rq
      | .timed due => s.admitTimed op due rq
      | .run => (s.takeIn rq).enqueue op rq

end Sys2Proof.Machine
end

