-- ==== Sys2Proof/Machine/Window.lean ====
section
/-! DEFINITION. The status window (R50, R51), the counters that it shows, and the wake of a DORMANT device (R375,
R379). -/

namespace Sys2Proof.Machine

def Lifecycle.code : Lifecycle → Nat
  | .blank => 0
  | .factory => 1
  | .field => 2
  | .service => 3
  | .retired => 4

def RefState.code : RefState → Nat
  | .freeRun => 0
  | .acquiring => 1
  | .locked => 2
  | .holdover => 3
  | .lost => 4

def LaneRole.code : LaneRole → Nat
  | .none => 0
  | .sdi => 1
  | .eth => 2
  | .voxad => 3

/-- Lanes in a role other than NONE (R50). -/
def State.lanesIn (s : State) (r : LaneRole) : Nat := s.lanes.lanes.count (fun _ l => l.role = r)

/-- Active audio routes: destinations with a source (R50, R206). -/
def State.audioRoutes (s : State) : Nat := s.audio.dests.count (fun _ d => d.route.source != 65535)

/-- Active receive flows (R50): flows with a type. -/
def State.rxFlows (s : State) : Nat := s.eth.rx.count (fun _ f => f.cfg.kind != 0)

/-- Active transmit flows (R50): flows with a type that are enabled. -/
def State.txFlows (s : State) : Nat := s.eth.tx.count (fun _ f => f.cfg.kind != 0 && f.cfg.enable)

/-- Free entries of a local port's galley (R50). -/
def State.galleyFree (s : State) (p : Port) : Nat := 64 - (s.galley p).length

/-- Window byte 0x07: the hierarchy role and the twin role (R50). -/
def State.roles (s : State) : Nat := flag s.hier.apexRole + 2 * s.twin.role.code

/-- Window bytes 0x08 to 0x4D as they are now (R50). -/
def State.windowNow (s : State) : List Byte :=
  bytes [s.power.state.code, s.ref.state.code, s.boot.phase, 0] ++ leBytes 4 s.ports.heartbeat.toNat
    ++ leBytes 8 (s.now / sec) ++ leBytes 4 (s.now % sec) ++ leBytes 4 s.lat.standing.id
    ++ bytes [s.lat.pending.length, s.topSeverity + 8 * flag s.faults.safe] ++ leBytes 2 s.faults.queue.length
    ++ leBytes 4 s.faults.overflow.toNat
    ++ bytes [s.galleyFree .cpa, s.galleyFree .cpb, s.galleyFree .cpm, s.galleyFree .cpt]
    ++ leBytes 4 s.ports.eventCount.toNat
    ++ leBytes 2 s.ports.cpa.cmdConsumer.toNat ++ leBytes 2 s.ports.cpa.evtProducer.toNat
    ++ leBytes 2 s.ports.cpb.cmdConsumer.toNat ++ leBytes 2 s.ports.cpb.evtProducer.toNat
    ++ leBytes 4 s.ports.eventsLost.toNat ++ bytes [s.boot.cause, 0, 0, 0]
    ++ leBytes 2 (s.lanesIn .sdi) ++ leBytes 2 (s.lanesIn .eth) ++ leBytes 2 (s.lanesIn .voxad)
    ++ leBytes 2 (256 - s.lanesIn .sdi - s.lanesIn .eth - s.lanesIn .voxad)
    ++ leBytes 2 s.audioRoutes ++ leBytes 2 s.rxFlows ++ leBytes 2 s.txFlows

/-- Window bytes 0x08 to 0x4D before the first heartbeat: the reset column of R50. -/
def State.windowReset (s : State) : List Byte :=
  zeros 32 ++ bytes [64, 64, 64, 64] ++ zeros 16 ++ bytes [s.boot.cause] ++ zeros 17

/-- The 256 bytes of the status window: offsets 0x08 to 0x4D as of the last heartbeat (R50, R51). -/
def State.window (s : State) : List Byte :=
  leBytes 2 0x9256 ++ [Config.stepping, 1] ++ leBytes 2 s.node ++ bytes [s.life.lifecycle.code, s.roles]
    ++ (if s.ports.shadow.isEmpty then s.windowReset else s.ports.shadow) ++ zeros 178

/-- Window bytes from an address, wrapping after 0xFF (R52). -/
def State.windowFrom (address count : Nat) (s : State) : List Byte :=
  let w := s.window
  (List.range count).map (fun i => w.getD ((address + i) % 256) 0)

/-- Whether the status window is readable: from phase FUSES onward (R423), on CPT alone in BLANK (R34). -/
def State.windowOn (s : State) (p : Port) : Bool :=
  s.boot.phase ≥ 3 && s.portsAwake && (s.life.lifecycle != .blank || p = .cpt)

/-- The folio version that runs, 0 where none does (R56). -/
def State.folioVersion (s : State) : Nat :=
  if s.life.running = 0 then s.life.a.version else if s.life.running = 1 then s.life.b.version
  else if s.life.running = 2 then s.life.golden.version else 0

/-- A wake source fires (R379): code 1 lane, 2 WAKE_N, 3 CPA, 4 CPB, 5 CPM, 6 CPT. It wakes a DORMANT device, or stops
an entry into DORMANT (R376). -/
def State.wake (source lane : Nat) (s : State) : State :=
  let on := source = 1 || bit s.power.wakeFlags (if source = 2 then 0 else if source ≤ 4 then 1 else if source = 5 then 2 else 3)
  if on && !s.power.off && s.power.wakingStep = 0 && (s.power.state = .dormant || s.power.entryStep != 0) then
    s.onPower (fun p => { p with entryStep := 0, wakingStep := 1, wakes := if p.state = .dormant then p.wakes + 1 else p.wakes, lastWake := source,
                                 lastWakeLane := if source = 1 then lane else p.lastWakeLane,
                                 lastWakeS := s.now / sec, wakeAt := s.now })
  else s

end Sys2Proof.Machine
end

