-- ==== Sys2Proof/Machine/Ports.lean ====
section
/-! DEFINITION. Command ports (R31 to R57): the PCIe registers and rings, the SPI and TAP transactions, and the class 0x0
commands. -/

namespace Sys2Proof.Machine

abbrev Out := Host.Outcome State Fault Refusal

/-- The PCIe registers of a port answer from phase FUSES onward, and never in BLANK (R34, R423). -/
def State.bar0On (s : State) : Bool := s.boot.phase ≥ 3 && s.life.lifecycle != .blank && !s.power.off

def sidePort (side : PcieSide) : Port := match side with | .cpa => .cpa | .cpb => .cpb

/-- The fault source of a command port, in port-code order (R453). -/
def portSource (p : Port) : Nat := 0x290 + portCode p

/-- CMD_DOORBELL (R44, R46, R49): the producer index; while CMD_RING_EN is 0 also the consumer index. A producer more
than 256 ahead sets RING_ERR. -/
def cmdDoorbell (side : PcieSide) (index : Nat) (s : State) : State :=
  let i : U16 := BitVec.ofNat 16 index
  s.onPcie side (fun p =>
    if !p.cmdRingEn then { p with cmdProducer := i, cmdConsumer := i }
    else { p with cmdProducer := i, ringErr := p.ringErr || (i - p.cmdConsumer).toNat > 256 })

def execCmdDoorbell (side : PcieSide) (index : Nat) (s : State) : Out :=
  .next (if s.bar0On then cmdDoorbell side index s else s)

/-- EVT_DOORBELL (R44, R47): entries up to the index are consumed and held events take their room; an index beyond the
producer is ignored and sets RING_ERR. -/
def evtDoorbell (side : PcieSide) (index : Nat) (s : State) : State :=
  let i : U16 := BitVec.ofNat 16 index
  let p := s.pcie side
  if (p.evtProducer - i).toNat > (p.evtProducer - p.evtConsumer).toNat then
    s.onPcie side (fun p => { p with ringErr := true })
  else
    (s.onPcie side (fun p => { p with evtConsumer := i, ring := p.ring.drop (i - p.evtConsumer).toNat })).refill side

def execEvtDoorbell (side : PcieSide) (index : Nat) (s : State) : Out :=
  .next (if s.bar0On then evtDoorbell side index s else s)

/-- CMD_RING_EN set: fetch runs from the index of the last doorbell (R49). -/
def execCmdRingEnSet (side : PcieSide) (s : State) : Out :=
  .next (if s.bar0On then s.onPcie side (fun p => { p with cmdRingEn := true }) else s)

/-- The commands of a port that are in progress are marked: their replies and completion events are to be discarded (R49; log 167). -/
def cutCommands (p : Port) (s : State) : State :=
  let mark (h : Option Handle) : Option Handle := h.map (fun h => if h.port = p then { h with cut := true } else h)
  let txn (t : Transaction) : Transaction := { t with handle := mark t.handle }
  ((s.onTags (portCode p) (fun l => l.map (fun e => if e.status = stAccepted then { e with cut := true } else e))).onVox
    (fun v => { v with links := v.links.map (fun _ l =>
      { l with outstanding := l.outstanding.map txn, waiting := l.waiting.map txn }) })).onHier
    (fun h => { h with waiting := h.waiting.map (fun w => { w with handle := mark w.handle }) })

/-- Descriptor fetch stops on a port (R49): replies that wait are discarded and counted, and those of the commands in
progress will be. -/
def stopFetch (side : PcieSide) (s : State) : State :=
  let n := (s.pcie side).replies.length
  let s := cutCommands (sidePort side) (s.onPcie side (fun p => { p with cmdRingEn := false, replies := [] }))
  each (List.replicate n ()) (fun _ s => s.loseEvent (sidePort side)) s

def execCmdRingEnClear (side : PcieSide) (s : State) : Out := .next (if s.bar0On then stopFetch side s else s)

/-- EVT_RING_EN set: the first entry is the category-15 notice with the count of events discarded meanwhile (R47). -/
def execEvtRingEnSet (side : PcieSide) (s : State) : Out :=
  .next (if s.bar0On && !(s.pcie side).evtRingEn then
      (s.onPcie side (fun p => { p with evtRingEn := true, noticeFirst := p.noticeDue })).noticeLost side
    else s)

/-- EVT_RING_EN cleared: nothing is held any longer; what was held is discarded and counted (R47). -/
def evtRingOff (side : PcieSide) (s : State) : State :=
  let n := (s.pcie side).held.length
  let s := s.onPcie side (fun p => { p with evtRingEn := false, held := [], noticeFirst := false })
  each (List.replicate n ()) (fun _ s => s.losePcie side) s

def execEvtRingEnClear (side : PcieSide) (s : State) : Out := .next (if s.bar0On then evtRingOff side s else s)

/-- RING_ERR written with 1 (R44). -/
def execRingErrClear (side : PcieSide) (s : State) : Out :=
  .next (if s.bar0On then s.onPcie side (fun p => { p with ringErr := false }) else s)

/-- One byte of a register without behaviour of its own (R44): the ring bases, whose low bits stay zero, and the MSI-X
table. Unlisted offsets ignore the write. -/
def regByte (offset : Nat) (b : Byte) (p : PciePort) : PciePort :=
  let put (v : U64) (i : Nat) : U64 := (v &&& ~~~(0xFF#64 <<< (8 * i))) ||| (b.zeroExtend 64 <<< (8 * i))
  if 0x10 ≤ offset && offset < 0x18 then
    { p with cmdRingBase := put p.cmdRingBase (offset - 0x10) &&& ~~~0x1FFF#64 }
  else if 0x18 ≤ offset && offset < 0x20 then
    { p with evtRingBase := put p.evtRingBase (offset - 0x18) &&& ~~~0x3FFF#64 }
  else if 0x1000 ≤ offset && offset < 0x1100 then
    { p with msixTable := Memory.write p.msixTable (offset - 0x1000) b }
  else p

def regWrite (offset : Nat) : List Byte → PciePort → PciePort
  | [], p => p
  | b :: bs, p => regWrite (offset + 1) bs (regByte offset b p)

/-- Pending vectors whose table entry is no longer masked send their message (log 9). -/
def sendPending (side : PcieSide) (s : State) : State :=
  each (List.range 16) (fun v s =>
    let p := s.pcie side
    if p.pba.getLsbD v && !bit (u32 (Memory.readN p.msixTable (16 * v) 16) 12) 0 then
      (s.onPcie side (fun p => { p with pba := p.pba &&& ~~~BitVec.ofNat 16 (2 ^ v) })).signalMsix side v
    else s) s

def execRegisterWrite (side : PcieSide) (offset : Nat) (data : List Byte) (s : State) : Out :=
  .next (if s.bar0On then sendPending side (s.onPcie side (regWrite offset data)) else s)

/-- One byte of BAR0 as the host reads it (R44): the registers, the status window, the MSI-X table and its pending bits; a
byte of a write-only register is open (log 143), and every unlisted byte is zero. -/
def PciePort.readByte (p : PciePort) (window : List Byte) (offset : Nat) : Byte :=
  let of (v base : Nat) : Byte := BitVec.ofNat 8 (v >>> (8 * (offset - base)))
  if offset < 2 || (4 ≤ offset && offset < 6) then Config.writeOnly offset
  else if 0x10 ≤ offset && offset < 0x18 then of p.cmdRingBase.toNat 0x10
  else if 0x18 ≤ offset && offset < 0x20 then of p.evtRingBase.toNat 0x18
  else if offset = 0x20 then BitVec.ofNat 8 (flag p.cmdRingEn + 2 * flag p.evtRingEn)
  else if offset = 0x24 then BitVec.ofNat 8 (flag p.ringErr)
  else if 0x100 ≤ offset && offset < 0x200 then window.getD (offset - 0x100) 0
  else if 0x1000 ≤ offset && offset < 0x1100 then Memory.read p.msixTable (offset - 0x1000)
  else if offset = 0x1800 || offset = 0x1801 then of p.pba.toNat 0x1800
  else 0

/-- What a host reads of BAR0, where the port answers (R34, R44, R423). No row of the table stands for the read, and it
changes nothing (log 143). -/
def State.bar0Read (side : PcieSide) (offset count : Nat) (s : State) : Option (List Byte) :=
  if s.bar0On then some ((List.range count).map (fun i => (s.pcie side).readByte s.window (offset + i))) else none

/-- REMAP written by the control core (R300). -/
def execRemapWrite (remap : Bool) (s : State) : Out := .next (s.onMem (fun m => { m with remap := remap }))

/-- Whether a port fetches its next descriptor (R44, R46, R47): enabled, no RING_ERR, a posted descriptor, and no
completion event held. -/
def State.fetches (s : State) (side : PcieSide) : Bool :=
  let p := s.pcie side
  s.serving (sidePort side) && p.cmdRingEn && !p.ringErr && p.cmdProducer != p.cmdConsumer
    && !p.held.any (fun e => e.category = 1)

/-- The next descriptor and its command packet fetched, and the packet offered for admission (R45, R46). -/
def descriptorFetch (side : PcieSide) (d b : List Byte) (s : State) : State :=
  if s.fetches side then
    let index := (s.pcie side).cmdConsumer.toNat
    let s := s.onPcie side (fun p => { p with cmdConsumer := p.cmdConsumer + 1 })
    s.receive { port := sidePort side, slot := index, replyAddr := u64 d 8, replyBytes := u16 d 18 } b
      (u16 d 16 = b.length)
  else s

def execDescriptorFetch (side : PcieSide) (descriptor packet : List Byte) (s : State) : Out :=
  .next (descriptorFetch side descriptor packet s)

/-- Offsets 24 to 31 of the descriptor of an index written in one write (R45); its slot is the index modulo 256 (R46). -/
def descriptorDone (side : PcieSide) (index len status : Nat) (s : State) : State :=
  (s.toHost side ((s.pcie side).cmdRingBase.toNat + 32 * (index % 256) + 24)
    (leBytes 2 len ++ bytes [status, 1] ++ zeros 4)).signalMsix side 0

/-- A ring transfer fails (R44, R46; log 13). -/
def ringFailure (side : PcieSide) (t : RingTransfer) (s : State) : State :=
  let p := s.pcie side
  let index := p.cmdConsumer.toNat
  let msg (i : Nat) (s : State) : State := s.fault (portSource (sidePort side)) 0x20 i
  match t with
  | .descriptor => msg index (s.onPcie side (fun p => { p with ringErr := true }))
  | .command =>
    msg index (descriptorDone side index 0 stBadParam
      (s.onPcie side (fun p => { p with ringErr := true, cmdConsumer := p.cmdConsumer + 1 })))
  | .reply =>
    (match p.replies with
     | [] => s
     | r :: rs => msg r.slot (s.onPcie side (fun p => { p with replies := rs })))
  | .event => msg p.evtProducer.toNat (s.onPcie side (fun p => { p with ringErr := true }))

def execRingDmaFailure (side : PcieSide) (t : RingTransfer) (s : State) : Out := .next (ringFailure side t s)

/-- The oldest reply written to its buffer, and then its descriptor with DONE (R45). -/
def replyWrite (side : PcieSide) (s : State) : State :=
  match (s.pcie side).replies with
  | [] => s
  | r :: rs =>
    let s := s.onPcie side (fun p => { p with replies := rs })
    let s := if r.packet.isEmpty then s else s.toHost side r.replyAddr r.packet
    descriptorDone side r.slot r.packet.length r.status s

def execReplyWrite (side : PcieSide) (s : State) : Out := .next (replyWrite side s)

/-- A function-level reset, PERST_N or a PCIe link loss (R49, R439). -/
def execPcieFunctionReset (side : PcieSide) (linkLost : Bool) (s : State) : Out :=
  .next ((stopFetch side s).onPcie side (fun p => if linkLost then { p with linkUp := false } else p))

/-- An exit from L1 on CPA or CPB (R379). -/
def execPcieL1Exit (side : PcieSide) (s : State) : Out :=
  .next ((s.onPcie side (fun p => { p with linkL1 := false })).wake (match side with | .cpa => 3 | .cpb => 4) 0)

/-- What a port read returns, recorded (log 7). -/
def State.output (data : List Byte) (s : State) : State := s.onPorts (fun p => { p with lastOut := data })

/-- WINDOW_READ on CPM (R52). -/
def execWindowRead (address count : Nat) (s : State) : Out :=
  .next (if s.windowOn .cpm then s.output (s.windowFrom address count) else s)

/-- PACKET_WRITE on CPM (R52). -/
def execPacketWrite (packet : List Byte) (s : State) : Out := .next (s.receive { port := .cpm } packet true)

/-- REPLY_READ on CPM: the oldest reply with its length, taken out of the FIFO (R52). -/
def replyRead (s : State) : State :=
  match s.ports.cpm.replies with
  | [] => s.output (leBytes 2 0)
  | r :: rs => (s.onCpm (fun p => { p with replies := rs })).output (leBytes 2 r.length ++ r)

def execReplyRead (s : State) : Out := .next (if s.windowOn .cpm then replyRead s else s)

/-- PORT_STATUS on CPM; reading it clears the rejected bit (R52). -/
def portStatus (s : State) : State :=
  let p := s.ports.cpm
  (s.onCpm (fun p => { p with rejected := false })).output
    (bytes [flag (!p.replies.isEmpty) + 2 * flag p.rejected + 4 * flag (p.replies.length ≥ 64)])

def execPortStatus (s : State) : Out := .next (if s.windowOn .cpm then portStatus s else s)

/-- CPM chip select asserted (R379). -/
def execCpmChipSelect (s : State) : Out := .next (s.wake 5 0)

/-- The lane tests of IEEE 1149.6 run in FACTORY and SERVICE only (R30, R53). -/
def State.laneTests (s : State) : Bool := s.life.lifecycle = .factory || s.life.lifecycle = .service

/-- An instruction in force on CPT: with EXTEST, EXTEST_PULSE and EXTEST_TRAIN the boundary register drives the pins, and the
last two run the lane tests; any other instruction ends both (R53). -/
def tapInstruction (ir : Byte) (s : State) : State :=
  s.onCpt (fun p => { p with ir := ir, extest := ir = 0 || ir = 3 || ir = 4, pulsing := (ir = 3 || ir = 4) && s.laneTests })

/-- PKT_IN on CPT, at Update-DR (R53). -/
def execPktIn (packet : List Byte) (s : State) : Out :=
  .next ((tapInstruction 0x40 s).receive { port := .cpt } packet true)

/-- PKT_OUT on CPT, at Capture-DR (R53). -/
def pktOut (s : State) : State :=
  match s.ports.cpt.queue with
  | [] => s.output (leBytes 2 0)
  | r :: rs => (s.onCpt (fun p => { p with queue := rs })).output (leBytes 2 r.length ++ r)

def execPktOut (s : State) : Out :=
  .next (if s.windowOn .cpt then pktOut (tapInstruction 0x41 s) else s)

/-- WINDOW on CPT (R53, R423). -/
def execWindow (s : State) : Out :=
  .next (if s.windowOn .cpt then (tapInstruction 0x42 s).output s.window else s)

/-- BYPASS (R53): the one-bit register captures 0. -/
def execBypass (s : State) : Out := .next ((tapInstruction 0xFF s).output [0])

/-- IDCODE (R53). -/
def execIdcode (s : State) : Out := .next ((tapInstruction 1 s).output (leBytes 4 Config.idcode.toNat))

/-- SAMPLE/PRELOAD (R53): the boundary register takes the bits; the pin sample it returns is open (log 14). -/
def execSamplePreload (bits : List Bool) (s : State) : Out :=
  let (b, s) := (tapInstruction 2 s).freeByte
  .next ((s.onCpt (fun p => { p with boundary := bits })).output [b])

/-- EXTEST (R53): the boundary register drives the pins. -/
def execExtest (bits : List Bool) (s : State) : Out :=
  .next ((tapInstruction 0 s).onCpt (fun p => { p with boundary := bits }))

/-- EXTEST_PULSE (R53). -/
def execExtestPulse (bits : List Bool) (s : State) : Out :=
  .next ((tapInstruction 3 s).onCpt (fun p => { p with boundary := bits }))

/-- EXTEST_TRAIN (R53). -/
def execExtestTrain (bits : List Bool) (s : State) : Out :=
  .next ((tapInstruction 4 s).onCpt (fun p => { p with boundary := bits }))

/-- An update of the CPT instruction register (R53, R379). -/
def execCptInstructionUpdate (ir : Byte) (s : State) : Out :=
  .next ((tapInstruction ir s).wake 6 0)

/-! Class 0x0 commands (R56). -/

def deviceInfoBody : Body := fun rq s =>
  require (rq.payload.isEmpty)
    (okWith (leBytes 2 0x9256 ++ [Config.stepping] ++ bytes [s.life.lifecycle.code] ++ leBytes 2 s.node
      ++ bytes [s.roles, s.power.state.code] ++ leBytes 4 s.folioVersion ++ leBytes 4 s.life.rollback
      ++ leBytes 8 Config.serial.toNat) s) s

def execDeviceInfo (rq : Request) (s : State) : Out := .next (command 0x0002 deviceInfoBody rq s)

def statusReadBody : Body := fun rq s =>
  let p := rq.payload
  let off := u8 p 0
  let n := u16 p 2
  require (p.length = 4 && zeroAt p 1 1 && 1 ≤ n && n ≤ 256 && off + n ≤ 256)
    (okWith ((s.window.drop off).take n) s) s

def execStatusRead (rq : Request) (s : State) : Out := .next (command 0x0003 statusReadBody rq s)

/-- EVENT_CONFIG's settings for the port it arrives on (R54, R56). Of a link's originators the one that sent it last hears the
notices (DESIGN CHOICE, log 158). -/
def setPortMasks (rq : Request) (ring msix : Nat) (s : State) : State :=
  match rq.port with
  | .cpa => s.onPcie .cpa (fun q => { q with ringMask := BitVec.ofNat 16 ring, msixMask := BitVec.ofNat 16 msix })
  | .cpb => s.onPcie .cpb (fun q => { q with ringMask := BitVec.ofNat 16 ring, msixMask := BitVec.ofNat 16 msix })
  | .link n => s.onPorts (fun q => { q with links := q.links.upd n {} (fun l =>
      { l with ringMask := BitVec.ofNat 16 ring, listener := rq.originator }) })
  | _ => s

def eventConfigBody : Body := fun rq s =>
  let p := rq.payload
  let pcie := rq.port = .cpa || rq.port = .cpb
  require (p.length = 8 && u16 p 0 % 4 = 0 && u16 p 2 % 2 = 0 && (pcie || u16 p 4 = 0) && zeroAt p 6 2)
    (ok ((setPortMasks rq (u16 p 0) (u16 p 4) s).onPorts
      (fun q => { q with eventNMask := BitVec.ofNat 16 (u16 p 2) }))) s

def execEventConfig (rq : Request) (s : State) : Out := .next (command 0x0004 eventConfigBody rq s)

/-- The PORT_COUNTERS reply of a port (R56). -/
def counterBytes (c : PortCounters) : List Byte :=
  leBytes 4 c.received.toNat ++ leBytes 4 c.admitted.toNat ++ leBytes 4 c.busy.toNat ++ leBytes 4 c.badCrc.toNat
    ++ leBytes 4 c.refusedOther.toNat ++ leBytes 4 c.duplicate.toNat ++ leBytes 4 c.eventsLost.toNat

def portCountersBody : Body := fun rq s =>
  let p := rq.payload
  let n := u8 p 0
  require (p.length = 2 && zeroAt p 1 1 && (n ≤ 3 || (64 ≤ n && n ≤ 127)))
    (okWith (counterBytes (s.counters (portOf n))) s) s

def execPortCounters (rq : Request) (s : State) : Out := .next (command 0x0005 portCountersBody rq s)

end Sys2Proof.Machine
end

