-- ==== Sys2Proof/Machine/Formats.lean ====
section
/-! DEFINITION. SDI formats, rates and carriage (R74, R97, R98), frame-store sizes (R68), trunk charges (R86) and timecode (R323). -/

namespace Sys2Proof.Machine

/-- P_f of a rate code (R74), none for any other code. -/
def framePeriod (rate : Nat) : Option Nat :=
  match rate with
  | 1 => some 41708333
  | 2 => some 41666667
  | 3 => some 40000000
  | 4 => some 33366667
  | 5 => some 33333333
  | 6 => some 20000000
  | 7 => some 16683333
  | 8 => some 16666667
  | _ => none

/-- Frames per second of a rate code, as a fraction (R74). -/
def frameRate (rate : Nat) : Nat × Nat :=
  match rate with
  | 1 => (24000, 1001)
  | 2 => (24, 1)
  | 3 => (25, 1)
  | 4 => (30000, 1001)
  | 5 => (30, 1)
  | 6 => (50, 1)
  | 7 => (60000, 1001)
  | 8 => (60, 1)
  | _ => (1, 1)

/-- Whether a rate code is of the 1/1.001 family (R74, R100). -/
def ratePulled (rate : Nat) : Bool := rate = 1 || rate = 4 || rate = 7

/-- The line-rate class per link of a format and carriage (R97, R98, R106); none where R97 has no such combination. -/
def formatClass (format carriage : Nat) : Option Nat :=
  let raster := format / 16
  let rate := format % 16
  let links := carriage % 4
  let single := links = 0
  if carriage ≥ 16 || (bit carriage 3 && single) then none
  else if bit carriage 2 && !(single && raster = 6 && 6 ≤ rate && rate ≤ 8) then none
  else if raster = 1 then (if rate = 4 && single then some 0 else none)
  else if raster = 2 then (if rate = 3 && single then some 0 else none)
  else if raster = 3 then (if 1 ≤ rate && rate ≤ 8 && single then some 1 else none)
  else if raster = 4 then (if 3 ≤ rate && rate ≤ 5 && single then some 1 else none)
  else if raster = 5 then (if 1 ≤ rate && rate ≤ 5 && single then some 1 else none)
  else if raster = 6 then
    (if !single then none else if 1 ≤ rate && rate ≤ 5 then some 1 else if 6 ≤ rate && rate ≤ 8 then some 2 else none)
  else if raster = 7 then
    (if 1 ≤ rate && rate ≤ 5 then (if single then some 3 else none)
     else if 6 ≤ rate && rate ≤ 8 then
       (if links = 0 then some 4 else if links = 1 then some 3 else if links = 2 then some 2 else none)
     else none)
  else if raster = 8 then (if 6 ≤ rate && rate ≤ 8 && links = 2 then some 4 else none)
  else none

/-- A format code that R97 lists with some carriage. -/
def formatKnown (format : Nat) : Bool :=
  (formatClass format 0).isSome || (formatClass format 2).isSome

/-- Links of a carriage byte (R98). -/
def linksOf (carriage : Nat) : Nat := if carriage % 4 = 0 then 1 else if carriage % 4 = 1 then 2 else 4

/-- Line rate of a class in Mb/s (R106). -/
def classMbps (k : Nat) : Nat :=
  if k = 0 then 270 else if k = 1 then 1485 else if k = 2 then 2970 else if k = 3 then 5940 else 11880

/-- Words per second of a class at its integer rate: the line rate over 20 bits (R65). -/
def wordRate (k : Nat) : Nat := classMbps k * 50000

/-- The word rate of a format as a fraction: the 1/1.001 family divides it by 1.001, SD excepted (R97). -/
def formatWordRate (format carriage : Nat) : Nat × Nat :=
  let k := (formatClass format carriage).getD 1
  if k != 0 && ratePulled (format % 16) then (wordRate k * 1000, 1001) else (wordRate k, 1)

/-- Active words of a frame by raster (R68). -/
def activeWords (format : Nat) : Nat :=
  match format / 16 with
  | 1 => 349920
  | 2 => 414720
  | 3 => 921600
  | 4 => 2073600
  | 5 => 2073600
  | 6 => 2073600
  | 7 => 8294400
  | 8 => 33177600
  | _ => 0

/-- Width and height of a format's active picture (R97). -/
def rasterSize (format : Nat) : Nat × Nat :=
  match format / 16 with
  | 1 => (720, 486)
  | 2 => (720, 576)
  | 3 => (1280, 720)
  | 4 | 5 | 6 => (1920, 1080)
  | 7 => (3840, 2160)
  | 8 => (7680, 4320)
  | _ => (0, 0)

/-- Whether a raster is carried as two fields or segments (R97). -/
def twoFields (format : Nat) : Bool := [1, 2, 4, 5].contains (format / 16)

/-- Plates of one frame by raster (R68). -/
def framePlates (format : Nat) : Nat :=
  match format / 16 with
  | 1 => 1
  | 2 => 1
  | 3 => 2
  | 4 => 3
  | 5 => 3
  | 6 => 3
  | 7 => 10
  | 8 => 40
  | _ => 0

/-- The charge of a trunk rate code in Mb/s (R86), none for a code that the table has not. -/
def trunkCharge (code : Nat) : Option Nat :=
  if code = 1 then some 270 else if code = 2 then some 1485 else if code = 3 then some 2970
  else if code = 4 then some 5940 else if code = 5 then some 11880
  else if 0x10 ≤ code && code ≤ 0xFF then some ((code - 0x0F) * 100) else none

/-- The rate of a format carried over IP or as a sheet in Mb/s, rounded up to 0.1 Gb/s: its active picture at 20 bits
a word (R86; log 19). -/
def flowMbps (format : Nat) : Nat :=
  let (n, d) := frameRate (format % 16)
  cdiv (activeWords format * 20 * n) (d * 100000000) * 100

/-- A timing offset in words of the destination: reduced modulo its frame period when it reaches it, then rounded to
the nearest word, halves to the later one (R73). A negative offset leaves a negative remainder (DESIGN CHOICE, log 163). -/
def offsetWords (format carriage : Nat) (offset : Int) : Int :=
  let (n, d) := frameRate (format % 16)
  let (wn, wd) := formatWordRate format carriage
  let period : Int := sec * d
  let scaled : Int := offset * n
  let r := if scaled.natAbs ≥ sec * d then Int.tmod scaled period else scaled
  Int.fdiv (2 * r * wn + (n * sec * wd : Nat)) ((2 * n * sec * wd : Nat) : Int)

/-- Payload of one Voxad lane in kb/s by rate class (R149). -/
def lanePayload (k : Nat) : Nat :=
  if k = 6 then 2421875 else if k = 7 then 4843750 else if k = 8 then 9687500 else 19375000

/-- Payload of a link in kb/s: as trained while it is UP, else of its width at its max_class (R166). -/
def Link.payload (l : Link) : Nat :=
  widthLanes l.width * lanePayload (if l.state = .up then l.rateClass else l.maxClass)

/-- 90 % of a link's payload in kb/s (R86). -/
def Link.trunkLimit (l : Link) : Nat := l.payload * 9 / 10

/-! Time of day and timecode (R323). -/

/-- The UTC offset that the selected reference gives (R323). -/
def State.refUtc (s : State) : Option Int :=
  match s.ref.selected with
  | some 2 => if s.ref.ptp0.utcValid then some s.ref.ptp0.utcOffset else none
  | some 3 => if s.ref.ptp1.utcValid then some s.ref.ptp1.utcOffset else none
  | some 4 => if s.ref.utcValid then some s.ref.utcOffset else none
  | _ => none

/-- The UTC offset in use: utc_manual when utc_mode is 1 or the reference gives none (R323). -/
def State.utc (s : State) : Int := if s.ref.utcMode = 1 then s.ref.utcManual else s.refUtc.getD s.ref.utcManual

/-- Whether the offset in use is a valid one: the reference's, or one that the user sets (R319, R323; log 140). -/
def State.utcKnown (s : State) : Bool := s.ref.utcMode = 1 || s.refUtc.isSome

/-- Two decimal digits as BCD. -/
def bcd (n : Nat) : Nat := n / 10 % 10 * 16 + n % 10

/-- A time of day and frame number as BCD hh:mm:ss:ff (R110, R323). -/
def bcdTime (t ff : Nat) : Nat := bcd (t / 3600 % 24) * 2 ^ 24 + bcd (t / 60 % 60) * 2 ^ 16 + bcd (t % 60) * 2 ^ 8 + bcd ff

/-- Frame numbers at 30/1.001 that drop-frame timecode passes over before the `n`-th real frame of a day (R323 names ST 12-1;
PRESUMED: numbers 0 and 1 of every minute that is no multiple of ten). -/
def dropFrame (n : Nat) : Nat :=
  let tens := n / 17982
  let r := n % 17982
  n + 18 * tens + (if r < 1800 then 0 else 2 * ((r - 1800) / 1798 + 1))

/-- The drop-frame count of the real frame that bears the time of day `t` (R323, ST 12-1). -/
def dropCount (t : Nat) : Nat := t * 30 - 2 * (t / 60 - t / 600)

/-- The timecode that the time base gives at an instant for a frame rate (R323; log 146). -/
def State.timecodeAt (rate : Nat) (s : State) : Nat :=
  let day : Int := 86400
  let tod := (((s.now / sec : Nat) : Int) - s.utc + s.ref.localOffset) % day
  let t := tod.toNat
  let ns := s.now % sec
  let (n, d) := frameRate rate
  if d = 1 then bcdTime t (if n > 30 then ns * n / sec / 2 else ns * n / sec)
  else
    let e := (((tod - s.ref.jamS) % day).toNat * sec + ns) * n / (d * sec)
    if rate = 1 then
      let k := s.ref.jamS * 24 + e
      bcdTime (k / 24) (k % 24)
    else
      let k := dropFrame ((dropCount s.ref.jamS + (if rate = 7 then e / 2 else e)) % 2589408)
      bcdTime (k / 30) (k % 30)

/-! Proof digests (R340). -/

/-- A CRC-32C carried on over further bytes (R36). -/
def crcOn (crc : Nat) (p : List Byte) : Nat :=
  ((p.foldl (fun c b => crcBits crc32cBit 8 (c ^^^ b.zeroExtend 32)) (BitVec.ofNat 32 crc ^^^ 0xFFFFFFFF#32)) ^^^ 0xFFFFFFFF#32).toNat

/-- Bytes of an output unit enter its digest while the device is of a mirrored pair; a unit of another index completes the
earlier ones of its output, and a whole unit is complete at once (R340). -/
def State.digestOn (dest kind index : Nat) (whole : Bool) (p : List Byte) (s : State) : State :=
  if s.twin.role = .solo || !s.twin.mirrored then s
  else
    s.onTwin (fun t =>
      let mine (r : DigestRec) : Bool := r.dest = dest && r.kind = kind
      match t.own.find? (fun r => mine r && r.index = index && !r.done) with
      | some r => { t with own := t.own.map (fun x => if x = r then { r with crc := crcOn r.crc p, done := whole } else x) }
      | none =>
        { t with own := t.own.map (fun x => if mine x then { x with done := true } else x) ++
            [{ dest := dest, kind := kind, index := index, crc := crc32c p, done := whole }] })

end Sys2Proof.Machine
end

