-- ==== Sys2Proof/Machine/Picture.lean ====
section
/-! DEFINITION. Stored pictures (R20, R67, R133, R151, R290): how words are packed, which bytes a frame of a store holds, and
what its reader gets. -/

namespace Sys2Proof.Machine

/-! Packing (R20, R290). -/

/-- Bytes of a plate (R276). -/
def plateBytes : Nat := 2 ^ 21

/-- Bytes of a format's active picture: 16 words in 40 bytes (R20). -/
def pictureBytes (format : Nat) : Nat := activeWords format * 5 / 2

/-- A word of luma and chroma, the chroma sample in its low half, as the word stream Cb, Y, Cr, Y orders them (R290; log 148). -/
def pictureWord (luma chroma : Nat) : Nat := chroma % 1024 + 1024 * (luma % 1024)

/-- Two words as the 5 bytes that they fill: word k of a group occupies bits 20k + 19 to 20k (R290). -/
def packPair (w0 w1 : Nat) : List Byte := leBytes 5 (w0 + w1 * 2 ^ 20)

/-- A ST 2110-20 pgroup of two pixels, Cb, Y, Cr, Y with the first bit the highest, from the 5 bytes of their words (R136;
log 148). -/
def pgroupOf (b : List Byte) : List Byte :=
  let v := leNat b
  (leBytes 5 (v % 1024 * 2 ^ 30 + v / 2 ^ 10 % 1024 * 2 ^ 20 + v / 2 ^ 20 % 1024 * 2 ^ 10 + v / 2 ^ 30 % 1024)).reverse

/-- The 5 bytes of two words from a pgroup. -/
def ofPgroup (p : List Byte) : List Byte :=
  let v := leNat p.reverse
  leBytes 5 (v / 2 ^ 30 % 1024 + v / 2 ^ 20 % 1024 * 2 ^ 10 + v / 2 ^ 10 % 1024 * 2 ^ 20 + v % 1024 * 2 ^ 30)

/-- A list cut into pieces of `n`, each changed; a rest shorter than `n` is left out. -/
def mapPieces (n : Nat) (f : List Byte → List Byte) : Nat → List Byte → List Byte
  | 0, _ => []
  | k + 1, l => if l.length < n || n = 0 then [] else f (l.take n) ++ mapPieces n f k (l.drop n)

/-! What a frame holds. -/

/-- A composed pixel of a sheet's frame as its word (R268). -/
def Frame.pixelWord (f : Frame) (width i : Nat) : Option Nat :=
  (f.pixels.find? (fun p => p.2.1 * width + p.1 = i && p.1 < width)).map
    (fun p => pictureWord p.2.2.1.toNat ((if p.1 % 2 = 0 then p.2.2.2.1 else p.2.2.2.2).toNat))

/-- Byte `o` of a frame's picture where the model holds it: the newest received part that covers it, or composed pixels. -/
def Frame.byte (f : Frame) (width o : Nat) : Option Byte :=
  match f.regions.find? (fun r => r.first ≤ o && o < r.first + r.data.length) with
  | some r => r.data[o - r.first]?
  | none =>
    match f.pixelWord width (2 * (o / 5)), f.pixelWord width (2 * (o / 5) + 1) with
    | some a, some b => some ((packPair a b).getD (o % 5) 0)
    | _, _ => none

/-- What the store's memory holds at byte `o` of a frame: a byte that no command carried is free (log 51). -/
def Frame.stored (src width o : Nat) (f : Frame) : Byte := (f.byte width o).getD (Config.pictureByte src f.seq o)

/-- What a reader gets at byte `o`: a part that is missing from a flow's or a trunk's frame comes from the stored frame before it
(R133, R151), as far back as the store goes (log 148). -/
def readByte (filled : Bool) (src width o : Nat) : List Frame → Byte
  | [] => Config.pictureByte src 0 o
  | f :: r =>
    match f.byte width o with
    | some b => b
    | none => if filled && !r.isEmpty then readByte filled src width o r else Config.pictureByte src f.seq o

/-- Whether a source's missing picture parts are filled from the frame before: flows and trunks (R133, R151). -/
def fillsMissing (src : Nat) : Bool := (0x100 ≤ src && src ≤ 0x4FF) || (0x600 ≤ src && src ≤ 0x7FF)

/-- Bytes `first` to `first + n - 1` of the picture of a source's frame `seq` as its reader gets them. -/
def State.readPicture (src seq first n : Nat) (s : State) : List Byte :=
  let st := (s.lat.stores.get? src).getD {}
  let frames := st.frames.dropWhile (fun f => f.seq != seq)
  (List.range n).map (fun i => readByte (fillsMissing src) src (rasterSize st.format).1 (first + i) frames)

/-- The local offset of byte `o` of a store's frame `seq`: each frame has a third of the store's plates (R68, R290). -/
def Store.address (st : Store) (seq o : Nat) : Nat :=
  st.plates.getD (seq % 3 * st.ppf + o / plateBytes) 0 * plateBytes + o % plateBytes

/-- The bytes among `first` to `first + n - 1` of a source's frame that lie in poisoned lines (R146, R278), counted from `first`. -/
def State.poisonedBytes (src seq first n : Nat) (s : State) : List Nat :=
  let st := (s.lat.stores.get? src).getD {}
  if s.mem.poison.isEmpty then []
  else (List.range n).filter (fun i => s.mem.poison.contains (st.address seq (first + i) / 64 * 64))

/-- The ancillary packets of a source's frame (R111, R132). -/
def State.frameAnc (src seq : Nat) (s : State) : List AncPacket :=
  match (((s.lat.stores.get? src).getD {}).frames).find? (fun f => f.seq = seq) with
  | some f => f.anc
  | none => []

/-- A received part put into the newest frame of a source's store (R133, R151). -/
def State.putRegion (src first : Nat) (data : List Byte) (s : State) : State :=
  s.onLat (fun l => match l.stores.get? src with
    | some st =>
      (match st.frames with
       | f :: r => { l with stores := l.stores.put src { st with frames := { f with regions := { first := first, data := data } :: f.regions } :: r } }
       | [] => l)
    | none => l)

end Sys2Proof.Machine
end

