-- ==== Sys2Proof/Machine/SysForme.lean ====
section
/-! DEFINITION. What the apex keeps of a system forme's run (R187 to R191), and the report of a node's lock-up. -/

namespace Sys2Proof.Machine

/-- How many nodes of a system forme have a property. -/
def SysForme.nodeCount (f : SysForme) (p : NodeAnswer → Bool) : Nat := f.nodes.count (fun _ n => p n)

/-- The first node in ascending order with a property, or 0xFFFF. -/
def SysForme.firstNode (f : SysForme) (p : NodeAnswer → Bool) : Nat :=
  match f.nodes.find? (fun e => p e.2) with
  | some e => e.1
  | none => 0xFFFF

def State.onSysForme (s : State) (id : Nat) (f : SysForme → SysForme) : State :=
  s.onHier (fun h => { h with sysFormes := match h.sysFormes.get? id with
                                           | some x => h.sysFormes.put id (f x)
                                           | none => h.sysFormes })

/-- The SYS_FORME_RUN completion payload (R200). -/
def SysForme.runPayload (f : SysForme) : List Byte :=
  let n (p : NodeAnswer → Bool) := leBytes 2 (f.nodeCount p)
  leBytes 2 f.nodes.length ++ n (fun a => a.answer = 0) ++ n (fun a => a.answer != 0) ++ n (fun a => a.committed)
    ++ n (fun a => a.committed && a.lockup = 1) ++ n (fun a => a.committed && a.lockup = 2)
    ++ n (fun a => a.committed && a.lockup = 0) ++ leBytes 2 (f.firstNode (fun a => a.answer != 0))

/-- SYS_FORME_RUN completes: WRONG_STATE when aborted, LATE when a committed node was late, else OK (R190, R200;
log 20). -/
def State.finishRun (id : Nat) (s : State) : State :=
  match s.hier.sysFormes.get? id with
  | none => s
  | some f =>
    match f.runHandle with
    | none => s
    | some h =>
      let st := if f.decision = 2 then stWrongState
                else if f.nodes.has (fun _ a => a.committed && a.lockup = 2) then stLate else stOk
      (s.onSysForme id (fun f => { f with state := if f.decision = 2 then 5 else 6, runHandle := none })).complete
        h st f.runPayload

/-- A run completes once every committed node has reported (R190). -/
def State.checkRun (id : Nat) (s : State) : State :=
  match s.hier.sysFormes.get? id with
  | some f =>
    if f.decision != 0 && f.runHandle.isSome && !f.nodes.has (fun _ a => a.committed && a.lockup = 0) then s.finishRun id
    else s
  | none => s

/-- A node's lock-up report recorded at the apex (R190): 1 on time, 2 late, 3 dropped. -/
def State.lockupReported (id node lockup : Nat) (s : State) : State :=
  (s.onSysForme id (fun f => { f with nodes := match f.nodes.get? node with
                                               | some a => f.nodes.put node { a with lockup := lockup }
                                               | none => f.nodes })).checkRun id

/-- A device-generated tag (R172). -/
def State.newTag (s : State) : Nat × State :=
  (s.hier.nextTag, s.onHier (fun h => { h with nextTag := (h.nextTag + 1) % 32768 }))

/-- A tag of a system forme's run, in the upper half of the tags: both twins of an apex draw the same ones, because both
execute the same commands (R199; log 151). -/
def State.newSysTag (s : State) : Nat × State :=
  (32768 + s.hier.sysTag, s.onHier (fun h => { h with sysTag := (h.sysTag + 1) % 32768 }))

/-- The originator field of the device's own hierarchy functions (R172). -/
def State.selfOriginator (s : State) : Nat := s.node + 0x4000

/-- A packet of the device's own hierarchy functions with a fresh tag (R172). -/
def State.ownPacket (op target : Nat) (payload : List Byte) (s : State) : List Byte × State :=
  let (t, s) := s.newTag
  (packet op t 0 0 target s.selfOriginator 0 payload, s)

/-- LOCKUP_REPORT for a PREPARE-loaded forme (R190): result 0 on time, 1 late, 2 dropped. -/
def State.reportLockup (f : Forme) (result : Nat) (s : State) : State :=
  if !f.prepared then s
  else if s.hier.apexRole then s.lockupReported f.id s.node (result + 1)
  else
    let (pkt, s) := s.ownPacket 0x302C 0x3FFF
      (leBytes 4 f.id ++ bytes [result, 0] ++ leBytes 2 f.switched ++ timeBytes f.lastSwitch)
    s.post 1 0x3FFF pkt

/-- A pushed record freed (R185). -/
def State.freePushed (id : Nat) (s : State) : State := s.onHier (fun h => { h with pushed := h.pushed.del id })

end Sys2Proof.Machine
end

