-- ==== Sys2Proof/Machine/Lattice.lean ====
section
/-! DEFINITION. The lattice (R58 to R93): destinations and planes, formes and lock-up, single routes, trunk maps, frame
stores and keep records. -/

namespace Sys2Proof.Machine

/-! Sources and destinations (R58, R59). -/

/-- A source number that R58 lists, NONE included. -/
def sourceOk (n : Nat) : Bool := n ≤ 0x51F || (0x600 ≤ n && n ≤ 0x7FF) || n = 0xFFFF

def isSdi (n : Nat) : Bool := n ≤ 0xFF
def isFlow (n : Nat) : Bool := 0x100 ≤ n && n ≤ 0x4FF
def isSheet (n : Nat) : Bool := 0x500 ≤ n && n ≤ 0x51F
def isTrunkSource (n : Nat) : Bool := 0x600 ≤ n && n ≤ 0x7FF
def isTrunkDest (n : Nat) : Bool := 0x500 ≤ n && n ≤ 0x6FF
def isPageInput (n : Nat) : Bool := 0x700 ≤ n && n ≤ 0x7FF

def State.dest (s : State) (n : Nat) : Dest := s.lat.dests.at n {}
def State.onDest (s : State) (n : Nat) (f : Dest → Dest) : State :=
  s.onLat (fun l => { l with dests := l.dests.upd n {} f })

/-- The standing entry of a destination; NONE where none is listed (R59). -/
def State.standingEntry (s : State) (n : Nat) : Entry := s.lat.standing.entries.at n {}

/-- An entry as its 12 bytes (R71). -/
def entryBytes (dest : Nat) (e : Entry) : List Byte :=
  leBytes 2 dest ++ leBytes 2 e.source ++ bytes [e.plane % 4 + 4 * flag e.follow + 8 * flag e.black, 0, 0, 0]
    ++ leInt 4 e.offset

/-- An entry read from its 12 bytes (R71). -/
def parseEntry (p : List Byte) : Nat × Entry :=
  (u16 p 0, { source := u16 p 2, plane := u8 p 4 % 4, follow := bit (u8 p 4) 2, black := bit (u8 p 4) 3,
              offset := s32 p 8 })

/-- The reserved fields of an entry are zero (R9, R71). -/
def entryReservedOk (p : List Byte) : Bool := u8 p 4 < 16 && zeroAt p 5 3

/-- The CRC-32C over entries in ascending destination order (R70). -/
def entriesCrc (t : Tbl Entry) : Nat := crc32c (t.flatMap (fun e => entryBytes e.1 e.2))

/-- The format and carriage of a source where it has one (R62): a locked input, a configured ST 2110-20 flow, an enabled
sheet. A trunk source's format is not known here (log 25). -/
def State.sourceFormat (s : State) (n : Nat) : Option (Nat × Nat) :=
  if isSdi n then
    let r := (s.lane n).rx
    if r.locked && r.format != 0 then some (r.format, r.carriage) else none
  else if isFlow n then
    let f := (s.eth.rx.at (n - 0x100) {}).cfg
    if f.kind = 1 then some (f.param, 0) else none
  else if isSheet n then
    let h := s.imp.sheets.at (n - 0x500) {}
    if h.enabled then some (h.format, h.carriage) else none
  else none

/-- A source's rate in Mb/s for the trunk check (R86, R87); 0 while it has no format. -/
def State.sourceMbps (s : State) (n : Nat) : Nat :=
  match s.sourceFormat n with
  | none => 0
  | some (f, c) => if isSdi n then classMbps ((formatClass f c).getD 0) * linksOf c else flowMbps f

/-! What a destination takes (R61, R62). -/

/-- A unit under one of some proof tests (R386, R388). -/
def State.underTest (tests : List Nat) (unit : Nat) (s : State) : Bool :=
  s.proof.runs.any (fun r => r.steps.any (fun x => tests.contains x.test && x.unit = unit && x.started.isSome))

/-- What a destination is configured to take: none while it is not configured, and then its idle reason; otherwise its
format and carriage where it has one (R61, R62). -/
inductive Takes where
  | idle (reason : Nat)
  | any
  | format (f c : Nat)
deriving DecidableEq, Repr

def State.destTakes (d : Nat) (wait : Bool) (s : State) : Takes :=
  if isSdi d then
    let l := s.lane d
    if l.role != .sdi then .idle 5
    else if s.underTest [1, 2] d then .idle 0
    else if l.txBond != 0 && l.txBondFirst != d then .idle 4
    else if l.txFormat = 0 then .idle 3
    else .format l.txFormat l.txCarriage
  else if isFlow d then
    let f := (s.eth.tx.at (d - 0x100) {}).cfg
    if f.kind = 0 || !f.enable then .idle (if wait then 7 else 0)
    else if f.kind = 1 then .format f.param 0 else .any
  else if isTrunkDest d then
    match s.lat.sends.get? (d - 0x500) with
    | none => .idle 0
    | some m => if (s.link m.link).state != .up then .idle 0 else if (s.dest d).rateIdle then .idle 6 else .any
  else
    let i := s.imp.inputs.at (d - 0x700) {}
    if i.format = 0 then .idle 0 else .format i.format i.carriage

/-- The lanes whose measurements decide an SDI source: the members of its bond (R60, R66). -/
def State.bondLanes (n : Nat) (s : State) : List Nat :=
  let l := s.lane n
  if l.rxBond = 0 then [n] else (List.range l.rxBond).map (fun i => l.rxBondFirst + i)

/-- The phase error of a source: of a bond, that of its latest member (R65, R104); 0 for a source that is no SDI input. -/
def State.sourcePhase (src : Nat) (s : State) : Int :=
  if !isSdi src then 0
  else
    match (s.bondLanes src).filterMap (fun n => if (s.lane n).rx.measured then some (s.lane n).rx.phase else none) with
    | [] => 0
    | p :: r => r.foldl max p

/-! Frame stores (R67, R68, R290). -/

/-- A route that may take the cut plane: SDI to SDI, AUTO or CUT, FOLLOW (R64). -/
def mayCut (dest : Nat) (e : Entry) : Bool := isSdi dest && isSdi e.source && e.plane != 2 && e.follow

/-- The format of the store of a source that a destination takes: the source's, and for a trunk source, whose format nothing
states, that of the destination (log 25). -/
def State.storeFormat (src dest : Nat) (s : State) : Option (Nat × Nat) :=
  match s.sourceFormat src with
  | some f => some f
  | none =>
    if isTrunkSource src then (match s.destTakes dest false with | .format f c => some (f, c) | _ => none) else none

/-- The plates of a store: three frames of its format, 0 while it has none (R68; log 23). -/
def State.storePlates (q : Nat × Nat) (s : State) : Nat :=
  match s.storeFormat q.1 q.2 with
  | none => 0
  | some (f, _) => 3 * framePlates f

/-- Plates of the stores held now (R68). -/
def State.platesUsed (s : State) : Nat := s.lat.stores.foldl (fun n e => n + e.2.plates.length) 0

/-- The lowest `n` plates of the frame-store region that no store holds, in ascending order (log 23). -/
def pickPlates (used : List Nat) : Nat → Nat → Nat → List Nat
  | 0, _, _ => []
  | _ + 1, _, 0 => []
  | fuel + 1, c, n + 1 =>
    if used.contains c then pickPlates used fuel (c + 1) (n + 1) else c :: pickPlates used fuel (c + 1) n

/-- A store allotted to a source for a destination that takes it, where it has a format and no store yet (R67, R68). -/
def State.ensureStore (q : Nat × Nat) (s : State) : State :=
  match s.lat.stores.get? q.1, s.storeFormat q.1 q.2 with
  | none, some (f, c) =>
    let n := 3 * framePlates f
    let used := s.lat.stores.flatMap (fun e => e.2.plates)
    if used.length + n ≤ 32768 then
      let st : Store := { plates := pickPlates used (n + used.length) 0 n, ppf := framePlates f, format := f, carriage := c }
      s.onLat (fun l => { l with stores := l.stores.put q.1 st })
    else s
  | _, _ => s

/-- Whether a standing or pending entry takes a source from its store, or an enabled sheet holds it (R68, R264). -/
def State.storeWanted (src : Nat) (s : State) : Bool :=
  let takes (d : Nat) (e : Entry) : Bool := e.source = src && (!mayCut d e || (s.dest d).plane = 2)
  s.lat.standing.entries.has takes || s.lat.pending.any (fun f => f.entries.has takes)
    || s.lat.dests.has (fun d x => x.current.source = src && (!mayCut d x.current || x.plane = 2))
    || (isSheet src && (s.imp.sheets.at (src - 0x500) {}).enabled)

/-- Stores that no entry takes are freed, and their plates' generations move on (R68, R282). -/
def State.freeStores (s : State) : State :=
  let gone := s.lat.stores.filter (fun e => !s.storeWanted e.1)
  let s := s.onLat (fun l => { l with stores := l.stores.filter (fun e => s.storeWanted e.1) })
  each (gone.flatMap (fun e => e.2.plates)) (fun p s =>
    s.onMem (fun m => { m with generations := m.generations.upd p m.bootGeneration (fun g => g + 1) })) s

/-- The sources of entries that need a store and have none, without repeats, each with the destination that takes it (R68). -/
def State.newStoreSources (t : Tbl Entry) (s : State) : List (Nat × Nat) :=
  (t.filter (fun e => e.2.source != 0xFFFF && !mayCut e.1 e.2 && (s.lat.stores.get? e.2.source).isNone)).foldl
    (fun l e => if l.any (fun q => q.1 = e.2.source) then l else l ++ [(e.2.source, e.1)]) []

/-- Plates that a forme's entries add (R68, R92). -/
def State.platesAdded (t : Tbl Entry) (s : State) : Nat :=
  (s.newStoreSources t).foldl (fun n q => n + s.storePlates q) 0

/-! Checking entries (R76). -/

/-- The first reason an entry fails on its fields: 3 RANGE, 4 PLANE, 5 FOLLOW, 6 OFFSET, or 0 (R58, R64, R71 to R73). -/
def entryError (dest : Nat) (e : Entry) : Nat :=
  if dest > 0x7FF || !sourceOk e.source then 3
  else if e.plane = 3 then 4
  else if e.plane = 1 && !(isSdi dest && (isSdi e.source || e.source = 0xFFFF) && e.follow) then 4
  else if e.follow && !isSdi dest then 5
  else if e.offset.natAbs > 41708332 then 6
  else 0

/-- An entry whose own fields are valid, whatever its route: destination, source, plane, audio_follow and offset (R58, R71 to
R73). FORME_ENTRIES refuses any other (R75; log 136). -/
def entryFieldsOk (dest : Nat) (e : Entry) : Bool :=
  dest ≤ 0x7FF && sourceOk e.source && e.plane != 3 && (!e.follow || isSdi dest) && e.offset.natAbs ≤ 41708332

/-- The trunk check of an entry: 7 TRUNK_UNMAPPED, 8 TRUNK_RATE, or 0 (R76, R87). -/
def State.trunkError (dest : Nat) (e : Entry) (s : State) : Nat :=
  if isTrunkDest dest then
    match s.lat.sends.get? (dest - 0x500) with
    | none => 7
    | some m => if e.source != 0xFFFF && s.sourceMbps e.source > (trunkCharge m.rate).getD 0 then 8 else 0
  else 0

/-- The first failing destination and reason of a forme's entries, in ascending order, field checks first (R76). -/
def State.firstError (t : Tbl Entry) (s : State) : Nat × Nat :=
  match t.find? (fun e => entryError e.1 e.2 != 0) with
  | some e => (e.1, entryError e.1 e.2)
  | none =>
    match t.find? (fun e => s.trunkError e.1 e.2 != 0) with
    | some e => (e.1, s.trunkError e.1 e.2)
    | none => if s.platesUsed + s.platesAdded t > 32768 then (0xFFFF, 9) else (0xFFFF, 0)

/-- The checks of R76 in their order: destination and reason of the first failure, 0xFFFF where it names no destination
(DESIGN CHOICE, log 136). -/
def State.formeError (t : Tbl Entry) (count crc : Nat) (s : State) : Nat × Nat :=
  if count != t.length || count = 0 || count > 2048 then (0xFFFF, 1)
  else if entriesCrc t != crc then (0xFFFF, 2)
  else s.firstError t

/-- The status of a reason of R92. -/
def reasonStatus (r : Nat) : Nat := if r = 8 then stTrunkFull else if r = 9 then stResource else stBadParam

/-! Pending formes (R75). -/

def State.forme (s : State) (id : Nat) : Option Forme := s.lat.pending.find? (fun f => f.id = id)
def State.onForme (s : State) (id : Nat) (f : Forme → Forme) : State :=
  s.onLat (fun l => { l with pending := l.pending.map (fun x => if x.id = id then f x else x) })
def State.dropForme (s : State) (id : Nat) : State :=
  (s.onLat (fun l => { l with pending := l.pending.filter (fun x => x.id != id) })).freeStores
def State.openForme (s : State) : Option Forme := s.lat.pending.find? (fun f => f.state = .opened)

/-- The FORME_SCHEDULE completion payload (R92). -/
def Forme.completion (f : Forme) : List Byte :=
  leBytes 4 f.id ++ leBytes 2 f.moves ++ leBytes 2 f.switched ++ timeBytes f.lastSwitch

/-- Whether T lies within 50 ms of another pending forme's T (R78, R80). -/
def State.spacingBad (id t : Nat) (s : State) : Bool :=
  s.lat.pending.any (fun f => f.id != id && (match f.t with
    | some u => (if t ≤ u then u - t else t - u) ≤ 50000000
    | none => false))

/-- A keep record is due: at once, or when the 100 ms since the last have passed (R88). -/
def State.keepTouch (s : State) : State :=
  s.onLat (fun l => { l with keepDue := match l.keepDue with
    | some d => some d
    | none => some (match l.keepLast with | some k => max s.now (k + 100000000) | none => s.now) })

def formeOpenBody : Body := fun rq s =>
  let p := rq.payload
  let id := u32 p 0
  if p.length != 8 || id = 0 || u8 p 4 > 1 || (framePeriod (u8 p 5)).isNone || !zeroAt p 6 2 then fail stBadParam s
  else if s.lat.pending.length ≥ 8 then fail stResource s
  else if s.openForme.isSome then fail stWrongState s
  else if s.lat.standing.id = id || (s.forme id).isSome then fail stBadParam s
  else ok (s.onLat (fun l => { l with pending := l.pending ++ [{ id := id, merge := u8 p 4 = 1, rate := u8 p 5 }] }))

def execFormeOpen (rq : Request) (s : State) : Out := .next (command 0x1001 formeOpenBody rq s)

/-- Entries stored in order; a later one for the same destination replaces it (R75). -/
def storeEntries (t : Tbl Entry) (l : List (List Byte)) : Tbl Entry :=
  l.foldl (fun t p => t.put (parseEntry p).1 (parseEntry p).2) t

def formeEntriesBody : Body := fun rq s =>
  let p := rq.payload
  let id := u32 p 0
  let n := u16 p 4
  let es := records p 8 12 n
  if p.length < 8 || n = 0 || n > 340 || p.length != 8 + 12 * n || !zeroAt p 6 2
      || !es.all (fun p => entryReservedOk p && entryFieldsOk (parseEntry p).1 (parseEntry p).2) then
    fail stBadParam s
  else if (s.forme id).any (fun f => f.state = .opened) then
    ok (s.onForme id (fun f => { f with entries := storeEntries f.entries es }))
  else fail stWrongState s

def execFormeEntries (rq : Request) (s : State) : Out := .next (command 0x1002 formeEntriesBody rq s)

/-- FORME_CLOSE once the forme is OPEN: the checks of R76, then CLOSED with its stores (R75). -/
def closeForme (f : Forme) (count crc : Nat) (s : State) : Res × State :=
  let (d, r) := s.formeError f.entries count crc
  if r != 0 then fail (reasonStatus r) (s.onForme f.id (fun f => { f with errDest := d, errReason := r }))
  else
    let plates := s.platesAdded f.entries
    let srcs := s.newStoreSources f.entries
    ok (each srcs State.ensureStore (s.onForme f.id (fun f =>
      { f with state := .closed, crc := crc, errDest := 0xFFFF, errReason := 0, plates := plates })))

def formeCloseBody : Body := fun rq s =>
  let p := rq.payload
  if p.length != 12 || !zeroAt p 6 2 then fail stBadParam s
  else
    match s.forme (u32 p 0) with
    | some f => if f.state = .opened then closeForme f (u16 p 4) (u32 p 8) s else fail stWrongState s
    | none => fail stWrongState s

def execFormeClose (rq : Request) (s : State) : Out := .next (command 0x1003 formeCloseBody rq s)

/-- The checks of R78 on a lock-up time, in their order: a status, or 0. -/
def State.lockupTimeError (id t : Nat) (s : State) : Nat :=
  if t < s.now + 2000000 then stLate
  else if t > s.now + day then stBadParam
  else if s.spacingBad id t then stBadParam
  else 0

def formeScheduleBody : Body := fun rq s =>
  let p := rq.payload
  let id := u32 p 0
  let t0 := timeAt p 8 16
  let t := if t0 = 0 then s.now + 2000000 else t0
  if p.length != 24 || !zeroAt p 4 4 || !zeroAt p 20 4 || !nsOk p 16 then fail stBadParam s
  else
    match s.forme id with
    | none => if s.lat.standing.id = id && id != 0 then
                fail (if s.lockupTimeError id t != 0 then s.lockupTimeError id t else stWrongState) s
              else fail stBadParam s
    | some f =>
      if s.lockupTimeError id t != 0 then fail (s.lockupTimeError id t) s
      else if f.prepared || (f.state != .opened && f.state != .closed) then fail stWrongState s
      else accepted ((s.completeOpt f.handle stWrongState f.completion).onForme id (fun f =>
        { f with t := some t, origT := t, moves := 0, handle := some (handleOf 0x1004 rq) }))

def execFormeSchedule (rq : Request) (s : State) : Out := .next (command 0x1004 formeScheduleBody rq s)

def formeCancelBody : Body := fun rq s =>
  let p := rq.payload
  let id := u32 p 0
  if p.length != 4 then fail stBadParam s
  else
    match s.forme id with
    | none => if s.lat.standing.id = id && id != 0 then fail stWrongState s else fail stBadParam s
    | some f =>
      if f.prepared || (f.state != .opened && f.state != .closed) then fail stWrongState s
      else ok ((s.dropForme id).completeOpt f.handle stWrongState f.completion)

def execFormeCancel (rq : Request) (s : State) : Out := .next (command 0x1005 formeCancelBody rq s)

/-- ROUTE_SET once its fields are checked (R83, R84): the standing entry, and with `mirror` the OPEN forme's. -/
def routeSet (dest : Nat) (e : Entry) (mirror : Bool) (s : State) : Res × State :=
  if s.openForme.isSome && !mirror then fail stBusyRebuild s
  else if s.trunkError dest e != 0 then fail (reasonStatus (s.trunkError dest e)) s
  else if s.platesUsed + s.platesAdded [(dest, e)] > 32768 then fail stResource s
  else
    let srcs := s.newStoreSources [(dest, e)]
    let change (d : Dest) : RouteChange := { entry := e, notBefore := s.now + 100000, afterNext := d.next.isSome }
    let s := s.onDest dest (fun d => { d with restoreWait := false, route := some (change d) })
    let stand (f : Standing) : Standing :=
      { f with entries := f.entries.put dest e, modified := sat 65535 (f.modified + 1) }
    let s := s.onLat (fun l => { l with standing := stand l.standing })
    let s := match s.openForme with
      | some f => s.onForme f.id (fun f => { f with entries := f.entries.put dest e })
      | none => s
    ok (each srcs State.ensureStore s).freeStores.keepTouch

def routeSetBody : Body := fun rq s =>
  let p := rq.payload
  let (d, e) := parseEntry p
  if p.length != 16 || !entryReservedOk p || u8 p 12 > 1 || !zeroAt p 13 3 || entryError d e != 0 then fail stBadParam s
  else routeSet d e (u8 p 12 = 1) s

def execRouteSet (rq : Request) (s : State) : Out := .next (command 0x1006 routeSetBody rq s)

def FormeState.code : FormeState → Nat
  | .opened => 0
  | .closed => 1
  | .shadow => 2
  | .locking => 3

/-- The FORME_INFO reply (R92). -/
def infoBytes (id state : Nat) (t : Option Nat) (time rate count moves modified crc errDest errReason plates : Nat) :
    List Byte :=
  leBytes 4 id ++ bytes [state + 8 * flag t.isSome, rate] ++ leBytes 2 count ++ timeBytes (t.getD time)
    ++ leBytes 2 moves ++ leBytes 2 modified ++ leBytes 4 crc ++ leBytes 2 errDest ++ bytes [errReason, 0]
    ++ leBytes 4 plates ++ zeros 4

def formeInfoBody : Body := fun rq s =>
  let p := rq.payload
  if p.length != 8 || u8 p 4 > 1 || !zeroAt p 5 3 then fail stBadParam s
  else if u8 p 4 = 1 then
    let f := s.lat.standing
    okWith (infoBytes f.id 4 none f.t f.rate f.entries.length f.moves f.modified f.crc 0xFFFF 0 0) s
  else
    match s.forme (u32 p 0) with
    | none => fail stBadParam s
    | some f => okWith (infoBytes f.id f.state.code f.t 0 f.rate f.entries.length f.moves 0 f.crc f.errDest
        f.errReason f.plates) s

def execFormeInfo (rq : Request) (s : State) : Out := .next (command 0x1007 formeInfoBody rq s)

/-- The entries of a range of destinations (R92; log 22). -/
def entriesIn (t : Tbl Entry) (first count : Nat) : Tbl Entry := t.filter (fun e => first ≤ e.1 && e.1 < first + count)

def formeReadBody : Body := fun rq s =>
  let p := rq.payload
  let first := u16 p 8
  let n := u16 p 10
  let reply (t : Tbl Entry) : Res × State :=
    let l := entriesIn t first n
    okWith (leBytes 2 l.length ++ zeros 2 ++ l.flatMap (fun e => entryBytes e.1 e.2)) s
  if p.length != 12 || u8 p 0 > 1 || !zeroAt p 1 3 || n = 0 || n > 340 || first + n > 2048 then fail stBadParam s
  else if u8 p 0 = 0 then reply s.lat.standing.entries
  else
    match s.forme (u32 p 4) with
    | none => fail stBadParam s
    | some f => reply f.entries

def execFormeRead (rq : Request) (s : State) : Out := .next (command 0x1008 formeReadBody rq s)

/-- A DEST_STATUS record (R92). -/
def State.destRecord (n : Nat) (s : State) : List Byte :=
  let d := s.dest n
  leBytes 2 n ++ leBytes 2 d.current.source ++ bytes [d.plane, d.reason]
    ++ leInt 2 (s.sourcePhase d.current.source)
    ++ leBytes 4 (if d.plane = 2 then d.latency else 0) ++ leBytes 2 d.repeats.toNat ++ leBytes 2 d.skips.toNat

def destStatusBody : Body := fun rq s =>
  let p := rq.payload
  let first := u16 p 0
  let n := u16 p 2
  require (p.length = 4 && 1 ≤ n && n ≤ 255 && first + n ≤ 2048)
    (okWith (leBytes 2 n ++ zeros 2 ++ (List.range n).flatMap (fun i => s.destRecord (first + i))) s) s

def execDestStatus (rq : Request) (s : State) : Out := .next (command 0x1009 destStatusBody rq s)

/-! Trunk maps (R85, R86). -/

/-- The charge of an audio trunk bundle in Mb/s: channels x rate x 32 bit/s, rounded up to 0.1 Gb/s (R222). -/
def bundleMbps (channels : Nat) (rate96 : Bool) : Nat :=
  cdiv (channels * (if rate96 then 96000 else 48000) * 32) 100000000 * 100

/-- Send charges of a link in Mb/s, one trunk endpoint and one audio bundle left out (R86, R222). -/
def State.linkChargeBut (link skip skipBundle : Nat) (s : State) : Nat :=
  s.audio.sends.foldl (fun n e => if e.2.link = link && e.1 != skipBundle then n + bundleMbps e.2.channels e.2.rate96 else n)
    (s.lat.sends.foldl (fun n e => if e.2.link = link && e.1 != skip then n + (trunkCharge e.2.rate).getD 0 else n) 0)

/-- Send charges of a link in Mb/s, one endpoint left out (R86). -/
def State.linkCharge (link skip : Nat) (s : State) : Nat := s.linkChargeBut link skip 65536

/-- Whether an audio bundle uses a stream of a link in one direction: stream numbers share the link's space (R222). -/
def State.bundleStream (link stream : Nat) (receive : Bool) (skip : Nat) (s : State) : Bool :=
  (if receive then s.audio.receives else s.audio.sends).has (fun b x => b != skip && x.link = link && x.stream = stream)

/-- Whether the standing or a pending forme names a trunk endpoint (R85): a standing entry by its source NONE does not, a pending
one does (DESIGN CHOICE, log 25). -/
def State.trunkNamed (number : Nat) (receive : Bool) (s : State) : Bool :=
  let names (d : Nat) (e : Entry) : Bool := if receive then e.source = number else d = number && e.source != 0xFFFF
  s.lat.standing.entries.has names
    || s.lat.pending.any (fun f => f.entries.has (fun d e => if receive then e.source = number else d = number))

def trunkRemove (number : Nat) (receive : Bool) (s : State) : Res × State :=
  let i := number - (if receive then 0x600 else 0x500)
  let mapped := if receive then (s.lat.receives.get? i).isSome else (s.lat.sends.get? i).isSome
  if mapped && s.trunkNamed number receive then fail stWrongState s
  else ok (s.onLat (fun l => if receive then { l with receives := l.receives.del i } else { l with sends := l.sends.del i }))

def trunkMap (number link stream rate : Nat) (receive : Bool) (s : State) : Res × State :=
  let i := number - (if receive then 0x600 else 0x500)
  let m : TrunkMap := { link := link, stream := stream, rate := rate }
  let t := if receive then s.lat.receives else s.lat.sends
  if t.get? i = some m then ok s
  else if t.has (fun j x => j != i && x.link = link && x.stream = stream) || s.bundleStream link stream receive 65536 then
    fail stBadParam s
  else if (t.get? i).isSome && s.trunkNamed number receive then fail stWrongState s
  else if !receive && (s.linkCharge link i + (trunkCharge rate).getD 0) * 1000 > (s.link link).trunkLimit then
    fail stTrunkFull s
  else ok (s.onLat (fun l => if receive then { l with receives := l.receives.put i m } else { l with sends := l.sends.put i m }))

def trunkSetBody : Body := fun rq s =>
  let p := rq.payload
  let n := u16 p 0
  let dir := u8 p 2
  let link := u8 p 3
  let rate := u8 p 5
  let good := if dir = 0 then isTrunkDest n else isTrunkSource n
  if p.length != 8 || dir > 1 || !good || !zeroAt p 6 2 then fail stBadParam s
  else if link = 0xFF || (dir = 0 && rate = 0) then trunkRemove n (dir = 1) s
  else if link > 63 || (dir = 0 && (trunkCharge rate).isNone) || (dir = 1 && rate != 0) then fail stBadParam s
  else trunkMap n link (u8 p 4) rate (dir = 1) s

def execTrunkSet (rq : Request) (s : State) : Out := .next (command 0x100A trunkSetBody rq s)

def trunkInfoBody : Body := fun rq s =>
  let p := rq.payload
  let n := u8 p 0
  let l := s.link n
  require (p.length = 4 && n ≤ 63 && zeroAt p 1 3)
    (okWith (leBytes 4 (if l.state = .up then l.trunkLimit / 1000 else 0) ++ leBytes 4 (s.linkCharge n 65536)
      ++ leBytes 2 (s.lat.sends.count (fun _ m => m.link = n)) ++ leBytes 2 (s.lat.receives.count (fun _ m => m.link = n))
      ++ leBytes 4 (s.lat.unmapped.at n 0)) s) s

def execTrunkInfo (rq : Request) (s : State) : Out := .next (command 0x100B trunkInfoBody rq s)

def keepConfigBody : Body := fun rq s =>
  let p := rq.payload
  require (p.length = 4 && u8 p 0 ≤ 1 && zeroAt p 1 3) (ok (s.onKeep (fun k => { k with restore := u8 p 0 = 1 }))) s

def execKeepConfig (rq : Request) (s : State) : Out := .next (command 0x100C keepConfigBody rq s)

/-- The slot and record of the newest valid keep record (R88, R89). -/
def newestRecord (t : Tbl KeepRecord) : Option (Nat × KeepRecord) :=
  t.foldl (fun b e => if e.2.torn then b else
    match b with
    | none => some e
    | some x => if e.2.seq > x.2.seq then some e else some x) none

def keepInfoBody : Body := fun rq s =>
  require rq.payload.isEmpty
    (let r := newestRecord s.keep.records
     let k : KeepRecord := match r with | some e => e.2 | none => {}
     okWith (leBytes 8 k.seq ++ bytes [match r with | some e => e.1 | none => 0xFF, flag s.keep.restore, 0, 0]
       ++ leBytes 4 k.id ++ leBytes 8 k.timeS) s) s

def execKeepInfo (rq : Request) (s : State) : Out := .next (command 0x100D keepInfoBody rq s)

/-! Validity and planes (R60 to R66, R99). -/

/-- What a destination shows: 0 idle, 1 cut, 2 frame; and its reason (R92). -/
structure Shown where
  plane : Nat
  reason : Nat
deriving DecidableEq, Repr

def idleFor (reason : Nat) : Shown := { plane := 0, reason := reason }

/-- A source in window (R65): every member lane measured, with a phase of at most 32 words either way. -/
def State.inWindow (src : Nat) (s : State) : Bool :=
  (s.bondLanes src).all (fun n => (s.lane n).rx.measured && (s.lane n).rx.phase.natAbs ≤ 32)

/-- A source that may return to the cut plane: 16 consecutive frames in the narrower band (R66). -/
def State.mayReturn (src : Nat) (s : State) : Bool :=
  (s.bondLanes src).all (fun n => (s.lane n).rx.measured && (s.lane n).rx.inBand ≥ 16)

/-- The longest frame period of R74, in ns. -/
def longestFrame : Nat := 41708333

/-- A trunk source whose stream arrives on its link: it has begun, and a block has come within the longest frame period (R63;
log 144). -/
def State.trunkLive (i : Nat) (s : State) : Bool :=
  (s.lat.receives.get? i).isSome && s.lat.trunkPresent.contains i && s.now ≤ s.lat.trunkSeen.at i 0 + longestFrame

/-- The reason for which a source gives its destination nothing, or 0 (R60, R61, R63); a unit under a proof test feeds
nothing (R386; log 108). -/
def State.sourceReason (src : Nat) (wait : Bool) (s : State) : Nat :=
  if isSdi src then
    let l := s.lane src
    if l.role != .sdi then 5
    else if s.underTest [1, 2] src then 2
    else if l.rxBond != 0 && l.rxBondFirst != src then 4
    else if !l.rx.locked || (l.rxBond != 0 && !l.rx.bondOk) then 2 else 0
  else if isFlow src then
    let f := s.eth.rx.at (src - 0x100) {}
    if f.cfg.kind = 0 && wait then 7
    else if f.cfg.kind != 0 && f.cfg.kind != 1 then 3
    else if f.cfg.kind = 0 || f.lost || !f.present then 2 else 0
  else if isSheet src then
    if s.underTest [10] (src - 0x500) then 2
    else if (s.imp.sheets.at (src - 0x500) {}).enabled then 0 else if wait then 7 else 2
  else if s.trunkLive (src - 0x600) then 0 else 2

/-- A trunk destination whose source has grown above its rate code (R87). -/
def State.rateExceeded (d : Nat) (e : Entry) (s : State) : Bool :=
  isTrunkDest d && (match s.lat.sends.get? (d - 0x500) with
    | some m => s.sourceMbps e.source > (trunkCharge m.rate).getD 0
    | none => false)

/-- The plane of a valid route (R64 to R66, R99): `fresh` when the entry is new at this switch instant, `onFrame` when the
destination now runs on the frame plane, from which it returns after 16 frames in the narrower band. -/
def State.planeOf (d : Nat) (e : Entry) (fresh onFrame : Bool) (s : State) : Shown :=
  let sampled := if isSdi e.source then (s.lane e.source).rx.sampling422 else true
  let frame (r : Nat) : Shown := if sampled then { plane := 2, reason := r } else idleFor 3
  if mayCut d e then
    let cut := s.inWindow e.source && (fresh || !onFrame || s.mayReturn e.source)
    if cut then { plane := 1, reason := 0 } else frame 1
  else frame 0

/-- What a destination shows at a switch line (R61 to R64). -/
def State.shown (d : Nat) (e : Entry) (fresh : Bool) (s : State) : Shown :=
  let x := s.dest d
  if e.source = 0xFFFF then idleFor 0
  else
    match s.destTakes d x.restoreWait with
    | .idle r => idleFor r
    | t =>
      let r := s.sourceReason e.source x.restoreWait
      if r != 0 then idleFor r
      else if s.rateExceeded d e then idleFor 6
      else
        match t, s.sourceFormat e.source with
        | .format f c, some (g, k) => if f = g && c = k then s.planeOf d e fresh (x.plane = 2) else idleFor 3
        | .format _ _, none => if isSdi e.source then idleFor 3 else s.planeOf d e fresh (x.plane = 2)
        | _, _ => s.planeOf d e fresh (x.plane = 2)

/-- The idle picture of an SDI output (R61, R73): 0 none, 1 black, 2 the last frame repeated. -/
def idlePicture (d : Nat) (e : Entry) : Nat := if !isSdi d then 0 else if e.black then 1 else 2

/-- Whether an SDI driver is enabled by its tx_mode (R115), on a rate class whose settings the lane holds (R107, R109). A bond
member follows the entry of its bond (R60). What OCTANT_FAMILY changed meanwhile under another role is not judged (DESIGN CHOICE,
log 166). -/
def State.driverOn (d : Nat) (e : Entry) (s : State) : Bool :=
  let l := s.lane d
  isSdi d && l.role = .sdi && l.txFormat != 0 && l.txEntry.valid
    && l.txEntry.cls = (formatClass l.txFormat l.txCarriage).getD 0 && (l.txMode = 1 || (l.txMode = 2 && e.source != 0xFFFF))

/-- The safe state as an output sees it: from the fault until it resumes after SAFE_CLEAR (R356, R357). -/
def State.safeAt (d : Nat) (s : State) : Bool := s.faults.safe || (s.dest d).safeHold

/-- An SDI driver at its pin (R19, R30, R115, R117, R333, R356): as tx_mode last set it, but disabled while the device does not
drive its outputs, is not in RUN, has its drivers off in start-up, or is an ACTIVE twin in the safe state. -/
def State.sdiDriver (d : Nat) (s : State) : Bool :=
  (s.dest d).driving && s.drives && s.power.state = .run && !s.boot.driversOff && !(s.safeAt d && s.twin.role = .active)

/-- The picture of an SDI output (R61, R73, R356): 0 live, 1 black, 2 the last frame repeated; black in the safe state. -/
def State.sdiPicture (d : Nat) (s : State) : Nat := if s.safeAt d then 1 else (s.dest d).picture

/-- The plane event of a change at a switch line (R63, R93; log 27). -/
def planeEvent (d : Nat) (e : Entry) (fresh : Bool) (old new : Shown) (phase : Int) (s : State) : State :=
  if e.source = 0xFFFF then s
  else if new.plane = 0 && (old.plane != 0 || (old.reason = 0 && new.reason != 0)) then
    s.raise 5 3 d (leBytes 2 e.source ++ bytes [new.reason])
  else if old.plane = 0 && new.plane != 0 && (!fresh || old.reason != 0) then
    s.raise 5 4 d (leBytes 2 e.source ++ bytes [new.plane])
  else if !fresh && old.plane = 1 && new.plane = 2 then
    s.raise 5 1 d (leBytes 2 e.source ++ bytes [new.reason] ++ leInt 2 phase)
  else if !fresh && old.plane = 2 && new.plane = 1 then s.raise 5 2 d (leBytes 2 e.source)
  else s

/-- Whether a restored route still waits for the flow or sheet at one of its ends (R89). -/
def State.restoreWaits (d : Nat) (e : Entry) (s : State) : Bool :=
  let tx := (s.eth.tx.at (d - 0x100) {}).cfg
  (isFlow d && (tx.kind = 0 || !tx.enable)) || (isFlow e.source && (s.eth.rx.at (e.source - 0x100) {}).cfg.kind = 0)
    || (isSheet e.source && !(s.imp.sheets.at (e.source - 0x500) {}).enabled)

/-- The other transmit lanes of the bond that a lane names (R60, R103). -/
def State.txFellows (d : Nat) (s : State) : List Nat :=
  let l := s.lane d
  if isSdi d && l.txBond != 0 && l.txBondFirst = d then (List.range (l.txBond - 1)).map (fun i => d + 1 + i) else []

/-- What an SDI output sends follows its entry: driver, picture and timing, which on the cut plane is the house position plus 95
words (R69, R73, R115). -/
def State.setOutput (n : Shown) (e : Entry) (off : Int) (d : Nat) (s : State) : State :=
  let on := s.driverOn d e
  s.onDest d (fun x => { x with
    driving := on, appliedOffset := if n.plane = 1 then 95 else off,
    picture := if n.plane = 0 then idlePicture d e else 0, safeHold := false })

/-- A destination judged at its switch line with the entry that is now current (R62 to R64); the members of a bonded output
switch with it (R60), and a member other than the lowest is left to its bond. -/
def State.judge (d : Nat) (fresh : Bool) (s : State) : State :=
  let x := s.dest d
  let e := x.current
  let n := s.shown d e fresh
  let off := match s.destTakes d x.restoreWait with
    | .format f c => offsetWords f c (e.offset + (if isSdi d then (s.lane d).txOffset else 0))
    | _ => 0
  let member := isSdi d && (s.lane d).txBond != 0 && (s.lane d).txBondFirst != d
  let s := if n.plane = 2 then s.ensureStore (e.source, d) else s
  let s := s.onDest d (fun x => { x with
    plane := n.plane, reason := n.reason, reading := x.reading && x.plane = 2 && n.plane = 2,
    anc := if n.plane = 2 then x.anc else [], timecode := if n.plane = 2 then x.timecode else none,
    restoreWait := x.restoreWait && s.restoreWaits d e })
  let s := if member then s else each (d :: s.txFellows d) (State.setOutput n e off) s
  planeEvent d e fresh { plane := x.plane, reason := x.reason } n (s.sourcePhase e.source) s

/-! Lock-up (R75 to R80). -/

/-- The next selectors of the destinations that a forme names (R80 step 1). -/
def State.loadNext (f : Forme) (s : State) : State :=
  each f.entries (fun e s => s.onDest e.1 (fun d => { d with next := some e.2, nextForme := f.id })) s

/-- The horizon of an OPEN forme: moved by P_f, or discarded (R80). -/
def State.moveForme (f : Forme) (t : Nat) (s : State) : State :=
  let t' := t + (framePeriod f.rate).getD 0
  let drop (r : Nat) : State :=
    (((s.dropForme f.id).raise 4 3 f.id (bytes [r])).completeOpt f.handle stTimeout f.completion)
  if t' > f.origT + sec then drop 1
  else if s.spacingBad f.id t' then drop 2
  else (s.onForme f.id (fun f => { f with t := some t', moves := f.moves + 1 })).raise 4 2 f.id (timeBytes t')

def horizon (id : Nat) (s : State) : State :=
  match s.forme id with
  | none => s
  | some f =>
    match f.t with
    | none => s
    | some t =>
      if f.state = .opened then s.moveForme f t
      else if f.state = .closed then
        if f.prepared && f.decision = .none then
          (s.onForme id (fun f => { f with noDecision := true })).raise 4 0x13 id (timeBytes t)
        else (s.onForme id (fun f => { f with state := .shadow })).loadNext f
      else s

def execFormeHorizon (forme at_ : Nat) (s : State) : Out := .next (horizon forme (s.advance at_))

/-- Time T: every named destination armed (R75). -/
def lockupArm (id : Nat) (s : State) : State :=
  match s.forme id with
  | none => s
  | some f =>
    if f.state = .shadow then s.onForme id (fun f => { f with state := .locking, waiting := f.entries.keys })
    else s

def execLockupArm (forme at_ : Nat) (s : State) : Out := .next (lockupArm forme (s.advance at_))

/-- The LOCKING forme whose entry applies to a destination now (R77, R188). -/
def State.lockingFor (d : Nat) (s : State) : Option Forme :=
  s.lat.pending.find? (fun f => f.state = .locking && f.waiting.contains d && (f.t.getD 0) ≤ s.now && f.notBefore ≤ s.now)

/-- The standing entries after a lock-up: its own, over the former ones with merge; a later ROUTE_SET stays (R70, R81). -/
def State.newStanding (f : Forme) (s : State) : Tbl Entry :=
  let base : Tbl Entry := if f.merge then s.lat.standing.entries
    else s.lat.standing.entries.filter (fun e => (s.dest e.1).route.isSome)
  f.entries.foldl (fun t e =>
    let d := s.dest e.1
    t.put e.1 (match d.route with | some r => r.entry | none => d.current)) base

/-- Changes a ROUTE_SET has already made to a forme that now stands (R81, R84): the named destinations whose entry is no
longer the forme's. -/
def State.changedSince (f : Forme) (s : State) : Nat :=
  (f.entries.filter (fun e => (s.dest e.1).route.isSome || (s.dest e.1).current != e.2)).length

/-- The last named destination has switched: the forme stands, and its keep record is due (R75, R80, R188). -/
def State.standForme (f : Forme) (s : State) : State :=
  let entries := s.newStanding f
  let modified := s.changedSince f
  let s := s.onLat (fun l =>
    let standing : Standing := { id := f.id, rate := f.rate, entries := entries, crc := f.crc, t := f.t.getD 0, moves := f.moves, modified := modified }
    { l with standing := standing, pending := l.pending.filter (fun x => x.id != f.id), completing := l.completing ++ [f] })
  let s := if f.late then
      s.raise 4 0x12 f.id (leBytes 2 ((f.lastSwitch - f.t.getD 0) / (framePeriod f.rate).getD 1) ++ timeBytes f.lastSwitch)
    else s
  s.freeStores.keepTouch

/-- One destination switched by a lock-up; the last one ends it (R77, R80). -/
def State.switched (f : Forme) (d : Nat) (s : State) : State :=
  let f' := { f with waiting := f.waiting.erase d, switched := f.switched + 1, lastSwitch := s.now }
  let s := s.onForme f.id (fun _ => f')
  if f'.waiting.isEmpty then s.standForme f' else s

/-- A new current entry; reading begins anew on another source (R67, R69). -/
def Dest.take (e : Entry) (x : Dest) : Dest := { x with current := e, reading := x.reading && x.current.source = e.source }

/-- A destination's switch instant (R77, R81): a lock-up entry first, then a route that is due, which waits for a lock-up entry
that was there before it, then what stands. Stores that nothing takes any longer are freed (R68). -/
def switchInstant (d : Nat) (s : State) : State :=
  let x := s.dest d
  match s.lockingFor d, x.next with
  | some f, some e =>
    let fresh := x.current != e
    ((((s.onDest d (fun x => { x.take e with
        next := none, restoreWait := false,
        route := match x.route with | some r => if r.afterNext then some { r with afterNext := false } else none | none => none
        })).judge d fresh).switched f d).freeStores)
  | _, _ =>
    let cleared := s.lat.pending.any (fun f => f.state = .locking && !f.merge && (f.t.getD 0) ≤ s.now && !(f.entries.keys.contains d))
    match x.route with
    | some r =>
      if r.notBefore ≤ s.now && !(r.afterNext && x.next.isSome) then
        ((s.onDest d (fun x => { x.take r.entry with route := none })).judge d (x.current != r.entry)).freeStores
      else (s.judge d false).freeStores
    | none =>
      let e : Entry := if cleared then {} else if x.next.isSome then x.current else s.standingEntry d
      ((s.onDest d (fun x => x.take e)).judge d (x.current != e)).freeStores

def execSwitchInstant (dest at_ : Nat) (s : State) : Out := .next (switchInstant dest (s.advance at_))

/-! Phase measurement and frame-plane reading (R65 to R67). -/

/-- A frame that starts in a source's store: numbered on from the frames written, the newest three kept (R67). -/
def State.writeFrame (src : Nat) (f : Frame) (s : State) : State :=
  s.onLat (fun l => match l.stores.get? src with
    | none => l
    | some st =>
      { l with stores := l.stores.put src { st with written := st.written + 1, frames :=
          ({ f with seq := st.written } :: st.frames.map (fun f => { f with done := true })).take 3 } })

/-- The ancillary packets of a received frame, up to 64 KiB of them (R111). -/
def ancOf (lane n : Nat) : List AncPacket :=
  ((Config.sdiAnc lane n).foldl (fun (a : List AncPacket × Nat) p =>
    if a.2 + p.length ≤ 65536 then
      (a.1 ++ [{ did := u8 p 0, sdid := u8 p 1, good := bit (u8 p 2) 0, setB := bit (u8 p 2) 1, data := p.drop 3 }], a.2 + p.length)
    else a) ([], 0)).1

/-- The group whose audio control packet a DID names, by rate class (ST 299-1 and ST 299-2; ST 272 for SD; PRESUMED, log 58). -/
def controlGroup (rateClass did : Nat) : Option Nat :=
  if rateClass = 0 then (if 0xEC ≤ did && did ≤ 0xEF then some (0xEF - did) else none)
  else if 0xE0 ≤ did && did ≤ 0xE3 then some (0xE3 - did)
  else if 2 ≤ rateClass && 0xA0 ≤ did && did ≤ 0xA3 then some (0xA7 - did)
  else none

/-- Whether a DID is that of embedded audio or of its control packets (ST 299, ST 272; PRESUMED, log 58). -/
def audioDid (rateClass did : Nat) : Bool :=
  (controlGroup rateClass did).isSome
    || (if rateClass = 0 then 0xF8 ≤ did else (0xE4 ≤ did && did ≤ 0xE7) || (0xA4 ≤ did && did ≤ 0xA7))

/-- The audio control packets of a received frame (R205): a group that declares another rate than 48 kHz, or asynchronous audio, is
counted for its channels, and they are lost with reason UNSUPPORTED. -/
def State.audioControl (lane : Nat) (l : List AncPacket) (s : State) : State :=
  let cls := (s.lane lane).rx.rateClass
  each (l.filter (·.good)) (fun p s =>
    match controlGroup cls p.did with
    | none => s
    | some g =>
      let bad := (p.data.getD 1 0).toNat % 16 != 0
      let base := lane * 32 + (if p.setB then 16 else 0) + 4 * g
      each (List.range 4) (fun i s => s.onAudio (fun a => { a with srcs := a.srcs.upd (base + i) {} (fun x =>
        { x with badGroup := bad, unsupported := if bad then x.unsupported + 1 else x.unsupported }) })) s) s

/-- What an SDI receiver reports of one more frame (R110): the line CRC errors of HD and above, TRS and checksum errors, and the
timecode; none of them comes with a command, so they are free values (log 145). -/
def SdiRx.nextFrame (lane : Nat) (r : SdiRx) : SdiRx :=
  let n := r.frames
  let atc := Config.sdiFrame 2 lane n % 2 = 1
  { r with
    frames := n + 1,
    crcErrors := if r.rateClass = 0 then 0 else r.crcErrors + BitVec.ofNat 32 (Config.sdiFrame 0 lane n),
    trsErrors := r.trsErrors + BitVec.ofNat 16 (Config.sdiFrame 1 lane n),
    ancErrors := r.ancErrors + BitVec.ofNat 16 ((ancOf lane n).filter (fun a => !a.good)).length,
    atcPresent := atc, timecode := if atc then BitVec.ofNat 32 (Config.sdiFrame 3 lane n) else r.timecode }

/-- A frame's phase error measured at an SDI input (R65, R66), with what its receiver reports of the frame (R110); the frame
starts in its store with its ancillary packets and timecode (R67, R111; log 24). -/
def phaseMeasured (lane : Nat) (phase : Int) (s : State) : State :=
  let l := s.lane lane
  let anc := (ancOf lane l.rx.frames).filter (fun a => a.good || !l.ancDropBad)
  let r := l.rx.nextFrame lane
  let seen (r : SdiRx) : SdiRx :=
    { r with phase := phase, measured := true, inBand := if phase.natAbs ≤ 24 then sat 16 (r.inBand + 1) else 0 }
  ((s.onLane lane (fun l => { l with rx := seen r })).audioControl lane (ancOf lane l.rx.frames)).writeFrame lane
    { start := s.now, anc := anc, timecode := if r.atcPresent then some r.timecode.toNat else none }

def execPhaseMeasurement (lane : Nat) (phase : Int) (at_ : Nat) (s : State) : Out :=
  let s := s.advance at_
  .next (if (s.lane lane).rx.locked then phaseMeasured lane phase s else s)

/-- How long before an output frame start a stored frame must have begun (R67, R270). -/
def State.readLead (src : Nat) (s : State) : Nat :=
  12000 + (if isSheet src then 20000 else 0) + (if isFlow src then (s.eth.rx.at (src - 0x100) {}).cfg.skewUs * 1000 else 0)

/-- The ancillary packets that an SDI output sends with a frame from its store (R111): those of the frame that its filter does
not name, without the frame's audio where the audio lattice gives it (R112), and the payload ID of its own format in place of
any other. -/
def State.outputAnc (d : Nat) (f : Frame) (s : State) : List AncPacket :=
  let l := s.lane d
  let lattice := !(s.dest d).current.follow
  if !isSdi d then []
  else f.anc.filter (fun a => !l.filter.contains (a.did, a.sdid) && !(a.did = 0x41 && a.sdid = 0x01)
      && !(lattice && audioDid ((formatClass l.txFormat l.txCarriage).getD 1) a.did))
    ++ [{ did := 0x41, sdid := 0x01, data := leBytes 4 (Config.payloadId l.txFormat l.txCarriage).toNat }]

/-- The timecode that an SDI output sends with a frame from its store, by its tc_mode (R113). -/
def State.outputTimecode (d : Nat) (f : Frame) (s : State) : Option Nat :=
  let l := s.lane d
  if !isSdi d then none
  else if l.tcMode = 0 then f.timecode
  else if l.tcMode = 1 then some (s.timecodeAt (l.txFormat % 16))
  else none

/-- The four-channel groups that an SDI output embeds (R112): with audio_follow LATTICE those with a routed channel, of the channels
that its link carries; with FOLLOW the audio travels with the frame. -/
def State.embedGroups (d : Nat) (s : State) : List Nat :=
  let l := s.lane d
  let groups := if (formatClass l.txFormat l.txCarriage).getD 1 ≤ 1 then 4 else 8
  if !isSdi d || (s.dest d).current.follow then []
  else (List.range groups).filter (fun g => (List.range 4).any (fun c =>
    (s.audio.dests.at (32 * d + 4 * g + c) {}).route.source != 65535))

/-- The 48 kHz samples of one frame (R219): in the 1/1.001 families the five-frame sequences of ST 299, phased from the time base. -/
def frameSamples (rate now : Nat) : Nat :=
  let (n, d) := frameRate rate
  let k := now * n / (d * sec) % 5
  if rate = 4 then (if k % 2 = 0 then 1602 else 1601)
  else if rate = 7 then (if k = 4 then 800 else 801)
  else 48000 * d / n

/-- A frame read for a destination: repeats and every frame skipped are counted once reading has begun (R67). -/
def Dest.read (f : Frame) (now : Nat) (x : Dest) : Dest :=
  { x with
    shown := f.seq, latency := now - f.start, reading := true, picture := 0,
    repeats := if x.reading && f.seq = x.shown then x.repeats + 1 else x.repeats,
    skips := if x.reading then x.skips + BitVec.ofNat 16 (f.seq - x.shown - 1) else x.skips }

/-- The newest frame of a source that an output frame start may read (R67). -/
def State.frameFor (src : Nat) (s : State) : Option Frame :=
  ((s.lat.stores.get? src).getD {}).frames.find? (fun f => f.start + s.readLead src ≤ s.now)

/-- Whether VC0 carries its streams: the device drives its media outputs, outside the safe state and QUIET (R30, R333, R355). -/
def State.vc0Runs (s : State) : Bool := s.drives && !s.faults.safe && s.power.state = .run

/-- A trunk destination sends a frame of its source as VC0 blocks, in the packing of the frame store (R14, R85, R151; log 149). -/
def State.sendTrunk (d : Nat) (f : Frame) (s : State) : State :=
  let src := (s.dest d).current.source
  match if isTrunkDest d && s.vc0Runs then s.lat.sends.get? (d - 0x500) else none with
  | none => s
  | some m =>
    let n := pictureBytes ((s.lat.stores.get? src).getD {}).format
    s.putStream m.link m.stream (s.readPicture src f.seq 0 n) (s.poisonedBytes src f.seq 0 n)

/-- A destination's output frame start on the frame plane: the newest qualifying frame, with skips and repeats counted
(R67), and for an SDI output its ancillary data and timecode (R111, R113); the loss_mode picture where the source is lost
(R73). A folio pause owes one repeat (R411). -/
def outputFrame (d : Nat) (s : State) : State :=
  let s := if isSdi d then s.onDest d (fun x =>
    { x with embed := s.embedGroups d, embedSamples := frameSamples ((s.lane d).txFormat % 16) s.now }) else s
  let x := s.dest d
  if x.skipDue then
    s.onDest d (fun x => { x with skipDue := false, repeats := if x.plane = 2 then x.repeats + 1 else x.repeats })
  else if x.plane != 2 then s
  else if s.sourceReason x.current.source x.restoreWait != 0 then
    s.onDest d (fun x => { x with picture := idlePicture d x.current })
  else
    match s.frameFor x.current.source with
    | none => s
    | some f =>
      (s.onDest d (fun x => { x.read f s.now with anc := s.outputAnc d f, timecode := s.outputTimecode d f })).sendTrunk d f

def execOutputFrameStart (dest at_ : Nat) (s : State) : Out := .next (outputFrame dest (s.advance at_))

/-! Keep records (R88 to R90). -/

/-- The standing forme as a keep record (R88). -/
def State.keepRecord (seq : Nat) (s : State) : KeepRecord :=
  { seq := seq, timeS := s.now / sec, timeNs := s.now % sec, id := s.lat.standing.id,
    modified := s.lat.standing.modified, entries := s.lat.standing.entries,
    sends := s.lat.sends, receives := s.lat.receives }

/-- The next record goes into the slot after the newest valid one, with that record's seq plus 1 (R88). -/
def State.writeKeep (s : State) : State :=
  let (slot, seq) := match newestRecord s.keep.records with
    | some (k, r) => ((k + 1) % 64, r.seq + 1)
    | none => (0, 1)
  (s.onKeep (fun k => { k with records := k.records.put slot (s.keepRecord seq) })).onLat
    (fun l => { l with keepDue := none, keepLast := some s.now })

/-- A lock-up completes once its record is written (R80 step 6, R190). -/
def State.completeLockup (f : Forme) (s : State) : State :=
  let late := f.moves > 0 || f.late
  let s := s.raise 4 1 f.id (leBytes 2 f.moves ++ leBytes 2 f.switched ++ timeBytes f.lastSwitch)
  let s := s.completeOpt f.handle (if late then stLate else stOk) f.completion
  let s := s.reportLockup f (if late then 1 else 0)
  if f.prepared then s.freePushed f.id else s

/-- A gathered keep record written, and the lock-ups that wait for it completed. -/
def keepWrite (s : State) : State :=
  each s.lat.completing State.completeLockup ((s.writeKeep).onLat (fun l => { l with completing := [] }))

def execKeepRecordWrite (at_ : Nat) (s : State) : Out :=
  let s := s.advance at_
  .next (match s.lat.keepDue with
    | some d => if d ≤ s.now && !s.boot.driversOff then keepWrite s else s
    | none => s)

/-- The standing forme reloaded from the newest valid keep record at a wake (R90, R375). -/
def reloadStanding (s : State) : State :=
  match newestRecord s.keep.records with
  | none => s
  | some (_, r) => s.onLat (fun l => { l with
      standing := { l.standing with id := r.id, entries := r.entries, modified := r.modified, crc := entriesCrc r.entries },
      sends := r.sends, receives := r.receives })

/-- The standing forme restored at start-up from the newest valid record (R89), with ROUTES_RESTORED. -/
def restoreFormes (s : State) : State :=
  match newestRecord s.keep.records with
  | none => s
  | some (_, r) =>
    if !s.keep.restore || !s.inField then s
    else
      let waits (d : Nat) (e : Entry) : Bool :=
        e.source != 0xFFFF && (isFlow d || isFlow e.source || isSheet e.source)
      let s := reloadStanding s
      let s := each r.entries (fun e s => s.onDest e.1 (fun d => { d with restoreWait := waits e.1 e.2 })) s
      let w := r.entries.count waits
      s.raise 4 4 r.id (leBytes 8 r.seq ++ leBytes 2 (r.entries.count (fun _ e => e.source != 0xFFFF) - w) ++ leBytes 2 w)

end Sys2Proof.Machine
end

