-- ==== Sys2Proof/Machine/DmaOps.lean ====
section
/-! DEFINITION. Memory behind its addresses (R276 to R298): DRAM with poison, plate table entries, translation, the plate
cache and its walks, and how a background channel moves on, parks and sends remote-DMA messages. -/

namespace Sys2Proof.Machine

/-! Free bytes. -/

/-- `n` free bytes (log 8). -/
def State.freeBytes : Nat → State → List Byte × State
  | 0, s => ([], s)
  | n + 1, s =>
    let (b, s) := s.freeByte
    let (r, s) := s.freeBytes n
    (b :: r, s)

/-! DRAM (R276, R278). -/

/-- The poisoned lines that a range of local offsets touches (R278). -/
def State.poisonIn (off n : Nat) (s : State) : List Nat := s.mem.poison.filter (fun l => l < off + n && off < l + 64)

/-- The stack that holds a local offset: bits [13:12], every 4 KiB the next one (R21, R276). -/
def dramStack (off : Nat) : Nat := off / 4096 % 4

/-- The frame tag of a frame (R290). -/
def Frame.tag (f : Frame) : List Byte := leBytes 8 f.seq ++ timeBytes f.start ++ leBytes 4 (flag f.done) ++ zeros 36 ++ zeros 4

/-- A byte of a frame-store plate: the picture and the tag of the frame whose slot it lies in, as R290 lays them out; none
where no store holds the plate, no frame was started in the slot, or the byte belongs to neither (log 51). -/
def State.frameStoreByte (off : Nat) (s : State) : Option Byte :=
  match s.lat.stores.find? (fun e => e.2.plates.contains (off / plateBytes)) with
  | none => none
  | some (src, st) =>
    let i := st.plates.idxOf (off / plateBytes)
    if st.ppf = 0 then none
    else
      let o := i % st.ppf * plateBytes + off % plateBytes
      match st.frames.find? (fun f => f.seq % 3 = i / st.ppf) with
      | none => none
      | some f =>
        if o + 64 ≥ st.ppf * plateBytes then f.tag[o + 64 - st.ppf * plateBytes]?
        else if o < pictureBytes st.format then some (f.stored src (rasterSize st.format).1 o)
        else none

/-- `n` bytes of the frame-store region; those that nothing was written to are free. -/
def State.frameStoreRead : (off n : Nat) → State → List Byte × State
  | _, 0, s => ([], s)
  | off, n + 1, s =>
    let (b, s) := match s.frameStoreByte off with | some b => (b, s) | none => s.freeByte
    let (r, s) := State.frameStoreRead (off + 1) n s
    (b :: r, s)

/-- Bytes read from local DRAM: frame stores below plate 32,768 (R276, R290). -/
def State.dramRead (off n : Nat) (s : State) : List Byte × State :=
  if off / plateBytes ≥ 32768 then (s.mem.dram.readN off n, s) else s.frameStoreRead off n

/-- Bytes written to local DRAM; a whole line written is no longer poisoned (R278). -/
def State.dramWrite (off : Nat) (data : List Byte) (s : State) : State :=
  s.onMem (fun m => { m with
    dram := m.dram.writeN off data,
    poison := m.poison.filter (fun l => !(off ≤ l && l + 64 ≤ off + data.length)) })

/-! Plate table entries (R281 to R283). -/

def State.plate (s : State) (n : Nat) : Plate := s.mem.plates.at n {}
def State.generation (s : State) (plate : Nat) : Byte := s.mem.generations.at plate s.mem.bootGeneration

/-- Where an access through a VA goes. -/
inductive Target where
  | local_ (off : Nat)
  | remote (node plate : Nat) (generation : Byte) (off : Nat)
  | fault (cause : Nat)
deriving DecidableEq, Repr

/-- Translation of a VA (R281, R282, R295). -/
def State.translate (va : Nat) (write rt : Bool) (s : State) : Target :=
  match s.mem.tables.get? (va / plateBytes) with
  | none => .fault 1
  | some e =>
    if write && !e.writable then .fault 2
    else if rt && !(e.pinned && e.rt) then .fault 3
    else if e.remote then .remote e.node e.plate e.generation (va % plateBytes)
    else if e.plate ≥ 47104 then .fault 9
    else if s.generation e.plate != e.generation then .fault 4
    else .local_ (e.plate * plateBytes + va % plateBytes)

/-- A background lookup of a VA (R285, R286): a hit, or a miss that starts or joins a walk, waits in the queue, or beyond it is
held at the bus matrix. -/
def State.lookup (va : Nat) (s : State) : State :=
  let p := va / plateBytes
  let pinned := match s.mem.tables.get? p with
    | some e => e.pinned
    | none => false
  if pinned then s.onMem (fun m => { m with hits := m.hits + 1 })
  else if s.mem.cache.contains p then s.onMem (fun m => { m with hits := m.hits + 1, cache := p :: m.cache.erase p })
  else
    let s := s.onMem (fun m => { m with misses := m.misses + 1 })
    if s.mem.walks.contains p || s.mem.walkQueue.contains p then s
    else if s.mem.walks.length < 16 then s.onMem (fun m => { m with walks := m.walks ++ [p] })
    else if s.mem.walkQueue.length < 256 then s.onMem (fun m => { m with walkQueue := m.walkQueue ++ [p] })
    else s.onMem (fun m => { m with walkHeld := if m.walkHeld.contains p then m.walkHeld else m.walkHeld ++ [p] })

/-! Background channels (R291 to R296). -/

def State.chan (s : State) (n : Nat) : DmaChan := s.mem.channels.at n {}
def State.onChan (s : State) (n : Nat) (f : DmaChan → DmaChan) : State :=
  s.onMem (fun m => { m with channels := m.channels.upd n {} f })

/-- The descriptor in progress of a channel's current job. -/
def DmaChan.current (c : DmaChan) : Option Descriptor :=
  match c.jobs with
  | [] => none
  | j :: _ => j.descriptors[c.descIndex]?

/-- A fault parks the channel at its progress (R296). -/
def State.dmaPark (ch cause va : Nat) (s : State) : State :=
  if (s.chan ch).state != .running then s
  else
    (s.onChan ch (fun c => { c with state := .parked, cause := cause, faultVa := va })).fault (0x180 + ch) (0x40 + cause) va

/-- The progress of a channel moves on by `n` bytes (R296); past a descriptor's end the next one is in progress. -/
def State.dmaPass (ch n : Nat) (s : State) : State :=
  s.onChan ch (fun c =>
    match c.current with
    | none => c
    | some d =>
      if c.progress + n ≥ d.length then { c with descIndex := c.descIndex + 1, progress := 0 }
      else { c with progress := c.progress + n })

/-- Bytes of a descriptor that have completed: they are counted as moved (R296, R305). -/
def State.dmaAdvance (ch n : Nat) (s : State) : State :=
  (s.onChan ch (fun c =>
    match c.jobs with
    | [] => c
    | j :: r => { c with jobs := { j with moved := j.moved + n } :: r, bytesTotal := c.bytesTotal + BitVec.ofNat 64 n })).dmaPass ch n

/-- Bytes to the next 4 KiB boundary. -/
def toBoundary (a : Nat) : Nat := 4096 - a % 4096

def Target.isRemote : Target → Bool
  | .remote _ _ _ _ => true
  | _ => false

/-- The source and destination targets of a channel's next access; a host side or a pattern has none. -/
def State.dmaTargets (d : Descriptor) (progress : Nat) (s : State) : Option Target × Option Target :=
  (if d.fill || d.srcSpace != 0 then none else some (s.translate (d.src + progress) false false),
   if d.dstSpace != 0 then none else some (s.translate (d.dst + progress) true false))

def remoteTarget : Option Target → Bool
  | some t => t.isRemote
  | none => false

/-- The size of a channel's next burst or remote message (R292). -/
def State.dmaSize (d : Descriptor) (progress : Nat) (s : State) : Nat :=
  let t := s.dmaTargets d progress
  let top := if remoteTarget t.1 || remoteTarget t.2 then 4096 else 512
  let n := min (d.length - progress) (min top (toBoundary (d.dst + progress)))
  if d.fill then n else min n (toBoundary (d.src + progress))

/-- The bytes of a FILL pattern from an offset (R293). -/
def fillBytes (pattern off n : Nat) : List Byte := (List.range n).map (fun i => (leBytes 4 pattern).getD ((off + i) % 4) 0)

/-- A remote-DMA message (R288). -/
def dmaMessage (op result length target originator plate : Nat) (generation : Byte) (off : Nat) (data : List Byte) :
    List Byte :=
  let h := bytes [op, result] ++ leBytes 2 length ++ leBytes 2 target ++ leBytes 2 originator
    ++ leBytes 4 (plate % 2 ^ 21 + generation.toNat * 2 ^ 24) ++ leBytes 4 (off % 2 ^ 21)
  h ++ leBytes 4 (crc32c (h ++ data)) ++ zeros 4 ++ data

/-- A remote request sent for a channel (R288), or LINK_LOST where no usable path exists (R295, R304). A standby sends
none: its channel waits (R304; log 139). -/
def State.dmaSend (ch op node plate : Nat) (generation : Byte) (off n va : Nat) (data : List Byte) (s : State) : State :=
  if s.twin.role = .standby then s
  else match s.ownRoute node 0 with
  | none => s.dmaPark ch 7 va
  | some l =>
    s.openTxn l { txid := 0, vc := 2, content := 1, dmaChannel := some ch,
                  packet := dmaMessage op 0 n node s.node plate generation off data }

/-- Whether a remote message of a channel has no answer yet. -/
def State.dmaWaiting (ch : Nat) (s : State) : Bool :=
  s.vox.links.any (fun e => (e.2.outstanding ++ e.2.waiting).any (fun t => t.dmaChannel = some ch))

/-- The next access of a running channel issued: its lookups, and a remote message where one side is remote (R286, R292).
A burst between local and host sides ends with DMA_BURST_DONE. -/
def State.dmaKick (ch : Nat) (s : State) : State :=
  let c := s.chan ch
  match c.current with
  | none => s
  | some d =>
    if c.state != .running || s.dmaWaiting ch then s
    else
      let p := c.progress
      let t := s.dmaTargets d p
      let n := s.dmaSize d p
      let s := if t.1.isSome then s.lookup (d.src + p) else s
      let s := if t.2.isSome then s.lookup (d.dst + p) else s
      match t with
      | (some (.remote node pl g off), _) => s.dmaSend ch 1 node pl g off n (d.src + p) []
      | (some (.local_ a), some (.remote node pl g off)) =>
        if !(s.poisonIn a n).isEmpty then s.dmaPark ch 6 (d.src + p)
        else
          let (data, s) := s.dramRead a n
          s.dmaSend ch 3 node pl g off n (d.dst + p) data
      | (none, some (.remote node pl g off)) =>
        if d.fill then s.dmaSend ch 3 node pl g off n (d.dst + p) (fillBytes d.src p n) else s
      | _ => s

/-- Data that a burst has read go to their destination (R292, R295): the progress moves on, or the channel parks. -/
def State.dmaStore (ch : Nat) (data : List Byte) (s : State) : State :=
  let c := s.chan ch
  match c.current with
  | none => s
  | some d =>
    let p := c.progress
    if d.dstSpace != 0 then
      let side : PcieSide := if d.dstSpace = 1 then .cpa else .cpb
      let s := if s.drives || s.twin.role != .standby then s.toHost side (d.dst + p) data else s
      (s.dmaAdvance ch data.length).dmaKick ch
    else
      match s.translate (d.dst + p) true false with
      | .fault cause => s.dmaPark ch cause (d.dst + p)
      | .remote node pl g off => s.dmaSend ch 3 node pl g off data.length (d.dst + p) data
      | .local_ a => ((s.dramWrite a data).dmaAdvance ch data.length).dmaKick ch

/-- Whether a channel's next access is held at the bus matrix for want of a place in the walk queue (R286). -/
def State.dmaHeld (d : Descriptor) (progress : Nat) (s : State) : Bool :=
  let t := s.dmaTargets d progress
  (t.1.isSome && s.mem.walkHeld.contains ((d.src + progress) / plateBytes))
    || (t.2.isSome && s.mem.walkHeld.contains ((d.dst + progress) / plateBytes))

/-- A burst of a channel completes (R292): a host side's bytes are the environment's, local ones are DRAM's. -/
def State.dmaBurst (ch : Nat) (data : List Byte) (s : State) : State :=
  let c := s.chan ch
  match c.current with
  | none => s
  | some d =>
    if c.state != .running || s.dmaWaiting ch || s.dmaHeld d c.progress then s
    else
      let p := c.progress
      let n := s.dmaSize d p
      if d.fill then s.dmaStore ch (fillBytes d.src p n)
      else if d.srcSpace != 0 then s.dmaStore ch (data.take n)
      else
        match s.translate (d.src + p) false false with
        | .fault cause => s.dmaPark ch cause (d.src + p)
        | .remote _ _ _ _ => s
        | .local_ a =>
          if !(s.poisonIn a n).isEmpty then s.dmaPark ch 6 (d.src + p)
          else
            let (b, s) := s.dramRead a n
            s.dmaStore ch b

/-- A remote message of a channel ends without an answer (R295): cause 7 LINK_LOST or 8 TIMEOUT. -/
def State.dmaFailed (ch cause : Nat) (s : State) : State :=
  let c := s.chan ch
  match c.current with
  | none => s
  | some d =>
    let src := !d.fill && d.srcSpace = 0 && (s.translate (d.src + c.progress) false false).isRemote
    s.dmaPark ch cause (if src then d.src + c.progress else d.dst + c.progress)

/-- A parked channel goes on from its progress (R296). -/
def State.dmaResume (ch : Nat) (s : State) : State :=
  if (s.chan ch).state != .parked then s else (s.onChan ch (fun c => { c with state := .running })).dmaKick ch

/-- Channels parked with LINK_LOST go on when the device has a usable path to the node again (R296). -/
def State.resumeLost (s : State) : State :=
  each (s.mem.channels.filter (fun e => e.2.state = .parked && e.2.cause = 7)) (fun e s =>
    match s.translate e.2.faultVa false false with
    | .remote node _ _ _ =>
      if (s.ownRoute node 0).isSome then s.dmaResume e.1 else s
    | _ => s) s

end Sys2Proof.Machine
end

