-- ==== Sys2Proof/Machine/HierOps.lean ====
section
/-! DEFINITION. What the hierarchy does when an answer, a lost link or a trained link reaches it (R173 to R198, R343): routes,
joins, replays, the apex's decisions, the folio relay, and the actions on a link's loss and rise. -/

namespace Sys2Proof.Machine

/-! Routes (R174 to R176). -/

/-- A route installed for a node: slot 0 when empty, otherwise slot 1 when the link differs (R174). -/
def State.installRoute (node link : Nat) (s : State) : State :=
  s.onHier (fun h => { h with routes := h.routes.upd node {} (fun r =>
    if r.slot0 = 255 then { r with slot0 := link } else if r.slot0 != link then { r with slot1 := link } else r) })

def RouteSlots.none (r : RouteSlots) : Bool := r.slot0 = 255 && r.slot1 = 255

/-- Nodes with a route, in ascending order (R175). -/
def State.routedNodes (s : State) : List Nat := ((s.hier.routes.filter (fun e => !RouteSlots.none e.2)).map (·.1))

/-- A list cut into pieces of at most `n` (R175). -/
def pieces (n : Nat) : Nat → List Nat → List (List Nat)
  | 0, _ => []
  | _ + 1, [] => []
  | k + 1, l => l.take n :: pieces n k (l.drop n)

/-- ROUTE_UPDATE on a link, at most 1,000 nodes in a packet (R175, R200): op 0 withdraw, 1 announce. -/
def State.sendRouteUpdate (link op : Nat) (nodes : List Nat) (s : State) : State :=
  each (pieces 1000 nodes.length nodes) (fun l s =>
    let (pkt, s) := s.ownPacket 0x3017 0x3FFF (bytes [op, 0] ++ leBytes 2 l.length ++ l.flatMap (leBytes 2))
    s.putPacket link 1 0 2 0 8 pkt) s

/-- Nodes left without a route are withdrawn on the primary parent; at an apex they are unreachable (R176). -/
def State.withdraw (nodes : List Nat) (lastLink : Nat) (s : State) : State :=
  if nodes.isEmpty then s
  else if s.hier.apexRole then each nodes (fun n s => s.raise 12 0x13 n (bytes [lastLink])) s
  else
    match s.parents.head? with
    | some p => s.sendRouteUpdate p 0 nodes
    | none => s

/-- A link cleared from every route slot (R176). -/
def State.clearRoutes (link : Nat) (s : State) : State :=
  let clear (r : RouteSlots) : RouteSlots :=
    { slot0 := if r.slot0 = link then 255 else r.slot0, slot1 := if r.slot1 = link then 255 else r.slot1 }
  let lost := (s.hier.routes.filter (fun e => !RouteSlots.none e.2 && RouteSlots.none (clear e.2))).map (·.1)
  (s.onHier (fun h => { h with routes := h.routes.map (fun _ r => clear r) })).withdraw lost link

/-- The primary and alternate parents brought up to date; a change of the primary raises PARENT_SWITCH and announces,
and a facet without a usable parent is detached (R175, R176). -/
def State.updateParents (s : State) : State :=
  if s.hier.apexRole then s
  else
    let old := s.hier.primary
    let p := s.parents
    let new := p.headD 255
    let s := s.onHier (fun h => { h with primary := new, alternate := (p.drop 1).headD 255 })
    if new = old then s
    else if new = 255 then s.raise 12 0x14 s.node []
    else
      let own := if s.node = 0 then [] else [s.node]
      (s.raise 12 0x15 s.node (bytes [old, new])).sendRouteUpdate new 1 (own ++ s.routedNodes)

/-- Commands that waited for a route and have one now are sent (R183). -/
def State.flushWaiting (s : State) : State :=
  let l := s.hier.waiting
  each l (fun w s =>
    let target := u16 w.packet 8
    match s.ownRoute target w.path with
    | some n => (s.countReplay w.replays).openTxn n { txid := 0, vc := w.vc, packet := w.packet, handle := w.handle,
                                                      replays := w.replays, path := w.path, hops := 8 }
    | none => s.onHier (fun h => { h with waiting := h.waiting ++ [w] })) (s.onHier (fun h => { h with waiting := [] }))

/-- Routes have changed: what waited for one goes on (R183, R296). -/
def State.routesChanged (s : State) : State := s.flushWaiting.resumeLost

/-! Joining (R173). -/

/-- JOIN sent on a parent link (R173). A standby twin sends none. -/
def State.sendJoin (link : Nat) (s : State) : State :=
  if s.hier.apexRole || s.twin.role = .standby || (s.link link).state != .up then s
  else
    let (pkt, s) := s.ownPacket 0x3016 0x3FFF
      (leBytes 8 Config.serial.toNat ++ leBytes 2 s.node ++ bytes [0, 0])
    (s.onHier (fun h => { h with joinPending := (h.joinPending.erase link) ++ [link] })).openTxn link
      { txid := 0, vc := 1, packet := pkt }

/-- A facet's tier: 1 plus the lowest tier among its joined parents (R171). -/
def Hier.lowestTier (h : Hier) : Nat :=
  match h.parentTiers with
  | [] => h.tier
  | e :: r => r.foldl (fun t x => min t x.2) e.2

/-- A parent link that leaves UP is no joined parent (R171). -/
def Hier.parentGone (link : Nat) (h : Hier) : Hier :=
  let h := { h with parentTiers := h.parentTiers.del link }
  { h with tier := h.lowestTier }

/-- The answer to an own JOIN (R173): the planned ID taken and kept, or JOIN_REFUSED; a JOIN without an answer (LINK_LOST,
TIMEOUT) is only sent again (log 138). -/
def State.joinAnswered (link status : Nat) (p : List Byte) (s : State) : State :=
  let s := s.onHier (fun h => { h with joinPending := h.joinPending.erase link })
  if status = stOk then
    let tier := u8 p 2
    let s := s.onKeep (fun k => { k with nodeId := u16 p 0 })
    let s := s.onHier (fun h =>
      let h := { h with joined := true, apexNode := u16 p 4, parentTiers := h.parentTiers.put link tier }
      { h with tier := h.lowestTier })
    (s.raise 12 0x10 s.node (bytes [tier, link] ++ leBytes 2 (u16 p 4))).flushWaiting
  else if status = stLinkLost || status = stTimeout then s
  else s.raise 12 0x12 link (bytes [status] ++ leBytes 8 Config.serial.toNat)

/-- What the apex answers to a JOIN (R173): a status, and the node that the facet takes. -/
def State.joinVerdict (serial node : Nat) (s : State) : Nat × Nat :=
  let held (n : Nat) : Bool := n = s.node || s.hier.joinedSerials.any (fun e => e.1 != serial && e.2 = n)
  match s.keep.plan.find? (fun e => e.1 = serial) with
  | some e => if held e.2 then (stBadParam, 0) else (stOk, e.2)
  | none =>
    if node = 0 then (stWrongState, 0)
    else if node > 0x3FFE || held node then (stBadParam, 0) else (stOk, node)

/-! Decisions of the apex, and what a node does with them (R186 to R189). -/

/-- COMMIT at a node (R188). -/
def State.commitForme (id : Nat) (s : State) : Nat × State :=
  match s.forme id with
  | none => (stWrongState, s)
  | some f =>
    if !f.prepared then (stWrongState, s)
    else if f.decision = .commit then (stOk, s)
    else if f.noDecision then
      (stOk, (s.onForme id (fun f => { f with
        decision := .commit, state := if s.now < f.t.getD 0 then .shadow else .locking, late := true,
        notBefore := s.now + 250000, waiting := f.entries.keys })).loadNext f)
    else (stOk, s.onForme id (fun f => { f with decision := .commit }))

/-- ABORT at a node (R185, R188). -/
def State.abortForme (id : Nat) (s : State) : Nat × State :=
  match s.forme id with
  | none => (stWrongState, s.freePushed id)
  | some f =>
    if !f.prepared || f.state != .closed then (stWrongState, s)
    else (stOk, (s.dropForme id).freePushed id)

/-- The record of a pushed forme as header fields and entries (R70). -/
def parseRecord (b : List Byte) : Tbl Entry :=
  storeEntries [] (records b 16 12 (u16 b 4))

/-- The groups that a forme's entries need (R368, R370): LANES for SDI, flows and trunks, MACS for flows, IMPOSITION for sheets
and page inputs, DRAM where a source is taken from its store. -/
def groupsOf (es : Tbl Entry) : List Nat :=
  let touch (p : Nat → Bool) : Bool := es.any (fun e => e.2.source != 0xFFFF && (p e.1 || p e.2.source))
  (if es.any (fun e => e.2.source != 0xFFFF && (!isPageInput e.1 || !isSheet e.2.source)) then [0] else [])
    ++ (if touch isFlow then [1] else [])
    ++ (if es.any (fun e => e.2.source != 0xFFFF && (isPageInput e.1 || isSheet e.2.source)) then [3] else [])
    ++ (if es.any (fun e => e.2.source != 0xFFFF && !mayCut e.1 e.2) then [4] else [])

/-- The instant at which a group can be in RUN: by its wake delay with those it depends on, or from device DORMANT counted
from the wake event (R372, R374). -/
def State.groupRunAt (g : Nat) (s : State) : Nat :=
  if s.power.state = .dormant then max s.now (s.power.wakeAt + dormantDelay g * 1000)
  else
    let dep := if g = 1 then groupDelay 0 (s.group 0) else if g = 2 || g = 3 then groupDelay 4 (s.group 4) else 0
    s.now + (groupDelay g (s.group g) + dep) * 1000

/-- Whether groups can reach RUN before the commit horizon T - 1 ms (R30). -/
def State.groupsReach (l : List Nat) (t : Nat) (s : State) : Bool := l.all (fun g => s.groupRunAt g + 1000000 ≤ t)

/-- Groups brought to RUN for a forme, with those they depend on (R30, R372). -/
def State.wakeGroups (l : List Nat) (s : State) : State :=
  let all := (l ++ (if l.contains 1 then [0] else []) ++ (if l.contains 3 then [4] else [])).dedup
  if s.power.state = .dormant then s
  else (each all (fun g s => (s.onGroup g (fun q => { q with idleSince := none })).setGroup g .run) s).settleDevice

/-- PREPARE at a node (R186): the answer's status, err_dest and err_reason, and the forme held as pending. -/
def State.prepareForme (id count crc t apex : Nat) (s : State) : Nat × Nat × Nat × State :=
  match s.hier.pushed.get? id with
  | none => (stWrongState, 0xFFFF, 0, s)
  | some r =>
    let b := r.bytes.readN 0 r.size
    let es := parseRecord b
    let rate := u8 b 7
    if !r.complete then (stWrongState, 0xFFFF, 0, s)
    else if id = 0 || u32 b 0 != id || (framePeriod rate).isNone then (stBadParam, 0xFFFF, 0, s)
    else if s.lat.pending.length ≥ 8 then (stResource, 0xFFFF, 0, s)
    else if s.lat.standing.id = id || (s.forme id).isSome then (stBadParam, 0xFFFF, 0, s)
    else if u16 b 4 != count then (stBadParam, 0xFFFF, 1, s)
    else if u32 b 8 != crc then (stBadParam, 0xFFFF, 2, s)
    else
      let (d, e) := s.formeError es count crc
      if e != 0 then (reasonStatus e, d, e, s)
      else if s.lockupTimeError id t != 0 then (s.lockupTimeError id t, 0xFFFF, 0, s)
      else if !s.groupsReach (groupsOf es) t then (stResource, 0xFFFF, 0, s)
      else
        let f : Forme := { id := id, state := .closed, merge := bit (u8 b 6) 0, rate := rate, entries := es, crc := crc,
                           t := some t, origT := t, plates := s.platesAdded es, prepared := true, apex := apex }
        let srcs := s.newStoreSources es
        (stOk, 0xFFFF, 0, (each srcs State.ensureStore (s.onLat (fun l => { l with pending := l.pending ++ [f] }))).wakeGroups (groupsOf es))

/-- A decision sent to a node: twice with one tag, once with each path (R187); executed here for the apex itself. -/
def State.sendDecision (id node tag : Nat) (commit : Bool) (s : State) : State :=
  if node = s.node then
    let (st, s) := if commit then s.commitForme id else s.abortForme id
    s.onSysForme id (fun f => { f with nodes := f.nodes.upd node {} (fun a => { a with decisionAnswer := st }) })
  else
    let again := ((s.hier.sysFormes.get? id).getD {}).replayed
    let pkt := packet (if commit then 0x302A else 0x302B) tag (if again then 16 else 0) 0 node s.selfOriginator 0 (leBytes 4 id)
    (s.originate none 1 0 node 0 pkt).originate none 1 1 node 0 pkt

/-- The apex decides (R187): a node without an answer counts as refused with TIMEOUT. A standby decides nothing (R199). -/
def State.decide (id : Nat) (s : State) : State :=
  match s.hier.sysFormes.get? id with
  | none => s
  | some f =>
    if f.state != 3 || s.twin.role = .standby then s
    else
      let nodes := f.nodes.map (fun _ a => if a.answer = 255 then { a with answer := stTimeout } else a)
      let ready := nodes.count (fun _ a => a.answer = 0)
      let all := ready = nodes.length
      let commit (a : NodeAnswer) : Bool := if f.partialOk then a.answer = 0 else all
      let d := if all then 1 else if f.partialOk && ready > 0 then 3 else 2
      let s := s.onSysForme id (fun f => { f with
                                           state := if d = 2 then 5 else 4, decision := d,
                                           nodes := nodes.map (fun _ a => { a with committed := commit a }) })
      let s := s.raise 4 0x10 id (bytes [d] ++ leBytes 2 ready ++ leBytes 2 (nodes.length - ready))
      (each nodes (fun e s => s.sendDecision id e.1 f.tag (commit e.2)) s).checkRun id

/-- A node's answer to PREPARE at the apex (R187, R191). -/
def State.prepareAnswered (id node status errDest errReason : Nat) (s : State) : State :=
  match s.hier.sysFormes.get? id with
  | none => s
  | some f =>
    match f.nodes.get? node with
    | none => s
    | some a =>
      if f.state != 3 || a.answer != 255 then s
      else
        let a' := { a with answer := status, errDest := errDest, errReason := errReason }
        let s := s.onSysForme id (fun f => { f with nodes := f.nodes.put node a' })
        let s := if status = stOk then s
          else s.raise 4 0x11 node (leBytes 4 id ++ bytes [status] ++ leBytes 2 errDest ++ bytes [errReason])
        match s.hier.sysFormes.get? id with
        | some f => if f.nodes.has (fun _ a => a.answer = 255) then s else s.decide id
        | none => s

/-- A node's answer to a decision recorded (R189). -/
def State.decisionAnswered (id node status : Nat) (s : State) : State :=
  if status = stLinkLost || status = stTimeout then s
  else s.onSysForme id (fun f => { f with nodes := match f.nodes.get? node with
    | some a => f.nodes.put node { a with decisionAnswer := status }
    | none => f.nodes })

/-- Decisions sent again to a node that joins or becomes reachable before T + 1 s without a recorded answer (R189). -/
def State.resendDecisions (node : Nat) (s : State) : State :=
  each s.hier.sysFormes (fun e s =>
    match e.2.nodes.get? node with
    | some a =>
      if e.2.decision != 0 && a.decisionAnswer = 255 && s.now < e.2.t + sec && node != s.node then
        s.originate none 1 0 node 0 (asReplay
          (packet (if a.committed then 0x302A else 0x302B) e.2.tag 0 0 node s.selfOriginator 0 (leBytes 4 e.1)))
      else s
    | none => s) s

/-! Pushing records (R184, R185). -/

/-- SYS_FORME_PUSH completes when every node holds its record or has failed (R185). -/
def State.pushDone (id : Nat) (s : State) : State :=
  match s.hier.sysFormes.get? id with
  | none => s
  | some f =>
    if f.state != 1 || f.nodes.has (fun _ a => a.pushed = 0) then s
    else
      let failed (a : NodeAnswer) : Bool := a.pushed = 2
      let st := if f.nodeCount failed = 0 then stOk
                else if f.nodes.has (fun _ a => a.pushed = 2 && a.pushStatus = stResource) then stResource else stTimeout
      (s.onSysForme id (fun f => { f with state := if f.nodeCount failed = 0 then 2 else 0, pushHandle := none })).completeOpt
        f.pushHandle st (leBytes 2 f.nodes.length ++ leBytes 2 (f.nodeCount (fun a => a.pushed = 1))
          ++ leBytes 2 (f.nodeCount failed) ++ leBytes 2 (f.firstNode failed))

/-- The bytes of a staged record by its own entry count (R70, R184). -/
def NodeAnswer.recordSize (a : NodeAnswer) : Nat := 16 + 12 * u16 (a.record.readN 0 16) 4

/-- One FORME_PUSH segment of a node's record, on VC2 (R185, R200; log 30). -/
def State.pushSegment (id node offset : Nat) (s : State) : State :=
  match s.hier.sysFormes.get? id with
  | none => s
  | some f =>
    match f.nodes.get? node with
    | none => s
    | some a =>
      let n := min 4000 (a.recordSize - offset)
      let (pkt, s) := s.ownPacket 0x3028 node (leBytes 4 id ++ leBytes 4 offset ++ leBytes 2 n
        ++ bytes [flag (offset + n ≥ a.recordSize), 0] ++ a.record.readN offset n)
      s.originate none 2 0 node 0 pkt

/-- The answer to a FORME_PUSH segment: the next segment, or the node's record held or failed (R185). -/
def State.pushAnswered (id node offset n last status : Nat) (s : State) : State :=
  let mark (v st : Nat) : State :=
    (s.onSysForme id (fun f => { f with nodes := match f.nodes.get? node with
      | some a => f.nodes.put node { a with pushed := v, pushStatus := st }
      | none => f.nodes })).pushDone id
  if status != stOk then mark 2 status
  else if last = 1 then mark 1 0
  else s.pushSegment id node (offset + n)

/-! Snapshots of the system (R194). -/

def State.snapAnswered (snap node status : Nat) (s : State) : State :=
  match s.hier.sysSnaps.find? (fun x => x.id = snap && x.waiting.contains node) with
  | none => s
  | some x =>
    let y := { x with waiting := x.waiting.erase node,
                      armed := x.armed + flag (status = stAccepted), late := x.late + flag (status = stLate),
                      unreachable := x.unreachable + flag (status != stAccepted && status != stLate) }
    if y.waiting.isEmpty then
      (s.onHier (fun h => { h with sysSnaps := h.sysSnaps.erase x })).complete y.handle stOk
        (leBytes 2 y.nodes ++ leBytes 2 y.armed ++ leBytes 2 y.late ++ leBytes 2 y.unreachable)
    else s.onHier (fun h => { h with sysSnaps := h.sysSnaps.map (fun z => if z = x then y else z) })

/-! The folio relay (R197, R198). -/

/-- The stored folio of a version whose transport form is still in staging, its content the transport form (R198, R407). -/
def State.storedFolio (version : Nat) (s : State) : Option FolioSlot :=
  let from_ (f : FolioSlot) : Option FolioSlot :=
    if f.state = .valid && f.version = version && s.life.transport != 0 && s.life.stagingVersion = version then
      some { f with content := s.life.staging, length := s.life.transport }
    else none
  match from_ s.life.a with
  | some f => some f
  | none => from_ s.life.b

/-- Whether a link is the twin link, on which the relay's packets carry MIRROR and travel on VC2 (R414). -/
def State.twinRelay (link : Nat) (s : State) : Bool := (s.link link).role = .twin

/-- The transfers to children, without the one to the standby (R198, R414). -/
def State.childTransfers (s : State) : List (Nat × Nat) := s.hier.relay.active.filter (fun a => !s.twinRelay a.1)

/-- A packet of the relay sent on a link (R197, R414). -/
def State.relayPacket (link vc : Nat) (pkt : List Byte) (s : State) : State :=
  let h := parseHeader pkt
  if s.twinRelay link then
    s.openTxn link { txid := 0, vc := 2, packet := rewrite pkt h.tag 8 0 h.target h.originator }
  else s.openTxn link { txid := 0, vc := vc, packet := pkt }

/-- FOLIO_OFFER to a child or to the standby (R197, R414). -/
def State.sendOffer (link : Nat) (s : State) : State :=
  match s.storedFolio s.hier.relay.version with
  | none => s
  | some f =>
    let (pkt, s) := s.ownPacket 0x3040 0 (leBytes 4 f.version ++ leBytes 4 f.length ++ f.digest.take 8)
    let r := s.hier.relay
    let r := { r with active := r.active ++ [(link, 0)], queue := r.queue.erase link }
    (s.onHier (fun h => { h with relay := r })).relayPacket link 1 pkt

/-- A joined child link: a node has a route on it (R174, R198). -/
def State.childJoined (n : Nat) (s : State) : Bool :=
  (s.link n).state = .up && s.hier.routes.has (fun _ r => r.slot0 = n || r.slot1 = n)

/-- Further children are offered the folio while fewer than relay_fanout transfers run; the last one done raises
RELAY_DONE (R198). -/
def State.relayNext : Nat → State → State
  | 0, s => s
  | n + 1, s =>
    let r := s.hier.relay
    if s.childTransfers.length < s.hier.relayFanout then
      match r.queue.find? (fun l => s.childJoined l) with
      | some l => State.relayNext n (s.sendOffer l)
      | none => s
    else s

/-- A child done or failed (R198). -/
def State.relayEnd (link : Nat) (good : Bool) (s : State) : State :=
  if !s.hier.relay.active.any (fun a => a.1 = link) then s
  else if s.twinRelay link then
    s.onHier (fun h => { h with relay := { h.relay with active := h.relay.active.filter (fun a => a.1 != link) } })
  else
    let s := s.onHier (fun h => { h with
      relay := { h.relay with
      active := h.relay.active.filter (fun a => a.1 != link),
      done := h.relay.done + flag good, failed := h.relay.failed + flag (!good) } })
    let r := s.hier.relay
    if s.childTransfers.isEmpty && r.queue.isEmpty then s.raise 12 0x16 r.version (bytes [r.done, r.failed])
    else s.relayNext s.hier.relayFanout

/-- One FOLIO_SEGMENT to a child, or FOLIO_END after the last (R197). -/
def State.relaySegment (link offset : Nat) (s : State) : State :=
  match s.storedFolio s.hier.relay.version with
  | none => s
  | some f =>
    if offset ≥ f.length then
      let (pkt, s) := s.ownPacket 0x3042 0 (leBytes 4 f.version)
      s.relayPacket link 1 pkt
    else
      let n := min 4000 (f.length - offset)
      let (pkt, s) := s.ownPacket 0x3041 0 (leBytes 4 f.version ++ leBytes 4 offset ++ leBytes 2 n ++ zeros 2
        ++ f.content.readN offset n)
      let r := s.hier.relay
      let r := { r with bytesSent := if s.twinRelay link then r.bytesSent else r.bytesSent + n,
                        active := r.active.map (fun a => if a.1 = link then (link, offset + n) else a) }
      (s.onHier (fun h => { h with relay := r })).relayPacket link 2 pkt

/-- A transfer cut off with its link: the child is offered the folio again once it has joined (R197); the standby's is not
(R414). -/
def State.relayCut (link : Nat) (s : State) : State :=
  if !s.hier.relay.active.any (fun a => a.1 = link) then s
  else s.onHier (fun h => { h with relay := { h.relay with
    active := h.relay.active.filter (fun a => a.1 != link),
    queue := if s.twinRelay link then h.relay.queue else h.relay.queue ++ [link] } })

/-- The answers of a child to the relay's packets (R197; log 32). -/
def State.relayAnswered (op link status : Nat) (p : List Byte) (s : State) : State :=
  if status = stLinkLost then s.relayCut link
  else if op = 0x3040 then
    if status != stOk then s.relayEnd link false
    else if u8 p 0 = 0 || u8 p 0 = 2 then s.relayEnd link true
    else if u8 p 0 = 1 then s.relaySegment link (u32 p 4)
    else s.relayEnd link false
  else if op = 0x3041 then
    if status != stOk then s.relayEnd link false
    else match s.hier.relay.active.find? (fun a => a.1 = link) with
      | some a => s.relaySegment link a.2
      | none => s
  else if status = stAccepted then s else s.relayEnd link (status = stOk)

/-! Answers to what this device sent (R180 to R183). -/

/-- A PROOF_RUN that this device forwarded to its standby ends here (R386, R393). -/
def State.forwardDone (tag status : Nat) (payload : List Byte) (s : State) : State :=
  match s.proof.forwarded.find? (fun e => e.1 = tag) with
  | none => s
  | some e => (s.onProof (fun p => { p with forwarded := p.forwarded.erase e })).complete e.2 status payload

/-- An answer delivered to the function that sent a packet. -/
def State.functionAnswer (link : Nat) (pkt : List Byte) (status : Nat) (p : List Byte) (s : State) : State :=
  let h := parseHeader pkt
  let q := payloadOf pkt
  if h.opcode = 0x3040 || h.opcode = 0x3041 || h.opcode = 0x3042 then s.relayAnswered h.opcode link status p
  else if bit h.flags 3 && h.opcode = 0xD001 then if status ≤ 1 then s else s.forwardDone h.tag status []
  else if bit h.flags 3 then s.mirrorStatus h.opcode h.tag status
  else if h.opcode = 0x3016 then s.joinAnswered link status p
  else if h.opcode = 0x3028 then s.pushAnswered (u32 q 0) h.target (u32 q 4) (u16 q 8) (u8 q 10) status
  else if h.opcode = 0x3029 then
    -- a PREPARE lost on its way has no answer of the node (R187)
    if status = stLinkLost || status = stTimeout then s else s.prepareAnswered (u32 q 0) h.target status (u16 p 0) (u8 p 2)
  else if h.opcode = 0x302A || h.opcode = 0x302B then s.decisionAnswered (u32 q 0) h.target status
  else if h.opcode = 0x3030 then s.snapAnswered (u32 q 0) h.target status
  else s

/-- An answer delivered to the port or function that issued a command (R183). -/
def State.ownAnswer (link : Nat) (t : Transaction) (answer : List Byte) (s : State) : State :=
  let status := (parseHeader answer).status
  let p := payloadOf answer
  let s := if status = stDuplicate then s.onHier (fun h => { h with duplicates := h.duplicates + 1 }) else s
  match t.handle with
  | some h => s.portReply h t.replays answer
  | none =>
    let st := if status = stDuplicate && t.replays > 0 then u8 p 0 else status
    s.functionAnswer link t.packet st p

/-- A command whose link was lost: replayed at most twice over the routes then in force, a JOIN on its own parent link, else
LINK_LOST (R183). A packet for the device at the far end is not replayed, nor is a mirrored one. -/
def State.ownLost (link : Nat) (t : Transaction) (answer : List Byte) (s : State) : State :=
  let h := parseHeader t.packet
  if h.opcode = 0x3016 && t.replays < 2 && s.usableParent link then
    (s.countReplay 1).openTxn link { t with replays := t.replays + 1, packet := asReplay t.packet }
  else if t.replays < 2 && h.target != 0 && h.opcode != 0x3016 && !bit h.flags 3 then
    s.originate t.handle t.vc t.path h.target (t.replays + 1) (asReplay t.packet)
  else s.ownAnswer link t answer

/-- A transaction that ends without a RESPONSE (R181, R182). A remote-DMA message has no answer that says so: its sender's
channel parks, and a forwarder sends nothing (R295; log 52). -/
def State.txnFailed (link : Nat) (t : Transaction) (status : Nat) (s : State) : State :=
  match t.inLink, t.dmaChannel with
  | _, some ch => s.dmaFailed ch (if status = stLinkLost then 7 else 8)
  | some m, none => if t.content = 1 then s else s.putPacket m t.vc t.inTxid 1 0 8 (s.replyTo t.packet status)
  | none, none => 
    let answer := s.replyTo t.packet status
    if status = stLinkLost then s.ownLost link t answer else s.ownAnswer link t answer

/-! A link leaves UP, or reaches it. -/

/-- The pair becomes unmirrored when the twin link leaves UP (R343). -/
def State.twinLinkLost (link cause : Nat) (s : State) : State :=
  if s.twin.pairState = 4 || s.twin.pairState = 0 then s
  else if s.twin.role = .solo then
    (s.onTwin (fun t => { t with pairState := 0, pairHandle := none })).completeOpt s.twin.pairHandle stLinkLost (zeros 12)
  else
    let h := s.twin.pairHandle
    let s := (s.onTwin (fun t => { t with
      mirrored := false, settled := false, pairState := 4, pairHandle := none,
      fitLost := t.fitLost || t.role = .standby })).raise 8 5 link (bytes [cause])
    (s.onPorts (fun p => { p with mirrorPending := [] })).completeOpt h stLinkLost (leBytes 8 s.twin.copiedBytes ++ zeros 4)

/-- The link-down actions (R165), with routes withdrawn before the LINK_LOST responses (R182). The caller has taken the
link out of UP. -/
def State.linkDownActions (n cause : Nat) (s : State) : State :=
  let l := s.link n
  let open_ := l.outstanding ++ l.waiting
  let fresh (c : VcCredit) : VcCredit := { offered := c.offered }
  let s := s.onLink n (fun l => { l with
    outstanding := [], waiting := [], queue0 := [], queue1 := [], queue2 := [], queue3 := [],
    partial0 := [], trunkAt := [], partial1 := none, partial2 := none, vc1 := fresh l.vc1, vc2 := fresh l.vc2, vc3 := fresh l.vc3,
    held0 := 0, held1 := 0, held2 := 0 })
  let s := s.onLat (fun q => { q with trunkPresent := q.trunkPresent.filter (fun i =>
    match q.receives.get? i with | some m => m.link != n | none => true) })
  let s := s.raise 12 2 n (bytes [cause])
  let s := s.fault (0x200 + n) 0x60 cause
  -- routes to a DORMANT child stay, so that traffic for it wakes it (R30)
  let s := if l.role = .child && cause != 9 then s.clearRoutes n else s
  let s := if l.role = .parent then (s.onHier (Hier.parentGone n)).updateParents else s
  let s := each open_ (fun t s => s.txnFailed n t stLinkLost) s
  let s := s.relayCut n
  if l.role = .twin then
    (each s.proof.forwarded (fun e s => s.forwardDone e.1 stLinkLost []) s).twinLinkLost n cause
  else s

/-- The trunks that a link sends: in ascending stream number while their charges stay within 90 % of its payload; the others
idle with TRUNK_RATE (R166). Audio bundles of the link are charged against the same limit and stay (R222; log 152). -/
def State.rateFallback (n : Nat) (s : State) : State :=
  let l := s.link n
  let maps := (s.lat.sends.filter (fun e => e.2.link = n)).mergeSort (fun a b => a.2.stream ≤ b.2.stream)
  let bundles := 1000 * ((s.audio.sends.filter (fun e => e.2.link = n)).foldl (fun t e => t + bundleMbps e.2.channels e.2.rate96) 0)
  let limit := l.trunkLimit - bundles
  let charge (e : Nat × TrunkMap) : Nat := (trunkCharge e.2.rate).getD 0 * 1000
  let total := maps.foldl (fun t e => t + charge e) bundles
  let idle := (maps.foldl (fun (a : Nat × Bool × List Nat) e =>
    if !a.2.1 && a.1 + charge e ≤ limit then (a.1 + charge e, false, a.2.2) else (a.1, true, a.2.2 ++ [e.1]))
    (0, false, [])).2.2
  let s := each maps (fun e s => s.onDest (0x500 + e.1) (fun d => { d with rateIdle := idle.contains e.1 })) s
  let s := s.onLink n (fun l => { l with idleTrunks := idle.length })
  if total > l.payload && !idle.isEmpty then
    s.raise 12 3 n (bytes [l.rateClass, l.failMask] ++ leBytes 2 idle.length)
  else s

/-- A link reaches UP (R158): credits from the peer's offer, txids from 0, LINK_TRAINED; then JOIN, relay offers or the
resumed pairing, as its role asks. -/
def State.linkTrained (n : Nat) (s : State) : State :=
  let p := (s.link n).peer
  let s := s.onLink n (fun l => { l with
    state := .up, cause := 0, nextTxid1 := 0, nextTxid2 := 0, lastUpS := s.now / sec % 2 ^ 32,
    countedAt := s.now, vc1 := { offered := p.credit1 }, vc2 := { offered := p.credit2 }, vc3 := { offered := p.credit3 }, seqSync := 0, seqReq := 0 })
  let l := s.link n
  let s := s.raise 12 1 n (bytes [l.rateClass, widthLanes l.width] ++ leBytes 2 p.node)
  let s := s.rateFallback n
  let s := if l.role = .parent || l.role = .child then s.onHier (fun h => { h with roleFixed := true }) else s
  let s := s.openHeld n
  if l.role = .parent then s.updateParents.sendJoin n
  else if l.role = .child then s.relayNext s.hier.relayFanout
  else if l.role = .twin && s.twin.pairState = 4 then s.onTwin (fun t => { t with pairState := 1 })
  else s

end Sys2Proof.Machine
end

