-- ==== Sys2Proof/Machine/HierCmds.lean ====
section
/-! DEFINITION. The hierarchy's commands (R170 to R191, R194, R200): node IDs and roles, joins and routes, system formes at
the apex and at a node, and system snapshots. The folio relay and the migration of processes are in Folio and Chord. -/

namespace Sys2Proof.Machine

def nodeConfigBody : Body := fun rq s =>
  let p := rq.payload
  if p.length != 4 || u16 p 0 > 0x3FFE || !zeroAt p 2 2 then fail stBadParam s
  else if (s.hier.joined && !s.hier.apexRole) || (s.hier.apexRole && !s.hier.joinedSerials.isEmpty) then fail stWrongState s
  else ok (s.onKeep (fun k => { k with nodeId := u16 p 0 }))

def execNodeConfig (rq : Request) (s : State) : Out := .next (command 0x3010 nodeConfigBody rq s)

def roleSetBody : Body := fun rq s =>
  let p := rq.payload
  if p.length != 4 || u8 p 0 > 1 || !zeroAt p 1 3 then fail stBadParam s
  else if s.hier.roleFixed then fail stWrongState s
  else ok (s.onHier (fun h => { h with apexRole := u8 p 0 = 1, tier := 0 }))

def execRoleSet (rq : Request) (s : State) : Out := .next (command 0x3011 roleSetBody rq s)

def hierConfigBody : Body := fun rq s =>
  let p := rq.payload
  let inRange (v lo hi : Nat) : Bool := lo ≤ v && v ≤ hi
  if p.length != 8 || !inRange (u16 p 0) 1 1000 || !inRange (u16 p 2) 100 10000 || !inRange (u8 p 4) 1 8 || !zeroAt p 5 3 then
    fail stBadParam s
  else ok (s.onHier (fun h => { h with timeoutMs := u16 p 0, commitMarginUs := u16 p 2, relayFanout := u8 p 4 }))

def execHierConfig (rq : Request) (s : State) : Out := .next (command 0x3012 hierConfigBody rq s)

/-- The HIER_STATUS reply (R200). -/
def State.hierStatus (s : State) : List Byte :=
  let h := s.hier
  let apex := if h.apexRole then s.node else if h.joined then h.apexNode else 0
  leBytes 2 s.node ++ leBytes 2 apex
    ++ bytes [flag h.apexRole + 2 * h.tier + 8 * flag h.joined + 16 * flag s.detached, h.primary, h.alternate, 0]
    ++ leBytes 2 (s.vox.links.count (fun _ l => l.role = .child && l.state = .up))
    ++ leBytes 2 s.routedNodes.length
    ++ leBytes 2 (s.vox.links.foldl (fun n e => n + e.2.outstanding.length) 0) ++ zeros 2
    ++ leBytes 4 h.replays.toNat ++ leBytes 4 h.duplicates.toNat ++ leBytes 4 h.timeouts.toNat ++ leBytes 4 h.hopDrops.toNat

def hierStatusBody : Body := fun rq s =>
  if rq.payload.length != 0 then fail stBadParam s else okWith s.hierStatus s

def execHierStatus (rq : Request) (s : State) : Out := .next (command 0x3013 hierStatusBody rq s)

def routeReadBody : Body := fun rq s =>
  let p := rq.payload
  let n := u16 p 2
  if p.length != 4 || n = 0 || n > 2000 || u16 p 0 + n > 16384 then fail stBadParam s
  else okWith (leBytes 2 n ++ zeros 2 ++ (List.range n).flatMap (fun i =>
    let r := s.hier.routes.at (u16 p 0 + i) {}
    bytes [r.slot0, r.slot1])) s

def execRouteRead (rq : Request) (s : State) : Out := .next (command 0x3014 routeReadBody rq s)

/-- One entry of NODE_PLAN_WRITE applied: serial, node, flags (R173, R200). -/
def planEntry (plan : List (Nat × Nat)) (p : List Byte) : List (Nat × Nat) :=
  let rest := plan.filter (fun e => e.1 != u64 p 0)
  if bit (u16 p 10) 0 then rest else rest ++ [(u64 p 0, u16 p 8)]

def nodePlanWriteBody : Body := fun rq s =>
  let p := rq.payload
  let n := u16 p 0
  let rs := records p 4 12 n
  let plan := rs.foldl planEntry s.keep.plan
  if p.length < 4 || n = 0 || n > 340 || p.length != 4 + 12 * n || !zeroAt p 2 2
      || !rs.all (fun r => u16 r 10 < 2 && (u16 r 10 = 1 || (1 ≤ u16 r 8 && u16 r 8 ≤ 0x3FFE))) then fail stBadParam s
  else if !s.hier.apexRole then fail stWrongState s
  else if plan.length > 16382 then fail stResource s
  else ok (s.onKeep (fun k => { k with plan := plan }))

def execNodePlanWrite (rq : Request) (s : State) : Out := .next (command 0x3015 nodePlanWriteBody rq s)

/-! Joining (R173) and routes (R174 to R176). -/

/-- JOIN at the apex (R173): the plan decides, the route is installed and the join recorded. -/
def joinBody : Body := fun rq s =>
  let p := rq.payload
  let serial := u64 p 0
  if p.length != 12 || !zeroAt p 11 1 then fail stBadParam s
  else
    let (st, node) := s.joinVerdict serial (u16 p 8)
    if st != stOk then fail st s
    else
      let s := s.onHier (fun h => { h with
        joinedSerials := h.joinedSerials.filter (fun e => e.1 != serial) ++ [(serial, node)] })
      let s := match rq.port with
        | .link n => s.installRoute node n
        | _ => s
      let s := ((s.raise 12 0x11 node (leBytes 8 serial)).resendDecisions node).routesChanged
      okWith (leBytes 2 node ++ bytes [u8 p 10 + 1, 0] ++ leBytes 2 s.node ++ zeros 2) (s.relayNext s.hier.relayFanout)

/-- A JOIN as a facet passes it on: the first parent writes its tier into it (R173; log 29). -/
def State.joinTier (rq : Request) (s : State) : Request :=
  if s.hier.apexRole || u8 rq.payload 10 != 0 then rq
  else { rq with payload := rq.payload.take 10 ++ bytes [s.hier.tier] ++ rq.payload.drop 11 }

/-- Whether this device refuses a JOIN that it would forward: its tier is 3 (R171, R173). -/
def State.joinRefused (rq : Request) (s : State) : Bool :=
  !s.hier.apexRole && s.hier.tier = 3 && verdict 0x3016 rq s = .forward

def execJoin (rq : Request) (s : State) : Out :=
  .next (if s.serving rq.port && s.joinRefused rq then
    (s.count rq.port (fun c => { c with received := c.received + 1 })).refuse 0x3016 rq stResource []
  else command 0x3016 joinBody (s.joinTier rq) s)

/-- A refused or detached facet sends JOIN again (R173). -/
def execJoinRetry (link at_ : Nat) (s : State) : Out :=
  let s := s.advance at_
  .next (if s.usableParent link && !s.hier.joinPending.contains link then s.sendJoin link else s)

/-- The nodes of a ROUTE_UPDATE payload (R200). -/
def updateNodes (p : List Byte) : List Nat := (records p 4 2 (u16 p 2)).map (fun r => u16 r 0)

/-- A ROUTE_UPDATE from a child link (R175, R176): routes installed or cleared, and passed upward. -/
def State.routeUpdated (link : Nat) (p : List Byte) (s : State) : State :=
  let nodes := updateNodes p
  if p.length < 4 || u8 p 0 > 1 || !zeroAt p 1 1 || nodes.isEmpty || nodes.length > 1000 || p.length != 4 + 2 * nodes.length
      || !nodes.all (fun n => 1 ≤ n && n ≤ 0x3FFE) || (s.link link).role != .child then s
  else if u8 p 0 = 1 then
    let s := (each nodes (fun n s => s.installRoute n link) s).relayNext s.hier.relayFanout
    if s.hier.apexRole then each nodes State.resendDecisions s
    else
      match s.parents.head? with
      | some q => s.sendRouteUpdate q 1 nodes
      | none => s
  else
    let clear (r : RouteSlots) : RouteSlots :=
      { slot0 := if r.slot0 = link then 255 else r.slot0, slot1 := if r.slot1 = link then 255 else r.slot1 }
    let lost := nodes.filter (fun n =>
      let r := s.hier.routes.at n {}
      !RouteSlots.none r && RouteSlots.none (clear r))
    let s := each nodes (fun n s => s.onHier (fun h => { h with routes := h.routes.upd n {} clear })) s
    s.withdraw lost link

def execRouteUpdate (rq : Request) (s : State) : Out :=
  .next (match rq.port with
    | .link n => if s.serving rq.port then s.routeUpdated n rq.payload else s
    | _ => s)

/-! Transactions that end without an answer (R181, R183). -/

/-- The nanoseconds after which a transaction times out: timeout_ms, and 1 ms more at a forwarding device (R181). -/
def State.timeoutOf (t : Transaction) (s : State) : Nat := (s.hier.timeoutMs + flag t.inLink.isSome) * 1000000

/-- A transaction that has waited its timeout ends with TIMEOUT (R181); before that nothing happens. -/
def execTransactionTimeout (link vc txid at_ : Nat) (s : State) : Out :=
  let s := (s.advance at_).countLink link
  .next (match s.findTxn link vc txid with
    | none => s
    | some t =>
      if (s.link link).counted vc < t.start + s.timeoutOf t then s
      else ((s.onHier (fun h => { h with timeouts := h.timeouts + 1 })).closeTxn link t).txnFailed link t stTimeout)

/-- A command that waited timeout_ms for a route ends with LINK_LOST (R183). -/
def execRouteWaitTimeout (tag originator at_ : Nat) (s : State) : Out :=
  let s := s.advance at_
  .next (match s.hier.waiting.find? (fun w =>
      (parseHeader w.packet).tag = tag && (parseHeader w.packet).originator = originator && w.until_ ≤ s.now) with
    | none => s
    | some w =>
      let s := s.onHier (fun h => { h with waiting := h.waiting.erase w })
      match w.handle with
      | some h => s.portReply h w.replays (s.replyTo w.packet stLinkLost)
      | none => s.functionAnswer 255 w.packet stLinkLost [])

/-! System formes at the apex (R184 to R191). -/

/-- The bytes of a forme record of the largest size (R70, R71). -/
def recordMax : Nat := 16 + 12 * 2048

/-- A system forme whose slot may be used again: aborted or done (log 45), its decision kept until T + 1 s (R189). -/
def SysForme.over (now : Nat) (f : SysForme) : Bool :=
  (f.state = 5 || f.state = 6) && (f.decision = 0 || f.t = 0 || f.t + sec ≤ now)

def sysFormeStageBody : Body := fun rq s =>
  let p := rq.payload
  let id := u32 p 0
  let node := u16 p 4
  let n := u16 p 12
  if p.length < 16 || id = 0 || node = 0 || node > 0x3FFE || n = 0 || n > 4000 || p.length != 16 + n || !zeroAt p 6 2
      || !zeroAt p 14 2 || u32 p 8 + n > recordMax then fail stBadParam s
  else if !s.hier.apexRole then fail stWrongState s
  else
    let put (f : SysForme) : SysForme :=
      let a := f.nodes.at node {}
      let a' : NodeAnswer := { record := a.record.writeN (u32 p 8) (p.drop 16), size := max a.size (u32 p 8 + n) }
      { f with state := 0, nodes := f.nodes.put node a' }
    match s.hier.sysFormes.get? id with
    | some f =>
      if f.over s.now then ok (s.onHier (fun h => { h with sysFormes := h.sysFormes.put id (put {}) }))
      else if f.state != 0 && f.state != 2 then fail stWrongState s
      else if (f.nodes.get? node).isNone && f.nodes.length ≥ 16382 then fail stResource s
      else ok (s.onHier (fun h => { h with sysFormes := h.sysFormes.put id (put f) }))
    | none =>
      let live := if s.hier.sysFormes.length < 4 then s.hier.sysFormes
        else match s.hier.sysFormes.find? (fun e => e.2.over s.now) with
          | some e => Tbl.del s.hier.sysFormes e.1
          | none => s.hier.sysFormes
      if live.length ≥ 4 then fail stResource s
      else ok (s.onHier (fun h => { h with sysFormes := Tbl.put live id (put {}) }))

def execSysFormeStage (rq : Request) (s : State) : Out := .next (command 0x3020 sysFormeStageBody rq s)

/-- A staged record that may be pushed: its ID, rate code, length and content_crc (R184). -/
def recordOk (id rate : Nat) (a : NodeAnswer) : Bool :=
  let b := a.record.readN 0 a.recordSize
  16 ≤ a.size && a.recordSize ≤ a.size && u32 b 0 = id && u8 b 7 = rate && (framePeriod rate).isSome
    && crc32c (b.drop 16) = u32 b 8

/-- A record that the apex holds for its own node (R185). -/
def State.pushOwn (id : Nat) (a : NodeAnswer) (s : State) : Nat × State :=
  if (s.hier.pushed.get? id).isNone && s.hier.pushed.length ≥ 8 then (stResource, s)
  else (stOk, s.onHier (fun h => { h with
    pushed := h.pushed.put id { bytes := a.record, size := a.recordSize, complete := true } }))

/-- SYS_FORME_PUSH (R185). A standby apex pushes nothing: it takes the active's push as done (R199; log 151). -/
def sysFormePushBody : Body := fun rq s =>
  let p := rq.payload
  let id := u32 p 0
  if p.length != 4 then fail stBadParam s
  else if !s.hier.apexRole then fail stWrongState s
  else
    match s.hier.sysFormes.get? id with
    | none => fail stBadParam s
    | some f =>
      let rate := match f.nodes with
        | [] => 0
        | e :: _ => (Memory.read e.2.record 7).toNat
      if f.state != 0 && f.state != 2 then fail stWrongState s
      else if !f.nodes.all (fun e => recordOk id rate e.2) then fail stBadParam s
      else
        let standby : Bool := s.twin.role = .standby
        let s := s.onSysForme id (fun f => { f with
          state := 1, rate := rate, pushHandle := if standby then none else some (handleOf 0x3021 rq),
          nodes := f.nodes.map (fun _ a => { a with pushed := flag standby, pushStatus := 0 }) })
        let s := each f.nodes (fun e s =>
          if e.1 = s.node then
            let (st, s) := s.pushOwn id e.2
            s.onSysForme id (fun f => { f with nodes := f.nodes.upd e.1 {} (fun a =>
              { a with pushed := if st = stOk then 1 else 2, pushStatus := st }) })
          else s.pushSegment id e.1 0) s
        accepted (s.pushDone id)

def execSysFormePush (rq : Request) (s : State) : Out := .next (command 0x3021 sysFormePushBody rq s)

def execSysFormePushDone (sysId : Nat) (s : State) : Out := .next (s.pushDone sysId)

/-- PREPARE sent to one node with the run's tag, or answered here for the apex's own record (R186, R187, R199). -/
def State.sendPrepare (id t tag node : Nat) (a : NodeAnswer) (s : State) : State :=
  let b := a.record.readN 0 16
  if node = s.node then
    let (st, d, r, s) := s.prepareForme id (u16 b 4) (u32 b 8) t s.node
    s.prepareAnswered id node st d r
  else
    let pkt := packet 0x3029 tag 0 0 node s.selfOriginator 0 (leBytes 4 id ++ leBytes 2 (u16 b 4) ++ zeros 2 ++ leBytes 4 (u32 b 8)
      ++ zeros 4 ++ timeBytes t ++ zeros 4)
    (s.onSysForme id (fun f => { f with nodes := f.nodes.upd node {} (fun a => { a with prepare := pkt }) })).originate none 1 0
      node 0 pkt

def sysFormeRunBody : Body := fun rq s =>
  let p := rq.payload
  let id := u32 p 0
  let t := timeAt p 8 16
  if p.length != 24 || u8 p 4 > 1 || !zeroAt p 5 3 || !nsOk p 16 || !zeroAt p 20 4 then fail stBadParam s
  else if !s.hier.apexRole then fail stWrongState s
  else
    match s.hier.sysFormes.get? id with
    | none => fail stWrongState s
    | some f =>
      if f.state != 2 then fail stWrongState s
      else if t < s.now + 2 * (framePeriod f.rate).getD 0 then fail stLate s
      else if t > s.now + day then fail stBadParam s
      else
        let (prep, s) := s.newSysTag
        let (dec, s) := s.newSysTag
        let s := s.onSysForme id (fun f => { f with
          state := 3, partialOk := u8 p 4 = 1, t := t, decision := 0, prepareTag := prep, tag := dec, replayed := false,
          runHandle := if s.twin.role = .standby then none else some (handleOf 0x3022 rq),
          nodes := f.nodes.map (fun _ a => { a with
            answer := 255, lockup := 0, errDest := 65535, errReason := 0, committed := false, decisionAnswer := 255 }) })
        accepted (each f.nodes (fun e s => s.sendPrepare id t prep e.1 e.2) s)

def execSysFormeRun (rq : Request) (s : State) : Out := .next (command 0x3022 sysFormeRunBody rq s)

def execPrepareAnswer (sysId node status errDest errReason : Nat) (s : State) : Out :=
  .next (s.prepareAnswered sysId node status errDest errReason)

/-- The apex decides at T_d = T - 1 ms - commit_margin_us at the latest (R187). -/
def execSysDecisionTime (sysId at_ : Nat) (s : State) : Out :=
  let s := s.advance at_
  .next (match s.hier.sysFormes.get? sysId with
    | none => s
    | some f => if f.t ≤ s.now + 1000000 + s.hier.commitMarginUs * 1000 then s.decide sysId else s)

/-- A node without a decision by T + 1 s discards the forme (R188). -/
def decisionExpired (id : Nat) (s : State) : State :=
  match s.forme id with
  | none => s
  | some f =>
    if f.prepared && f.noDecision && f.decision = .none && f.t.getD 0 + sec ≤ s.now then
      (((s.dropForme id).raise 4 3 id (bytes [3])).reportLockup f 2).freePushed id
    else s

def execDecisionExpiry (forme at_ : Nat) (s : State) : Out := .next (decisionExpired forme (s.advance at_))

/-- An undecided system forme aborted (R200): ABORT goes to every node that was prepared or holds its record. -/
def State.abortSys (id : Nat) (f : SysForme) (s : State) : State :=
  let (tag, s) := s.newSysTag
  let s := s.onSysForme id (fun f => { f with
    state := 5, decision := 2, tag := tag, pushHandle := none,
    nodes := f.nodes.map (fun _ a => { a with committed := false }) })
  let ready := f.nodeCount (fun a => a.answer = 0)
  let s := if f.state = 3 then s.raise 4 0x10 id (bytes [2] ++ leBytes 2 ready ++ leBytes 2 (f.nodes.length - ready)) else s
  let s := s.completeOpt f.pushHandle stTimeout (leBytes 2 f.nodes.length
    ++ leBytes 2 (f.nodeCount (fun a => a.pushed = 1)) ++ leBytes 2 (f.nodeCount (fun a => a.pushed != 1))
    ++ leBytes 2 (f.firstNode (fun a => a.pushed != 1)))
  let s := each f.nodes (fun e s => if f.state = 3 || e.2.pushed = 1 then s.sendDecision id e.1 tag false else s) s
  s.finishRun id

def sysFormeAbortBody : Body := fun rq s =>
  let p := rq.payload
  if p.length != 4 then fail stBadParam s
  else if !s.hier.apexRole then fail stWrongState s
  else
    match s.hier.sysFormes.get? (u32 p 0) with
    | none => fail stWrongState s
    | some f => if f.state > 3 then fail stWrongState s else ok (s.abortSys (u32 p 0) f)

def execSysFormeAbort (rq : Request) (s : State) : Out := .next (command 0x3023 sysFormeAbortBody rq s)

/-- A node's record of SYS_FORME_STATUS (R200). -/
def statusRecord (node : Nat) (a : NodeAnswer) : List Byte :=
  leBytes 2 node ++ bytes [a.answer, a.lockup] ++ leBytes 2 a.errDest ++ bytes [a.errReason, 0]

def sysFormeStatusBody : Body := fun rq s =>
  let p := rq.payload
  let n := u16 p 6
  if p.length != 8 || n = 0 || n > 500 then fail stBadParam s
  else if !s.hier.apexRole then fail stWrongState s
  else
    match s.hier.sysFormes.get? (u32 p 0) with
    | none => fail stBadParam s
    | some f =>
      let l := (f.nodes.drop (u16 p 4)).take n
      okWith (bytes [f.state, 0] ++ leBytes 2 l.length ++ zeros 4 ++ l.flatMap (fun e => statusRecord e.1 e.2)) s

def execSysFormeStatus (rq : Request) (s : State) : Out := .next (command 0x3024 sysFormeStatusBody rq s)

/-! A node's part (R185, R186, R188). -/

def formePushBody : Body := fun rq s =>
  let p := rq.payload
  let id := u32 p 0
  let off := u32 p 4
  let n := u16 p 8
  let held := s.hier.pushed.get? id
  let old : Pushed := if off = 0 then {} else held.getD {}
  if p.length < 12 || n = 0 || n > 4000 || p.length != 12 + n || u8 p 10 > 1 || !zeroAt p 11 1 || off + n > recordMax
      || (off != 0 && (held.isNone || off > old.size)) then fail stBadParam s
  else if held.isNone && s.hier.pushed.length ≥ 8 then fail stResource s
  else
    let r : Pushed := { bytes := old.bytes.writeN off (p.drop 12), size := max old.size (off + n), complete := u8 p 10 = 1 }
    ok (s.onHier (fun h => { h with pushed := h.pushed.put id r }))

def execFormePush (rq : Request) (s : State) : Out := .next (command 0x3028 formePushBody rq s)

def prepareBody : Body := fun rq s =>
  let p := rq.payload
  if p.length != 32 || !zeroAt p 6 2 || !zeroAt p 12 4 || !nsOk p 24 || !zeroAt p 28 4 then fail stBadParam s
  else
    let (st, d, r, s) := s.prepareForme (u32 p 0) (u16 p 4) (u32 p 8) (timeAt p 16 24) (rq.originator % 16384)
    ({ status := st, payload := leBytes 2 d ++ bytes [r, 0] }, s)

def execPrepare (rq : Request) (s : State) : Out := .next (command 0x3029 prepareBody rq s)

def commitBody : Body := fun rq s =>
  if rq.payload.length != 4 then fail stBadParam s
  else
    let (st, s) := s.commitForme (u32 rq.payload 0)
    fail st s

def execCommit (rq : Request) (s : State) : Out := .next (command 0x302A commitBody rq s)

def abortBody : Body := fun rq s =>
  if rq.payload.length != 4 then fail stBadParam s
  else
    let (st, s) := s.abortForme (u32 rq.payload 0)
    fail st s

def execAbort (rq : Request) (s : State) : Out := .next (command 0x302B abortBody rq s)

/-- A node's LOCKUP_REPORT packet at the apex (R190). -/
def State.reportArrived (node : Nat) (p : List Byte) (s : State) : State :=
  if p.length != 20 || u8 p 4 > 2 || !zeroAt p 5 1 || !s.hier.apexRole then s else s.lockupReported (u32 p 0) node (u8 p 4 + 1)

def execLockupReport (rq : Request) (s : State) : Out :=
  .next (match rq.port with
    | .link _ => if s.serving rq.port then s.reportArrived (rq.originator % 16384) rq.payload else s
    | _ => s)

/-- At T + 2 s the apex completes SYS_FORME_RUN (R190). -/
def execSysRunTimeout (sysId at_ : Nat) (s : State) : Out :=
  let s := s.advance at_
  .next (match s.hier.sysFormes.get? sysId with
    | none => s
    | some f => if f.state = 4 && f.t + 2 * sec ≤ s.now then s.finishRun sysId else s)

/-! Snapshots (R192, R194). -/

/-- The refusal of a snapshot's fields and instant, or 0 (R192, R193). -/
def snapError (p : List Byte) (s : State) : Nat :=
  let t := timeAt p 8 16
  if p.length != 20 || u16 p 4 ≥ 1024 || u8 p 6 > 1 || !zeroAt p 7 1 || !nsOk p 16 then stBadParam
  else if t < s.now + 100000 then stLate
  else if t > s.now + day then stBadParam
  else 0

/-- A snapshot armed (R192). -/
def State.armSnap (p : List Byte) (h : Handle) (s : State) : Nat × State :=
  if snapError p s != 0 then (snapError p s, s)
  else if s.hier.snaps.length ≥ 4 then (stBusy, s)
  else
    (stAccepted, s.onHier (fun q => { q with snaps := q.snaps ++
      [{ id := u32 p 0, set := u16 p 4, keep := u8 p 6 = 1, t := timeAt p 8 16, handle := h }] }))

def snapshotAtBody : Body := fun rq s =>
  let (st, s) := s.armSnap rq.payload (handleOf 0x3030 rq)
  fail st s

def execSnapshotAt (rq : Request) (s : State) : Out := .next (command 0x3030 snapshotAtBody rq s)

/-- The handle of a command that the device gives itself: nothing hears of its completion. -/
def silentHandle : Handle := { port := .link 255, originator := 0xFFFF, mirrored := true }

/-- SYS_SNAPSHOT (R194). A standby apex arms its own and sends nothing (R199; log 151). -/
def sysSnapshotBody : Body := fun rq s =>
  let p := rq.payload
  if snapError p s = stBadParam then fail stBadParam s
  else if !s.hier.apexRole then fail stWrongState s
  else if snapError p s != 0 then fail (snapError p s) s
  else
    let nodes := (s.hier.joinedSerials.map (·.2)).dedup
    let (st, s) := s.armSnap p silentHandle
    if s.twin.role = .standby then accepted s
    else
    let x : SysSnap := { id := u32 p 0, waiting := s.node :: nodes, nodes := nodes.length + 1, handle := handleOf 0x3031 rq }
    let s := s.onHier (fun h => { h with sysSnaps := h.sysSnaps ++ [x] })
    let s := each nodes (fun n s =>
      let (pkt, s) := s.ownPacket 0x3030 n p
      s.originate none 1 0 n 0 pkt) s
    accepted (s.snapAnswered (u32 p 0) s.node st)

def execSysSnapshot (rq : Request) (s : State) : Out := .next (command 0x3031 sysSnapshotBody rq s)

def relayStatusBody : Body := fun rq s =>
  let r := s.hier.relay
  if rq.payload.length != 0 then fail stBadParam s
  else okWith (leBytes 4 r.version ++ bytes [r.children, r.done, s.childTransfers.length, r.failed] ++ leBytes 8 r.bytesSent) s

def execRelayStatus (rq : Request) (s : State) : Out := .next (command 0x3043 relayStatusBody rq s)

end Sys2Proof.Machine
end

