-- ==== Sys2Proof/Machine/Ethernet.lean ====
section
/-! DEFINITION. The Ethernet commands (R120 to R144): MACs, the classifier and its rebuild, flow configuration and
status, controller frames, PTP ports and link events. Reception is in EthRx, sending in Senders. -/

namespace Sys2Proof.Machine

/-! MACs. -/

def State.mac (s : State) (n : Nat) : Mac := s.eth.macs.at n {}
def State.onMac (s : State) (n : Nat) (f : Mac → Mac) : State :=
  s.onEth (fun e => { e with macs := e.macs.upd n {} f })

def MacMode.code : MacMode → Nat
  | .off => 0
  | .r25 => 1
  | .r100 => 2

/-- The lanes that a mode names from a first lane (R120). -/
def macLanesOf (mode first : Nat) : List Nat :=
  if mode = 0 then [] else if mode = 1 then [first] else [first, first + 1, first + 2, first + 3]

/-- The lanes that a MAC owns (R120). -/
def Mac.lanes (m : Mac) : List Nat := macLanesOf m.mode.code m.firstLane

/-- Whether an enabled transmit flow or a PTP port uses a MAC (R143). -/
def State.macUsed (n : Nat) (s : State) : Bool :=
  s.eth.ptp0.mac = n || s.eth.ptp1.mac = n
    || s.eth.tx.has (fun _ f => f.cfg.kind != 0 && f.cfg.enable && (f.cfg.a.mac = n || (f.cfg.pathB && f.cfg.b.mac = n)))

/-- A MAC with its link down (R120, R138): the frames that waited for a pause are gone. -/
def Mac.down (m : Mac) : Mac := { m with linkUp := false, preemptActive := false, held := [] }

/-- A MAC's link goes down with its event (R144): cause 1 lane role, 2 block lock, 3 deskew. -/
def State.macDown (n cause : Nat) (s : State) : State :=
  if (s.mac n).linkUp then
    let l := (s.mac n).held
    each l (fun h s => s.completeOpt h.handle stLinkLost (timeBytes s.now)) ((s.onMac n Mac.down).raise 11 2 n (bytes [cause]))
  else s

/-- The MAC that owns a lane goes down when the lane leaves its role (R96, R120). -/
def State.macLaneGone (lane : Nat) (s : State) : State :=
  each (s.eth.macs.filter (fun e => e.2.lanes.contains lane)) (fun e s => s.macDown e.1 1) s

def macConfigBody : Body := fun rq s =>
  let p := rq.payload
  let n := u8 p 0
  let mode := u8 p 1
  let first := u16 p 2
  let lanes := macLanesOf mode first
  if p.length != 20 || n > 63 || mode > 2 || first > 255 || u8 p 4 > 7 || u16 p 6 < 1518 || u16 p 6 > 9216
      || !zeroAt p 14 2 || u8 p 16 > 3 || !zeroAt p 17 3 || (mode = 2 && first % 4 != 0) then fail stBadParam s
  else if s.macUsed n then fail stWrongState s
  else if !lanes.all (fun l => (s.lane l).role = .eth)
      || s.eth.macs.has (fun k m => k != n && m.lanes.any lanes.contains) then fail stWrongState s
  else
    ok (s.onMac n (fun m =>
      let m' := { m with
        mode := if mode = 1 then .r25 else if mode = 2 then .r100 else .off,
        firstLane := first, fec := bit (u8 p 4) 0, preempt := bit (u8 p 4) 1, honourMedia := bit (u8 p 4) 2,
        mediaMask := u8 p 5, mtu := u16 p 6, station := (p.drop 8).take 6, fragSize := u8 p 16 }
      if m.mode = m'.mode && m.firstLane = m'.firstLane && m.fec = m'.fec then
        { m' with preemptActive := m.preemptActive && m'.preempt }
      else m'.down))

def execMacConfig (rq : Request) (s : State) : Out := .next (command 0x4001 macConfigBody rq s)

def macFilterSetBody : Body := fun rq s =>
  let p := rq.payload
  let rs := records p 4 8 (u8 p 1)
  if p.length < 4 || u8 p 0 > 63 || u8 p 1 > 16 || p.length != 4 + 8 * u8 p 1 || u8 p 2 > 7 || !zeroAt p 3 1
      || !rs.all (fun r => zeroAt r 6 2) then fail stBadParam s
  else ok (s.onMac (u8 p 0) (fun m => { m with
    filter := rs.map (·.take 6), acceptBcast := bit (u8 p 2) 0, acceptMcast := bit (u8 p 2) 1,
    promiscuous := bit (u8 p 2) 2 }))

def execMacFilterSet (rq : Request) (s : State) : Out := .next (command 0x4002 macFilterSetBody rq s)

/-- The MAC_STATUS reply (R143). -/
def State.macStatus (n : Nat) (s : State) : List Byte :=
  let m := s.mac n
  bytes [n, flag m.linkUp + 2 * flag (m.fec && m.linkUp) + 4 * flag m.preemptActive
      + 8 * flag (s.eth.ptp0.mac = n || s.eth.ptp1.mac = n)]
    ++ leBytes 2 m.firstLane
    ++ [m.rxFrames, m.txFrames, m.fcsErrors, m.filtered, m.fecUncorrected, m.pauseIgnored, m.pauseHonoured].flatMap
      (fun c => leBytes 4 c.toNat)

def macStatusBody : Body := fun rq s =>
  let p := rq.payload
  if p.length != 4 || u8 p 0 > 63 || !zeroAt p 1 3 then fail stBadParam s else okWith (s.macStatus (u8 p 0)) s

def execMacStatus (rq : Request) (s : State) : Out := .next (command 0x4003 macStatusBody rq s)

/-! The classifier (R125 to R130). -/

/-- The set of a destination address and port (R125). -/
def clsSet (ip port : Nat) : Nat := crc32c (leBytes 4 ip ++ leBytes 2 port) % 512

def parseCls (p : List Byte) : ClsEntry :=
  { dstIp := u32 p 0, dstPort := u16 p 4, vlan := u16 p 6 % 4096, vlanMatch := bit (u16 p 6) 12,
    srcMatch := bit (u16 p 6) 13, srcIp := u32 p 8, mac := u8 p 12, action := u8 p 13 % 4, legB := bit (u8 p 13) 2,
    flow := u16 p 14, ageLimit := u16 p 16 }

/-- The field checks of an entry (R126). -/
def clsOk (p : List Byte) : Bool :=
  let e := parseCls p
  u16 p 6 < 0x4000 && (e.srcMatch || e.srcIp = 0) && (e.mac ≤ 63 || e.mac = 255) && e.action != 3 && u8 p 13 < 8
    && (if e.action = 1 then e.flow < 1024 else e.flow = 0) && zeroAt p 19 5

def clsBytes (w : Way) : List Byte :=
  match w.entry with
  | none => zeros 24
  | some e =>
    leBytes 4 e.dstIp ++ leBytes 2 e.dstPort ++ leBytes 2 (e.vlan + 4096 * flag e.vlanMatch + 8192 * flag e.srcMatch)
      ++ leBytes 4 e.srcIp ++ bytes [e.mac, e.action + 4 * flag e.legB] ++ leBytes 2 e.flow ++ leBytes 2 e.ageLimit
      ++ [w.generation, 0] ++ zeros 4

/-- Identical match fields and values (R127). -/
def sameMatch (a b : ClsEntry) : Bool :=
  a.dstIp = b.dstIp && a.dstPort = b.dstPort && a.vlanMatch = b.vlanMatch && (!a.vlanMatch || a.vlan = b.vlan)
    && a.srcMatch = b.srcMatch && a.srcIp = b.srcIp && a.mac = b.mac

/-- The ways of an entry's set in ascending order. -/
def waysOf (e : ClsEntry) : List Nat := (List.range 8).map (fun w => 8 * clsSet e.dstIp e.dstPort + w)

/-- The way that holds an entry with the same match fields. -/
def findWay (b : Tbl Way) (e : ClsEntry) : Option Nat :=
  (waysOf e).find? (fun k => match (b.at k {}).entry with | some x => sameMatch x e | none => false)

def freeWay (b : Tbl Way) (e : ClsEntry) : Option Nat := (waysOf e).find? (fun k => (b.at k {}).entry.isNone)

/-- An entry added to a bank: a status, 0 when it is placed in the lowest free way of its set (R125, R127, R128). -/
def addCls (now : Nat) (b : Tbl Way) (e : ClsEntry) : Nat × Tbl Way :=
  if (findWay b e).isSome then (stBadParam, b)
  else
    match freeWay b e with
    | none => (stResource, b)
    | some k => (0, b.upd k {} (fun w => { entry := some e, generation := w.generation + 1, lastHit := now }))

/-- A way emptied: a removal changes its generation (R128). -/
def Way.removed (w : Way) : Way := { entry := none, generation := w.generation + 1, lastHit := w.lastHit }

/-- An entry removed from a bank, where it stands (R128). -/
def removeCls (b : Tbl Way) (e : ClsEntry) : Tbl Way :=
  match findWay b e with
  | none => b
  | some k => b.upd k {} Way.removed

/-- A bank emptied (R130). -/
def emptyBank (b : Tbl Way) : Tbl Way := b.map (fun _ w => if w.entry.isSome then w.removed else w)

def clsEntrySetBody : Body := fun rq s =>
  let p := rq.payload
  let e := parseCls p
  let fl := u8 p 24
  let both := bit fl 0 && s.eth.rebuild
  if p.length != 28 || !clsOk p || fl > 3 || !zeroAt p 25 3 then fail stBadParam s
  else if s.eth.rebuild && !bit fl 0 then fail stBusyRebuild s
  else if bit fl 1 then
    if (findWay s.eth.standing e).isNone && !(both && (findWay s.eth.shadow e).isSome) then fail stBadParam s
    else ok (s.onEth (fun x => { x with
      standing := removeCls x.standing e, shadow := if both then removeCls x.shadow e else x.shadow }))
  else
    let a := addCls s.now s.eth.standing e
    let b := if both then addCls s.now s.eth.shadow e else (0, s.eth.shadow)
    if a.1 != 0 then fail a.1 s
    else if b.1 != 0 then fail b.1 s
    else ok (s.onEth (fun x => { x with standing := a.2, shadow := b.2 }))

def execClsEntrySet (rq : Request) (s : State) : Out := .next (command 0x4004 clsEntrySetBody rq s)

def clsRebuildOpenBody : Body := fun rq s =>
  let p := rq.payload
  if p.length != 4 || u8 p 0 > 1 || !zeroAt p 1 3 then fail stBadParam s
  else if s.eth.rebuild then fail stWrongState s
  else ok (s.onEth (fun x => { x with
    rebuild := true, shadow := if u8 p 0 = 1 then x.standing else emptyBank x.shadow }))

def execClsRebuildOpen (rq : Request) (s : State) : Out := .next (command 0x4005 clsRebuildOpenBody rq s)

/-- Entries added in order; the first failure refuses them all. -/
def addAll (now : Nat) : List ClsEntry → Tbl Way → Nat × Tbl Way
  | [], b => (0, b)
  | e :: r, b => match addCls now b e with
    | (0, b') => addAll now r b'
    | (st, _) => (st, b)

def clsRebuildWriteBody : Body := fun rq s =>
  let p := rq.payload
  let n := u16 p 0
  let rs := records p 4 24 n
  if p.length < 4 || n = 0 || n > 170 || p.length != 4 + 24 * n || !zeroAt p 2 2 || !rs.all clsOk then fail stBadParam s
  else if !s.eth.rebuild then fail stWrongState s
  else
    match addAll s.now (rs.map parseCls) s.eth.shadow with
    | (0, b) => ok (s.onEth (fun x => { x with shadow := b }))
    | (st, _) => fail st s

def execClsRebuildWrite (rq : Request) (s : State) : Out := .next (command 0x4006 clsRebuildWriteBody rq s)

/-- The banks swapped at one instant (R129, R130). -/
def State.swapBanks (s : State) : State :=
  let s := s.onEth (fun x => { x with
    rebuild := false, standing := x.shadow.map (fun _ w => { w with lastHit := s.now }),
    shadow := emptyBank x.standing })
  s.raise 11 5 0 (leBytes 2 (s.eth.standing.count (fun _ w => w.entry.isSome)) ++ timeBytes s.now)

def clsRebuildCommitBody : Body := fun rq s =>
  let p := rq.payload
  if p.length != 4 || u8 p 0 > 1 || !zeroAt p 1 3 then fail stBadParam s
  else if !s.eth.rebuild then fail stWrongState s
  else if u8 p 0 = 1 then ok (s.onEth (fun x => { x with rebuild := false, shadow := emptyBank x.shadow }))
  else ok s.swapBanks

def execClsRebuildCommit (rq : Request) (s : State) : Out := .next (command 0x4007 clsRebuildCommitBody rq s)

def clsReadBody : Body := fun rq s =>
  let p := rq.payload
  if p.length != 4 || u8 p 0 > 1 || !zeroAt p 1 1 || u16 p 2 > 511 then fail stBadParam s
  else
    let b := if u8 p 0 = 0 then s.eth.standing else s.eth.shadow
    okWith ((List.range 8).flatMap (fun w => clsBytes (b.at (8 * u16 p 2 + w) {}))) s

def execClsRead (rq : Request) (s : State) : Out := .next (command 0x4008 clsReadBody rq s)

/-! Flows (R132 to R137). -/

def State.rxFlow (s : State) (n : Nat) : RxFlow := s.eth.rx.at n {}
def State.onRx (s : State) (n : Nat) (f : RxFlow → RxFlow) : State := s.onEth (fun e => { e with rx := e.rx.upd n {} f })
def State.txFlow (s : State) (n : Nat) : TxFlow := s.eth.tx.at n {}
def State.onTx (s : State) (n : Nat) (f : TxFlow → TxFlow) : State := s.onEth (fun e => { e with tx := e.tx.upd n {} f })

/-- The param of a flow type (R143): a format code, a channel count or 0; type 0 leaves it unread. -/
def flowParamOk (kind param : Nat) : Bool :=
  if kind = 0 then true else if kind = 1 then formatKnown param
  else if kind = 2 || kind = 3 then 1 ≤ param && param ≤ 64 else param = 0

/-- A receive flow's configuration applied: what the merge and the frame in progress held is new (R143). -/
def RxFlow.apply (f : RxFlow) (c : RxFlowCfg) : RxFlow :=
  { f with
    cfg := c, staged := none, rtp := none, lastSeq := none, gaps := [], marker := false, arrived := [], recent := [], skewSum := 0, skewCount := 0,
    skewRaised := false, present := f.present && c.kind = f.cfg.kind, lost := f.lost && c.kind = f.cfg.kind && c.kind != 0 }

def rxFlowConfigBody : Body := fun rq s =>
  let p := rq.payload
  let n := u16 p 0
  let k := u8 p 2
  let audio := k = 2 || k = 3
  let c : RxFlowCfg := { kind := k, param := u8 p 3, payloadType := u8 p 4, ssrcCheck := bit (u8 p 5) 0, ancOf := u16 p 6,
                         ssrc := u32 p 8, skewUs := u32 p 12, ptime := u8 p 16, rate96 := bit (u8 p 17) 0,
                         l24 := bit (u8 p 17) 1 }
  if p.length != 20 || n > 1023 || k > 4 || !flowParamOk k (u8 p 3)
      || !(u8 p 4 = 0 || (96 ≤ u8 p 4 && u8 p 4 ≤ 127)) || u8 p 5 > 1
      || (if k = 4 then u16 p 6 > 1023 else u16 p 6 != 0xFFFF) || u32 p 12 > 20000
      || (audio && u8 p 16 > 1) || u8 p 17 > 3 || !zeroAt p 18 2 then fail stBadParam s
  else if k = 4 && (s.rxFlow (u16 p 6)).cfg.kind != 1 then fail stWrongState s
  else ok (s.onRx n (fun f =>
    if f.cfg.kind != 0 && f.present then { f with staged := some c } else f.apply c))

def execRxFlowConfig (rq : Request) (s : State) : Out := .next (command 0x4009 rxFlowConfigBody rq s)

def parsePath (p : List Byte) : TxPath :=
  { mac := u8 p 0, dscp := u8 p 1, ttl := u8 p 2, dstMac := (p.drop 4).take 6, vlan := u16 p 10, dstIp := u32 p 12,
    srcIp := u32 p 16, dstPort := u16 p 20, srcPort := u16 p 22 }

/-- The checks of a path block: its MAC, where the path is used, and its reserved bits (R9, R143). -/
def pathOk (used : Bool) (p : List Byte) : Bool := (!used || u8 p 0 ≤ 63) && u8 p 1 < 64 && zeroAt p 3 1

/-- A sender whose destination is idle and that sends no packets for it (R61): one of video or ancillary data, or an audio
sender that a lattice source feeds (R135). -/
def State.txIdle (n : Nat) (s : State) : Bool :=
  let d := s.dest (0x100 + n)
  let k := (s.txFlow n).cfg.kind
  (k = 1 || k = 4 || d.current.source != 0xFFFF) && d.plane = 0

/-- A sender's configuration applied: its sequence number starts anew at enable, at a value the spec leaves open, the same for
both twins of a pair, which enable it at one instant (R137, R339). -/
def State.applyTx (n : Nat) (c : TxFlowCfg) (s : State) : State :=
  let f := s.txFlow n
  if c.kind != 0 && c.enable && !(f.cfg.kind != 0 && f.cfg.enable) then
    s.onTx n (fun f => { f with cfg := c, staged := none, running := false, lastFrame := none, packet := 0,
                                seq := (Config.startSeq n s.now).toNat })
  else s.onTx n (fun f => { f with cfg := c, staged := none, running := f.running && c.kind != 0 && c.enable })

def txFlowConfigBody : Body := fun rq s =>
  let p := rq.payload
  let n := u16 p 0
  let k := u8 p 2
  let fl := u8 p 4
  let audio := k = 2 || k = 3
  let a := p.drop 16
  let b := p.drop 40
  let c : TxFlowCfg := { kind := k, param := u8 p 3, enable := bit fl 0, typeW := bit fl 1, pathB := bit fl 2,
                         payloadType := u8 p 5, ptime := u8 p 6, rate96 := bit (u8 p 7) 0, l24 := bit (u8 p 7) 1,
                         ssrc := u32 p 8, troNs := s32 p 12, a := parsePath a, b := parsePath b }
  let live (m : Nat) : Bool := (s.mac m).mode != .off
  if p.length != 64 || n > 1023 || k > 4 || !flowParamOk k (u8 p 3) || fl > 7
      || (k != 0 && !(96 ≤ u8 p 5 && u8 p 5 ≤ 127)) || (audio && u8 p 6 > 1) || u8 p 7 > 3 || !pathOk true a
      || !pathOk (bit fl 2) b then fail stBadParam s
  else if k != 0 && (!live c.a.mac || (c.pathB && (!live c.b.mac || c.a.mac = c.b.mac))) then fail stWrongState s
  else if (s.txFlow n).running && !s.txIdle n then ok (s.onTx n (fun f => { f with staged := some c }))
  else ok (s.applyTx n c)

def execTxFlowConfig (rq : Request) (s : State) : Out := .next (command 0x400A txFlowConfigBody rq s)

/-- The FLOW_STATUS reply (R143). -/
def State.flowStatus (dir n : Nat) (s : State) : List Byte :=
  if dir = 0 then
    let f := s.rxFlow n
    let st := if f.cfg.kind = 0 then 0 else if f.lost then 3 else if f.present then 2 else 1
    leBytes 2 n ++ bytes [0, st] ++ leBytes 4 f.packetsA.toNat ++ leBytes 4 f.packetsB.toNat ++ leBytes 4 f.missing.toNat
      ++ leBytes 4 f.late.toNat ++ leInt 4 f.skewNs ++ leBytes 4 f.dupDropped.toNat ++ leBytes 4 f.seqErrors.toNat
  else
    let f := s.txFlow n
    let st := if f.cfg.kind = 0 || !f.cfg.enable then 0 else if f.running && !s.txIdle n then 2 else 1
    leBytes 2 n ++ bytes [1, st] ++ leBytes 4 f.packetsA.toNat ++ leBytes 4 f.packetsB.toNat ++ zeros 4
      ++ leBytes 4 f.late.toNat ++ zeros 12

def flowStatusBody : Body := fun rq s =>
  let p := rq.payload
  if p.length != 4 || u8 p 0 > 1 || !zeroAt p 1 1 || u16 p 2 > 1023 then fail stBadParam s
  else okWith (s.flowStatus (u8 p 0) (u16 p 2)) s

def execFlowStatus (rq : Request) (s : State) : Out := .next (command 0x400B flowStatusBody rq s)

/-! Frames that leave (R122, R131, R139, R141). -/

/-- A big-endian field of `n` bytes, as network headers use. -/
def beBytes (n v : Nat) : List Byte := (leBytes n v).reverse

/-- A big-endian field of a frame. -/
def fldBe (p : List Byte) (off n : Nat) : Nat := leNat (((p.drop off).take n).reverse)

/-- A frame padded to 60 bytes (R122). -/
def padFrame (f : List Byte) : List Byte := f ++ zeros (60 - f.length)

/-- A frame as it leaves: padded, with its FCS (R122). -/
def withFcs (f : List Byte) : List Byte := padFrame f ++ leBytes 4 (crcEth (padFrame f))

/-- A frame leaves a MAC whose link is up, its first bit at an instant. -/
def State.sendFrameAt (n t : Nat) (f : List Byte) (s : State) : State :=
  if (s.mac n).linkUp then
    (s.onPorts (fun p => { p with ethOut := p.ethOut ++ [{ mac := n, at_ := t, frame := withFcs f }] })).onMac n
      (fun m => { m with txFrames := m.txFrames + 1 })
  else s

/-- A frame leaves at once. -/
def State.sendFrame (n : Nat) (f : List Byte) (s : State) : State := s.sendFrameAt n s.now f

/-- The transmit priority of a frame: its PCP, 0 where it has no tag (R139; log 155). -/
def framePrio (f : List Byte) : Nat := if fldBe f 12 2 = 0x8100 then u8 f 14 / 32 else 0

/-- Whether a priority of a MAC is paused (R139). -/
def State.paused (n prio : Nat) (s : State) : Bool := ((s.mac n).pauses.at prio {}).until_ > s.now

/-- A frame leaves, after the frame that is on the line (R138), or waits for the end of the pause of its priority (R139). -/
def State.sendOrHold (n : Nat) (h : HeldFrame) (s : State) : State :=
  if s.paused n h.prio then
    if (s.mac n).linkUp then s.onMac n (fun m => { m with held := m.held ++ [{ h with wait := 0 }] })
    else s.completeOpt h.handle stLinkLost (timeBytes s.now)
  else
    let up := (s.mac n).linkUp
    let t := s.now + h.wait
    let s := (s.sendFrameAt n t h.frame).completeOpt h.handle (if up then stOk else stLinkLost) (timeBytes t)
    match h.flow with
    | none => s
    | some (k, b) =>
      if !up then s
      else s.onTx k (fun f => { f with
        packetsA := if b then f.packetsA else f.packetsA + 1, packetsB := if b then f.packetsB + 1 else f.packetsB,
        late := if h.due + 1000 < t then f.late + 1 else f.late })

/-- The held frames whose priority is no longer paused leave in their order (R139). -/
def State.releaseHeld (n : Nat) (s : State) : State :=
  let l := (s.mac n).held
  each l (fun h s => s.sendOrHold n h) (s.onMac n (fun m => { m with held := [] }))

/-- A frame of the exception path leaves; a standby twin sends none (R142). -/
def State.sendException (n : Nat) (f : List Byte) (h : Option Handle) (s : State) : State :=
  if s.twin.role = .standby then s.completeOpt h (if (s.mac n).linkUp then stOk else stLinkLost) (timeBytes s.now)
  else s.sendOrHold n { prio := framePrio f, due := s.now, frame := f, handle := h }

def frameTxBody : Body := fun rq s =>
  let p := rq.payload
  let n := u8 p 0
  let t := timeAt p 4 12
  let frame := p.drop 16
  if p.length < 16 || n > 63 || !zeroAt p 1 1 || u16 p 2 < 14 || u16 p 2 > 2044 || p.length != 16 + u16 p 2 || !nsOk p 12 then
    fail stBadParam s
  else if (s.mac n).mode = .off || !(s.mac n).linkUp then fail stWrongState s
  else if t = 0 then ok (s.sendException n frame none)
  else if t < s.now + 50000 then fail stLate s
  else accepted (s.onMac n (fun m => { m with
    launches := m.launches ++ [{ due := t, frame := frame, handle := handleOf 0x400C rq }] }))

def execFrameTx (rq : Request) (s : State) : Out := .next (command 0x400C frameTxBody rq s)

/-- The frames of one FRAME_RX_READ reply: in queue order, while they fit (R131). -/
def takeFrames : Nat → Nat → List ExcFrame → List ExcFrame
  | 0, _, _ => []
  | _ + 1, _, [] => []
  | k + 1, room, f :: r => if f.data.length + 4 ≤ room then f :: takeFrames k (room - f.data.length - 4) r else []

def frameRxReadBody : Body := fun rq s =>
  let p := rq.payload
  if p.length != 4 || u8 p 0 = 0 || u8 p 0 > 2 || !zeroAt p 1 3 then fail stBadParam s
  else
    let l := takeFrames (u8 p 0) 4092 s.eth.exceptions
    okWith (bytes [l.length, s.eth.dropped, 0, 0]
        ++ l.flatMap (fun f => bytes [f.mac, 0] ++ leBytes 2 f.data.length ++ f.data))
      (s.onEth (fun e => { e with exceptions := e.exceptions.drop l.length }))

def execFrameRxRead (rq : Request) (s : State) : Out := .next (command 0x400D frameRxReadBody rq s)

def ptpPortSetBody : Body := fun rq s =>
  let p := rq.payload
  let c : PtpPort := { mac := u8 p 1, oneStep := u8 p 2 = 1, asymPs := s32 p 4 }
  if p.length != 8 || u8 p 0 > 1 || !(u8 p 1 ≤ 63 || u8 p 1 = 255) || u8 p 2 > 1 || !zeroAt p 3 1 then fail stBadParam s
  else if u8 p 1 != 255 && (s.mac (u8 p 1)).mode = .off then fail stWrongState s
  else ok (s.onEth (fun e => if u8 p 0 = 0 then { e with ptp0 := c } else { e with ptp1 := c }))

def execPtpPortSet (rq : Request) (s : State) : Out := .next (command 0x400E ptpPortSetBody rq s)

/-! What the time base and the medium bring. -/

/-- A pause time ends, and what waited for it leaves (R139). -/
def execPauseExpiry (mac priority at_ : Nat) (s : State) : Out :=
  let s := s.advance at_
  .next ((s.onMac mac (fun m =>
    { m with pauses := m.pauses.filter (fun e => e.1 != priority || s.now < e.2.until_) })).releaseHeld mac)

/-- One frame period without a packet on either leg (R133). -/
def flowLost (n : Nat) (s : State) : State :=
  let f := s.rxFlow n
  if f.cfg.kind = 0 || f.lost then s
  else
    let s := s.onRx n (fun f =>
      let f := { f with present := false, lost := true }
      match f.staged with
      | some c => f.apply c
      | none => f)
    s.raise 11 6 n (leBytes 4 f.packetsA.toNat ++ leBytes 4 f.packetsB.toNat)

def execFlowLoss (flow at_ : Nat) (s : State) : Out := .next (flowLost flow (s.advance at_))

/-- An ageing tick finds an entry without a hit for its age_limit (R129). -/
def entryAged (set way : Nat) (s : State) : State :=
  let w := s.eth.standing.at (8 * set + way) {}
  match w.entry with
  | none => s
  | some e =>
    if e.ageLimit = 0 || s.now < w.lastHit + e.ageLimit * 10000000 then s
    else
      (s.onEth (fun x => { x with standing := x.standing.put (8 * set + way) w.removed })).raise 11 4 (8 * set + way)
        (leBytes 4 e.dstIp ++ leBytes 2 e.dstPort ++ leBytes 2 e.flow)

def execEntryAged (set way at_ : Nat) (s : State) : Out := .next (entryAged set way (s.advance at_))

/-- The one's complement sum of the 16-bit words of a header of even length. -/
def sum16 : List Byte → Nat
  | a :: b :: r => 256 * a.toNat + b.toNat + sum16 r
  | _ => 0

/-- The IPv4 header checksum. -/
def ipChecksum (h : List Byte) : Nat :=
  let a := sum16 h
  let b := a / 65536 + a % 65536
  65535 - (b / 65536 + b % 65536) % 65536

/-- An IPv4 UDP frame of a path, without its FCS: the UDP checksum is zero (R135, R140). -/
def udpFrame (p : TxPath) (station : List Byte) (ident : Byte) (payload : List Byte) : List Byte :=
  let udp := beBytes 2 p.srcPort ++ beBytes 2 p.dstPort ++ beBytes 2 (payload.length + 8) ++ zeros 2 ++ payload
  let ip (sum : Nat) := bytes [0x45, 4 * p.dscp] ++ beBytes 2 (udp.length + 20) ++ [0, ident] ++ zeros 2
    ++ bytes [p.ttl, 17] ++ beBytes 2 sum ++ beBytes 4 p.srcIp ++ beBytes 4 p.dstIp
  p.dstMac ++ station ++ (if bit p.vlan 15 then bytes [0x81, 0] ++ beBytes 2 (p.vlan % 32768) else [])
    ++ bytes [0x08, 0x00] ++ ip (ipChecksum (ip 0)) ++ udp

/-- An armed frame leaves at its instant; its completion reports the actual one (R141; log 35). -/
def frameLaunch (n due : Nat) (s : State) : State :=
  match (s.mac n).launches.find? (fun l => l.due = due) with
  | none => s
  | some l =>
    (s.onMac n (fun m => { m with launches := m.launches.erase l })).sendException n l.frame (some l.handle)

def execFrameLaunch (mac due at_ : Nat) (s : State) : Out := .next (frameLaunch mac due (s.advance at_))

/-- 802.3br verification ends (R138). -/
def execPreemptVerify (mac : Nat) (passed : Bool) (s : State) : Out :=
  .next (if (s.mac mac).preempt && (s.mac mac).linkUp then
    (s.onMac mac (fun m => { m with preemptActive := passed })).raise 11 3 mac (bytes [flag passed])
  else s)

/-- A MAC's link comes up: configured, with all of its lanes in role ETH and awake (R120, R142, R144). -/
def execLinkUp (mac : Nat) (s : State) : Out :=
  let m := s.mac mac
  .next (if m.mode != .off && !m.linkUp && m.lanes.all (fun l => (s.lane l).role = .eth) && s.group 0 != .dormant
      && s.group 1 != .dormant && s.power.state != .dormant then
    (s.onMac mac (fun m => { m with linkUp := true })).raise 11 1 mac (bytes [m.mode.code, flag m.fec])
  else s)

def execEthLinkDown (mac cause : Nat) (s : State) : Out := .next (s.macDown mac cause)

end Sys2Proof.Machine
end

