-- ==== Sys2Proof/Machine/Journal.lean ====
section
/-! DEFINITION. The flash journal (R412, R413): its records, its two banks, and journalled erases. -/

namespace Sys2Proof.Machine

/-- A record written to the bank in use with the next seq (R412). -/
def State.journalAdd (r : JournalRec) (s : State) : State :=
  s.onLife (fun l => { l with journal := { r with seq := l.journalSeq } :: l.journal,
                              journalSeq := (l.journalSeq + 1) % 2 ^ 32 })

def SlotState.code : SlotState → Nat
  | .empty => 0
  | .writing => 1
  | .valid => 2

/-- The region of a folio slot code: 0 A, 1 B, 2 golden (R412). -/
def slotRegion (slot : Nat) : Nat := 2 + slot

/-- First flash offset of a region (R405). -/
def regionFirst (region : Nat) : Nat :=
  if region = 1 then 0x40000 else if region = 2 then 0x100000 else if region = 3 then 0x2100000
  else if region = 4 then 0x4100000 else 0

/-- Bytes of a region (R405). -/
def regionBytes (region : Nat) : Nat := if region = 1 then 0x10000 else if region = 0 then 0x20000 else 0x2000000

/-- The records that a CHECKPOINT puts at the head of a new bank: slot states and the newest SELECT (R413; log 40). -/
def State.checkpoint (s : State) : List JournalRec :=
  let slot (i : Nat) (f : FolioSlot) : JournalRec :=
    { kind := 3, region := slotRegion i, state := f.state.code, version := f.version }
  [{ kind := 5 }, slot 0 s.life.a, slot 1 s.life.b, slot 2 s.life.golden]
    ++ (if s.life.selectSlot = 255 then []
        else [{ kind := 4, region := slotRegion s.life.selectSlot, state := flag (!s.life.selectTrial) }])

/-- A record written; a bank that fills is followed by the other, erased under an INTENT in the full one (R413). -/
def State.journalPut (r : JournalRec) (s : State) : State :=
  if s.life.journal.length < 4095 then s.journalAdd r
  else
    let bank := 1 - s.life.journalBank
    let e : JournalRec := { kind := 1, first := bank * 0x20000, bytes := 0x20000 }
    let s := (s.journalAdd e).onLife (fun l => { l with journal := [], journalBank := bank })
    (each (s.checkpoint ++ [{ e with kind := 2 }]) State.journalAdd s).journalAdd r

/-- The INTENT record before the erase of a whole region (R413). -/
def State.journalIntent (region : Nat) (s : State) : State :=
  s.journalPut { kind := 1, region := region, first := regionFirst region, bytes := regionBytes region }

/-- The DONE record after the erase (R413). -/
def State.journalDone (region : Nat) (s : State) : State :=
  s.journalPut { kind := 2, region := region, first := regionFirst region, bytes := regionBytes region }

/-- A SLOT_STATE record of a folio slot (R412). -/
def State.journalSlot (slot : Nat) (st : SlotState) (version : Nat) (s : State) : State :=
  s.journalPut { kind := 3, region := slotRegion slot, state := st.code, version := version }

end Sys2Proof.Machine
end

