-- ==== Sys2Proof/Machine/LinkOps.lean ====
section
/-! DEFINITION. How a Voxad link starts, stops and wakes (R158, R164), shared by the link commands, the lane commands and
the power manager. -/

namespace Sys2Proof.Machine

/-- Whether every member lane has a valid entry of a rate class (R107). -/
def State.membersValid (n k : Nat) (s : State) : Bool := (s.link n).members.all (fun m => s.classValid m k)

/-- A link with a role starts from OFF (R158): WAKE, or DOWN with cause 8. -/
def State.linkStart (n : Nat) (s : State) : State :=
  if s.membersValid n 6 then s.linkWake n 0
  else s.onLink n (fun l => { l with state := .down, cause := 8 })

/-- A CONTROL message sent in two consecutive CONTROL blocks (R158, R163). -/
def State.controlTwice (n : Nat) (msg : List Byte) (s : State) : State := (s.sendControl n msg).sendControl n msg

/-- What is held for a child link that no longer wakes (R30): its routes are cleared, and its transactions end with
LINK_LOST. -/
def State.failHeld (n : Nat) (s : State) : State :=
  let l := s.link n
  if l.role != .child || l.state = .up || l.wakes then s
  else
    each l.waiting (fun t s => s.txnFailed n t stLinkLost) ((s.onLink n (fun l => { l with waiting := [] })).clearRoutes n)

/-- A link taken to a state other than UP; from UP, LINK_DOWN with a reason goes first where one is given, and the
link-down actions follow (R158, R165). -/
def State.linkLeave (n : Nat) (st : LinkState) (cause : Nat) (reason : Option Nat) (s : State) : State :=
  let up := (s.link n).state = .up
  let s := match reason with
    | some r => if up then s.controlTwice n (bytes [3, r, 0, 0]) else s
    | none => s
  let s := s.onLink n (fun l => { l with state := st, cause := cause })
  if up then s.linkDownActions n cause else s.failHeld n

/-- A link turned off: its role and lanes are free (R158, R168). -/
def State.linkOff (n cause reason : Nat) (s : State) : State :=
  (s.linkLeave n .off cause (some reason)).onLink n (fun l => { l with role := .off })

/-- The links that own a lane (R157). -/
def State.linksOn (lane : Nat) (s : State) : List Nat :=
  (s.vox.links.filter (fun e => e.2.role != .off && e.2.members.contains lane)).map (·.1)

/-- A lane-table commit gives the members of links in DOWN, cause 8, a valid class 6 entry (R158). -/
def State.wakeCause8 (s : State) : State :=
  each s.vox.links (fun e s =>
    if e.2.state = .down && e.2.cause = 8 && s.membersValid e.1 6 then s.linkWake e.1 0 else s) s

end Sys2Proof.Machine
end

