-- ==== Sys2Proof/Machine/LaneCmds.lean ====
section
/-! DEFINITION. The lane commands and the SDI receivers (R94 to R119). -/

namespace Sys2Proof.Machine

/-- The rate classes that a role uses (R107). -/
def LaneRole.classes : LaneRole → List Nat
  | .none => []
  | .sdi => [0, 1, 2, 3, 4]
  | .eth => [5]
  | .voxad => [6, 7, 8, 9]

def roleOf (code : Nat) : LaneRole := if code = 1 then .sdi else if code = 2 then .eth else if code = 3 then .voxad else .none

/-! SDI receivers (R101 to R104). -/

/-- A receiver that is not locked (R110): what it measured is unknown. -/
def SdiRx.unlocked (r : SdiRx) : SdiRx :=
  { r with
    locked := false, rateClass := 255, family := false, format := 0, carriage := 0, sampling422 := true, pidValid := false, cdr := false,
    payloadId := 0, atcPresent := false, pidMismatch := false, bondOk := false, measured := false, inBand := 0, phase := 0,
    skew := 0 }

/-- A receiver that has lost lock, by cause (R101, R110): the loss of TRS alone keeps carrier, CDR lock and its class. -/
def SdiRx.lost (r : SdiRx) (cause : Nat) : SdiRx :=
  let u := r.unlocked
  if cause = 3 then { u with cdr := r.cdr, rateClass := r.rateClass, family := r.family, carrier := r.carrier }
  else { u with carrier := r.carrier && cause != 1 }

/-- The member lanes of the receive bond of a lane (R103). -/
def State.rxMembers (lane : Nat) (s : State) : List Nat :=
  let l := s.lane lane
  if l.rxBond = 0 then [lane] else (List.range l.rxBond).map (fun i => l.rxBondFirst + i)

/-- bond_ok of every member: all of them are locked (R104). -/
def State.checkBond (lane : Nat) (s : State) : State :=
  if (s.lane lane).rxBond = 0 then s
  else
    let m := s.rxMembers lane
    let good := m.all (fun i => (s.lane i).rx.locked)
    each m (fun i s => s.onLane i (fun l => { l with rx := { l.rx with bondOk := good } })) s

/-- A locked receiver loses lock, with RX_LOSS (R101, R119); a bond that was intact is lost with it, with BOND_SKEW for the
missing member (R104). -/
def State.rxLost (lane cause : Nat) (s : State) : State :=
  let l := s.lane lane
  if !l.rx.locked then s
  else
    let s := s.onLane lane (fun l => { l with rx := l.rx.lost cause })
    let s := (s.checkBond lane).raise 6 2 lane (bytes [cause])
    if l.rxBond != 0 && l.rx.bondOk then s.raise 6 4 l.rxBondFirst (leBytes 2 0xFFFF) else s

/-! LANE_ROLE_SET (R96). -/

/-- The old role of a lane stops at once (R96). -/
def State.stopRole (lane : Nat) (s : State) : State :=
  match (s.lane lane).role with
  | .none => s
  | .sdi => (s.rxLost lane 4).onDest lane (fun d => { d with driving := false })
  | .eth => s.macLaneGone lane
  | .voxad => each (s.linksOn lane) (fun n s => s.linkOff n 4 2) s

/-- The settings that the transmit half of a new role takes from the lane table: an SDI output those of its format's class, and
none while it is unconfigured (R96, R107, R115). -/
def State.txSettings (r : LaneRole) (lane k : Nat) (s : State) : LaneEntry :=
  match r with
  | .none => {}
  | .sdi =>
    match formatClass (s.lane lane).txFormat (s.lane lane).txCarriage with
    | some c => s.tableEntry lane c
    | none => {}
  | _ => s.tableEntry lane k

/-- One lane's role changed, its settings loaded and ROLE_DONE raised (R96). -/
def State.setRole (r : LaneRole) (lane : Nat) (s : State) : State :=
  let s := s.stopRole lane
  let k := (r.classes.find? (fun k => s.classValid lane k)).getD 255
  let s := s.onLane lane (fun l => { l with
    role := r, equaliser := k, rx := { l.rx.unlocked with carrier := l.signal && r = .sdi },
    rxEntry := if r = .none then {} else s.tableEntry lane k, txEntry := s.txSettings r lane k })
  let s := if r = .voxad then s.restartLane k lane else s
  s.raise 6 6 lane (bytes [r.code])

/-- Whether a lane carries the twin link or a trained parent link (R96). -/
def State.carriesLink (lane : Nat) (s : State) : Bool :=
  (s.linksOn lane).any (fun n => (s.link n).role = .twin || ((s.link n).role = .parent && (s.link n).state = .up))

def laneRange (first count : Nat) : List Nat := (List.range count).map (fun i => first + i)

def laneRoleSetBody : Body := fun rq s =>
  let p := rq.payload
  let ls := laneRange (u16 p 0) (u16 p 2)
  let r := roleOf (u8 p 4)
  if p.length != 8 || u16 p 2 = 0 || u16 p 0 + u16 p 2 > 256 || u8 p 4 > 3 || u8 p 5 > 1 || !zeroAt p 6 2 then
    fail stBadParam s
  else if s.lanes.inUse.isNone then fail stWrongState s
  else if ls.any (fun n => (s.lane n).rxBond != 0 || (s.lane n).txBond != 0) then fail stWrongState s
  else if u8 p 5 = 0 && ls.any (fun n => s.carriesLink n) then fail stWrongState s
  else if r != .none && !ls.all (fun n => r.classes.any (fun k => s.classValid n k)) then fail stBadParam s
  else ok (each ls (State.setRole r) s)

def execLaneRoleSet (rq : Request) (s : State) : Out := .next (command 0x2001 laneRoleSetBody rq s)

def sdiRxConfigBody : Body := fun rq s =>
  let p := rq.payload
  let n := u16 p 0
  if p.length != 8 || n > 255 || u8 p 2 > 31 || u8 p 3 > 1 || u8 p 4 > 1 || !zeroAt p 5 3 then fail stBadParam s
  else if (s.lane n).role != .sdi then fail stWrongState s
  else
    let s := s.onLane n (fun l => { l with rxRates := u8 p 2, rxEnable := u8 p 3 = 1, ancDropBad := u8 p 4 = 1 })
    ok (if u8 p 3 = 0 || !bit (u8 p 2) (s.lane n).rx.rateClass then s.rxLost n 4 else s)

def execSdiRxConfig (rq : Request) (s : State) : Out := .next (command 0x2002 sdiRxConfigBody rq s)

/-- The rate family of an octant: true for 1/1.001 (R100). -/
def State.octantFamily (o : Nat) (s : State) : Bool := s.lanes.family.at o false

def sdiTxConfigBody : Body := fun rq s =>
  let p := rq.payload
  let n := u16 p 0
  let f := u8 p 2
  let c := u8 p 3
  let off := s32 p 8
  match formatClass f c with
  | none => fail stBadParam s
  | some k =>
    if p.length != 12 || n > 255 || u8 p 4 > 2 || u8 p 5 > 2 || !zeroAt p 6 2 || off.natAbs > 41708332 then fail stBadParam s
    else if (s.lane n).role != .sdi then fail stWrongState s
    else if linksOf c != (if (s.lane n).txBond = 0 then 1 else (s.lane n).txBond) then fail stWrongState s
    else if k != 0 && ratePulled (f % 16) != s.octantFamily (n / 8) then fail stWrongState s
    else ok (s.onLane n (fun l => { l with
      txFormat := f, txCarriage := c, txMode := u8 p 4, tcMode := u8 p 5, txOffset := off,
      txEntry := s.entryFor l.txEntry n k }))

def execSdiTxConfig (rq : Request) (s : State) : Out := .next (command 0x2003 sdiTxConfigBody rq s)

/-- Whether a lane is a non-SD SDI output whose tx_mode is not OFF (R100). -/
def Lane.fastOutput (l : Lane) : Bool :=
  l.role = .sdi && l.txFormat != 0 && formatClass l.txFormat l.txCarriage != some 0 && l.txMode != 0

def octantFamilyBody : Body := fun rq s =>
  let p := rq.payload
  let o := u8 p 0
  if p.length != 4 || o > 31 || u8 p 1 > 1 || !zeroAt p 2 2 then fail stBadParam s
  else if (laneRange (8 * o) 8).any (fun n => (s.lane n).fastOutput) then fail stWrongState s
  else ok (s.onLanes (fun l => { l with family := l.family.put o (u8 p 1 = 1) }))

def execOctantFamily (rq : Request) (s : State) : Out := .next (command 0x2004 octantFamilyBody rq s)

/-! Bonds (R103). -/

/-- A lane's bond in a direction: links and first member. -/
def Lane.bond (l : Lane) (tx : Bool) : Nat × Nat := if tx then (l.txBond, l.txBondFirst) else (l.rxBond, l.rxBondFirst)

def Lane.setBond (tx : Bool) (n first : Nat) (l : Lane) : Lane :=
  if tx then { l with txBond := n, txBondFirst := first }
  else { l with rxBond := n, rxBondFirst := first, rx := { l.rx with bondOk := false, skew := 0 } }

/-- Whether BOND_SET may be applied in one direction (R103). -/
def State.bondFree (lane links : Nat) (tx : Bool) (s : State) : Bool :=
  if links = 1 then ((s.lane lane).bond tx).1 = 0 || ((s.lane lane).bond tx).2 = lane
  else (laneRange lane links).all (fun n =>
    (s.lane n).role = .sdi && (((s.lane n).bond tx).1 = 0 || (s.lane n).bond tx = (links, lane)))

/-- BOND_SET applied in one direction (R103). -/
def State.setBonds (lane links : Nat) (tx : Bool) (s : State) : State :=
  let old := (s.lane lane).bond tx
  if links = 1 then
    if old.1 = 0 then s else each (laneRange old.2 old.1) (fun n s => s.onLane n (Lane.setBond tx 0 0)) s
  else if old = (links, lane) then s
  else
    let s := each (laneRange lane links) (fun n s => s.onLane n (Lane.setBond tx links lane)) s
    if tx then s else s.checkBond lane

def bondSetBody : Body := fun rq s =>
  let p := rq.payload
  let n := u16 p 0
  let d := u8 p 2
  let k := u8 p 3
  let dirs := if d = 0 then [false] else if d = 1 then [true] else [false, true]
  if p.length != 4 || n > 255 || d > 2 || !(k = 1 || (k = 2 && n % 2 = 0) || (k = 4 && n % 4 = 0)) then fail stBadParam s
  else if !dirs.all (fun t => s.bondFree n k t) then fail stWrongState s
  else ok (each dirs (fun t s => s.setBonds n k t) s)

def execBondSet (rq : Request) (s : State) : Out := .next (command 0x2005 bondSetBody rq s)

def ancFilterSetBody : Body := fun rq s =>
  let p := rq.payload
  let n := u16 p 0
  if p.length < 4 || n > 255 || u8 p 2 > 8 || !zeroAt p 3 1 || p.length != 4 + 2 * u8 p 2 then fail stBadParam s
  else if (s.lane n).role != .sdi then fail stWrongState s
  else ok (s.onLane n (fun l => { l with filter := (records p 4 2 (u8 p 2)).map (fun r => (u8 r 0, u8 r 1)) }))

def execAncFilterSet (rq : Request) (s : State) : Out := .next (command 0x2006 ancFilterSetBody rq s)

/-! The lane table (R106 to R109). -/

def laneTableWriteBody : Body := fun rq s =>
  let p := rq.payload
  let n := u16 p 4
  if p.length < 8 || n = 0 || n > 4000 || u32 p 0 + n > 20512 || p.length != 8 + n || !zeroAt p 6 2 then fail stBadParam s
  else ok (s.onLanes (fun l => { l with staging := l.staging.writeN (u32 p 0) (p.drop 8) }))

def execLaneTableWrite (rq : Request) (s : State) : Out := .next (command 0x2007 laneTableWriteBody rq s)

/-- The header fields of a lane table are valid (R106). -/
def tableHeaderOk (m : Memory) : Bool :=
  let h := Memory.readN m 0 32
  u32 h 0 = 0x92567AB1 && u16 h 4 = 1 && u16 h 12 = 256 && u8 h 14 = 10 && u8 h 15 = 8 && zeroAt h 16 12

/-- The CRC-32C over table offsets 32 to 20,511 (R106). -/
def tableCrc (m : Memory) : Nat := crc32c (Memory.readN m 32 20480)

/-- A lane table that may be applied (R108). -/
def tableOk (m : Memory) : Bool := tableHeaderOk m && tableCrc m = fld (Memory.readN m 28 4) 0 4

def laneTableCommitBody : Body := fun rq s =>
  let p := rq.payload
  if p.length != 4 then fail stBadParam s
  else if s.lanes.commit.isSome then fail stBusy s
  else if !tableOk s.lanes.staging || u32 p 0 != fld (Memory.readN s.lanes.staging 28 4) 0 4 then fail stBadParam s
  else accepted ((s.journalIntent 1).onLanes (fun l => { l with commit := some (handleOf 0x2008 rq), committing := l.staging }))

def execLaneTableCommit (rq : Request) (s : State) : Out := .next (command 0x2008 laneTableCommitBody rq s)

/-- The flash write of a commit finishes (R109): flash under the journal, then keep memory, then the completion. -/
def execLaneTableCommitDone (s : State) : Out :=
  .next (match s.lanes.commit with
    | none => s
    | some h =>
      let t : LaneTable := { bytes := s.lanes.committing }
      let s := (s.journalDone 1).onLanes (fun l => { l with
        inUse := some t, flash := some t, keep := some t, source := 0, staging := t.bytes, commit := none, committing := [] })
      (s.complete h stOk []).wakeCause8)

/-- The flash write does not finish within 2 s (R118): the region is erased under the journal, with records of its own (R413);
keep memory and the table in use stay. -/
def execLaneTableCommitTimeout (s : State) : Out :=
  .next (match s.lanes.commit with
    | none => s
    | some h =>
      (((s.journalIntent 1).journalDone 1).onLanes (fun l => { l with flash := none, commit := none, committing := [] })).complete h
        stTimeout [])

/-- LANE_TABLE_INFO (R118); without a table the other fields are zeros (DESIGN CHOICE, log 164). -/
def laneTableInfoBody : Body := fun rq s =>
  if rq.payload.length != 0 then fail stBadParam s
  else okWith (match s.lanes.inUse with
    | none => bytes [2] ++ zeros 15
    | some t =>
      let h := Memory.readN t.bytes 0 32
      bytes [s.lanes.source, 0] ++ leBytes 2 (u16 h 6) ++ leBytes 4 (u32 h 8) ++ leBytes 4 (u32 h 28) ++ zeros 4) s

def execLaneTableInfo (rq : Request) (s : State) : Out := .next (command 0x2009 laneTableInfoBody rq s)

/-! LANE_INFO and SDI_RX_STATUS (R110, R116, R118). -/

/-- Whether the transmit half of an SDI lane counts as enabled (R116). -/
def Lane.txOn (l : Lane) : Bool := l.txFormat != 0 && l.txMode != 0

/-- The rate class that stands for a receive half (R116), class 0 where it has none to search (DESIGN CHOICE, log 165). -/
def State.rxPowerClass (lane : Nat) (s : State) : Nat :=
  let l := s.lane lane
  if l.rx.locked then l.rx.rateClass
  else ((LaneRole.classes .sdi).filter (fun k => bit l.rxRates k && s.classValid lane k)).foldl max 0

/-- The SDI row of a rate class: typical and maximum mW, in hundredths (R116). -/
def sdiRow (k : Nat) : Nat × Nat :=
  if k ≤ 1 then (12000, 15000) else if k = 2 then (15000, 18500) else (20000, 24000)

/-- The power of a lane in hundredths of a mW: typical and maximum (R116). -/
def State.lanePower (lane : Nat) (s : State) : Nat × Nat :=
  let l := s.lane lane
  let idle := (200, 400)
  if s.group 0 = .dormant || s.power.state = .dormant then idle
  else
    match l.role with
    | .none => idle
    | .eth => (25000, 28100)
    | .voxad =>
      let top := (s.linksOn lane).any (fun n => (s.link n).state != .off && (s.link n).rateClass = 9)
      if top then (25000, 28100) else (14000, 17000)
    | .sdi =>
      let t := (formatClass l.txFormat l.txCarriage).getD 0
      let half (r : Nat × Nat) : Nat × Nat := (r.1 * 55 / 100, r.2 * 55 / 100)
      if l.rxEnable && l.txOn then sdiRow (max (s.rxPowerClass lane) t)
      else if l.rxEnable then half (sdiRow (s.rxPowerClass lane))
      else if l.txOn then half (sdiRow t)
      else idle

/-- The state byte of LANE_INFO (R118; log 41). -/
def State.laneState (lane : Nat) (s : State) : Nat :=
  let l := s.lane lane
  if s.group 0 = .dormant || s.power.state = .dormant then (if bit s.power.octantMask (lane / 8) then 1 else 0)
  else
    match l.role with
    | .none => 1
    | .sdi => if l.rxEnable && l.txOn then 3 else if l.rxEnable then 2 else if l.txOn then 5 else 1
    | .eth => if s.eth.macs.has (fun _ m => m.linkUp && m.lanes.contains lane) then 4 else 3
    | .voxad =>
      let ls := s.linksOn lane
      if ls.any (fun n => (s.link n).state = .up) then 4
      else if ls.any (fun n => (s.link n).state != .off && (s.link n).state != .down) then 3 else 1

def State.laneInfo (lane : Nat) (s : State) : List Byte :=
  let l := s.lane lane
  leBytes 2 lane ++ bytes [l.role.code, s.laneState lane, l.rxBond + 16 * l.txBond, flag (s.octantFamily (lane / 8))]
    ++ leBytes 2 (cdiv (s.lanePower lane).1 100)

def laneInfoBody : Body := fun rq s =>
  let p := rq.payload
  if p.length != 4 || u16 p 2 = 0 || u16 p 0 + u16 p 2 > 256 then fail stBadParam s
  else okWith (leBytes 2 (u16 p 2) ++ zeros 2 ++ (laneRange (u16 p 0) (u16 p 2)).flatMap (fun n => s.laneInfo n)) s

def execLaneInfo (rq : Request) (s : State) : Out := .next (command 0x200A laneInfoBody rq s)

/-- A receive status record (R110). -/
def State.rxRecord (lane : Nat) (s : State) : List Byte :=
  let l := s.lane lane
  let r := l.rx
  leBytes 2 lane
    ++ bytes [flag r.carrier + 2 * flag r.cdr + 4 * flag r.locked + 8 * flag r.pidValid + 16 * flag r.bondOk + 32 * flag r.atcPresent
        + 64 * flag r.pidMismatch, r.rateClass, flag r.family, r.format, r.carriage, 0]
    ++ leBytes 4 r.payloadId ++ leBytes 4 r.crcErrors.toNat ++ leBytes 2 r.trsErrors.toNat ++ leBytes 2 r.ancErrors.toNat
    ++ leBytes 4 r.timecode.toNat ++ leInt 2 r.phase
    ++ leBytes 2 (if l.rxBond != 0 && l.rxBondFirst = lane then r.skew else 0) ++ leBytes 4 r.relocks.toNat

def sdiRxStatusBody : Body := fun rq s =>
  let p := rq.payload
  if p.length != 4 || u16 p 2 = 0 || u16 p 2 > 127 || u16 p 0 + u16 p 2 > 256 then fail stBadParam s
  else okWith (leBytes 2 (u16 p 2) ++ zeros 2 ++ (laneRange (u16 p 0) (u16 p 2)).flatMap (fun n => s.rxRecord n)) s

def execSdiRxStatus (rq : Request) (s : State) : Out := .next (command 0x200B sdiRxStatusBody rq s)

/-! What a receiver sees. -/

/-- Whether an SDI receiver may lock at a class: switched on, enabled and valid (R101, R107, R109). -/
def State.mayLock (lane k : Nat) (s : State) : Bool :=
  let l := s.lane lane
  l.role = .sdi && l.rxEnable && k ≤ 4 && bit l.rxRates k && (s.entryFor l.rxEntry lane k).valid && s.group 0 != .dormant
    && s.power.state != .dormant

/-- A receiver locks and knows its format (R101, R119). No payload ID has been read yet: level A, two-sample interleave and
4:2:2 10-bit are taken (R102). -/
def rxLock (lane k : Nat) (family : Bool) (format carriage : Nat) (s : State) : State :=
  if (s.lane lane).rx.locked || !s.mayLock lane k then s
  else
    let s := s.onLane lane (fun l => { l with
      equaliser := k, rxEntry := s.entryFor l.rxEntry lane k,
      rx := { l.rx.unlocked with
              carrier := true, cdr := true, locked := true, rateClass := k, family := family, format := format,
              carriage := carriage % 4, relocks := if l.rx.cdr then l.rx.relocks else l.rx.relocks + 1 } })
    (s.checkBond lane).raise 6 1 lane (bytes [k, format, carriage % 4])

def execRxLock (lane rateClass : Nat) (family : Bool) (format carriage : Nat) (s : State) : Out :=
  .next (rxLock lane rateClass family format carriage s)

def execRxLoss (lane cause : Nat) (s : State) : Out := .next (s.rxLost lane cause)

/-- The measured format changes within its rate class while lock is kept (R102): level B and division stay as the payload ID
gave them. -/
def execFormatChange (lane format carriage : Nat) (s : State) : Out :=
  let r := (s.lane lane).rx
  let within := format = 0 || formatClass format (carriage % 4) = some r.rateClass
  .next (if !r.locked || !within || (r.format = format && r.carriage % 4 = carriage % 4) then s
    else
      (s.onLane lane (fun l => { l with
        rx := { l.rx with format := format, carriage := carriage % 4 + r.carriage / 4 * 4, measured := false, inBand := 0 } })).raise 6 3 lane
        (bytes [r.format, format]))

/-- An ST 352 payload ID (R99, R102): sampling, division and level B come from it; a disagreement is reported. -/
def payloadId (lane : Nat) (valid : Bool) (id format : Nat) (sampling422 : Bool) (carriage : Nat) (s : State) : State :=
  let r := (s.lane lane).rx
  if !r.locked then s
  else if !valid then
    s.onLane lane (fun l => { l with
      rx := { l.rx with pidValid := false, pidMismatch := false, sampling422 := true, carriage := r.carriage % 4 } })
  else
    let bad := format != r.format || carriage % 4 != r.carriage % 4
    let s := s.onLane lane (fun l => { l with
      rx := { l.rx with pidValid := true, pidMismatch := bad, payloadId := id, sampling422 := sampling422,
                        carriage := r.carriage % 4 + carriage / 4 % 4 * 4 } })
    if bad && !r.pidMismatch then s.raise 6 5 lane (leBytes 4 id ++ bytes [r.format]) else s

def execPayloadIdReceived (lane : Nat) (valid : Bool) (id : Nat) (format : Nat) (sampling422 : Bool) (carriage : Nat)
    (s : State) : Out := .next (payloadId lane valid id format sampling422 carriage s)

/-- A bond's skew (R104): `member` says that a member is missing. Beyond 128 words, or without a member, the bond is lost. -/
def bondSkew (lane skew : Nat) (member : Bool) (s : State) : State :=
  let l := s.lane lane
  if l.rxBond = 0 || l.rxBondFirst != lane then s
  else
    let s := s.onLane lane (fun l => { l with rx := { l.rx with skew := skew } })
    if !member && skew ≤ 128 then s.checkBond lane
    else if !l.rx.bondOk then s
    else
      (each (s.rxMembers lane) (fun i s => s.onLane i (fun l => { l with rx := { l.rx with bondOk := false } })) s).raise 6 4
        lane (leBytes 2 (if member then 0xFFFF else skew))

def execBondSkew (lane skew : Nat) (member : Bool) (s : State) : Out := .next (bondSkew lane skew member s)

end Sys2Proof.Machine
end

