-- ==== Sys2Proof/Machine/Memory.lean ====
section
/-! DEFINITION. The memory commands and what memory brings (R276 to R305): plates and their table, background DMA, the
walker, the scrubber, remote-DMA messages and the bus matrix. -/

namespace Sys2Proof.Machine

/-! Plates (R282, R287). -/

def firstGeneral : Nat := 32768
def endGeneral : Nat := 47104

/-- A plate reference as a reply gives it (R305). -/
def State.plateRef (p : Nat) (s : State) : List Byte := leBytes 4 (p + (s.generation p).toNat * 2 ^ 24)

def plateAllocBody : Body := fun rq s =>
  let p := rq.payload
  let n := u16 p 0
  if p.length != 4 || n = 0 || n > 512 || !zeroAt p 2 2 then fail stBadParam s
  else if s.mem.plates.length + n > endGeneral - firstGeneral then fail stResource s
  else
    let used := s.mem.plates.keys
    let got := pickPlates used (n + used.length) firstGeneral n
    let s := each got (fun k s => s.onMem (fun m => { m with plates := m.plates.put k { state := .allocated } })) s
    okWith (leBytes 2 n ++ zeros 2 ++ got.flatMap (fun k => s.plateRef k)) s

def execPlateAlloc (rq : Request) (s : State) : Out := .next (command 0x8001 plateAllocBody rq s)

/-- A general plate number. -/
def isGeneral (p : Nat) : Bool := firstGeneral ≤ p && p < endGeneral

/-- A general plate freed (R282): its generation moves on and its zeroing begins. -/
def State.freePlate (p : Nat) (s : State) : State :=
  s.onMem (fun m => { m with
    plates := m.plates.put p { state := .zeroing },
    generations := m.generations.upd p m.bootGeneration (fun g => g + 1) })

def plateFreeBody : Body := fun rq s =>
  let p := rq.payload
  let n := u16 p 0
  let ps := (records p 4 4 n).map (fun r => u32 r 0)
  if p.length < 4 || n = 0 || n > 1000 || p.length != 4 + 4 * n || !zeroAt p 2 2 || !ps.all isGeneral || !distinct ps then
    fail stBadParam s
  else if ps.any (fun k => (s.plate k).state != .allocated || (s.plate k).mapCount != 0) then fail stWrongState s
  else ok (each ps State.freePlate s)

def execPlateFree (rq : Request) (s : State) : Out := .next (command 0x8002 plateFreeBody rq s)

/-- A freed plate finishes zeroing and may be allocated (R282). -/
def execPlateZeroed (plate : Nat) (s : State) : Out :=
  .next (if (s.plate plate).state = .zeroing then
    s.onMem (fun m => { m with
      plates := m.plates.del plate, dram := m.dram.clear (plate * plateBytes) plateBytes,
      poison := m.poison.filter (fun l => l / plateBytes != plate) })
  else s)

/-! The plate table (R281, R283, R284). -/

/-- A pinned real-time entry that an audio buffer or a delay line uses (R283). -/
def State.entryInUse (va : Nat) (s : State) : Bool :=
  let touches (base n : Nat) : Bool := base / plateBytes ≤ va && va ≤ (base + n - 1) / plateBytes
  let bytesOf (b : AudioBuf) : Nat := b.frames * b.count * (if b.packing = 0 then 3 else 4)
  let rt := match s.mem.tables.get? va with
    | some e => e.pinned && e.rt
    | none => false
  rt && (s.audio.captures.has (fun _ b => b.count != 0 && touches b.base (bytesOf b))
    || s.audio.playouts.has (fun _ b => b.count != 0 && touches b.base (bytesOf b))
    || s.chord.lines.has (fun _ l => l.ring != 0 && touches l.base (4 * l.ring)))

/-- An entry removed, with its map count and its cache line (R282, R284). -/
def State.unmapEntry (va : Nat) (s : State) : State :=
  match s.mem.tables.get? va with
  | none => s
  | some e =>
    let dec (p : Plate) : Plate := { p with mapCount := p.mapCount - 1 }
    s.onMem (fun m => { m with
      tables := m.tables.del va, cache := m.cache.erase va,
      plates := if !e.remote && isGeneral e.plate then m.plates.upd e.plate {} dec else m.plates })

/-- Unpinned ways of a set beyond what its pins leave are given up, least recently used first (R285). -/
def trimSet (tables : Tbl Pte) (cache : List Nat) (set : Nat) : List Nat :=
  let pins := tables.count (fun va e => e.pinned && va % 512 = set)
  let keep := (cache.filter (fun v => v % 512 = set)).take (8 - pins)
  cache.filter (fun v => v % 512 != set || keep.contains v)

/-- An entry written, with its map count; a line that the cache held is replaced (R284). -/
def State.mapEntry (va : Nat) (e : Pte) (s : State) : State :=
  let held := s.mem.cache.contains va
  let s := s.unmapEntry va
  let inc (p : Plate) : Plate := { p with mapCount := p.mapCount + 1 }
  s.onMem (fun m =>
    let tables := m.tables.put va e
    let cache := if held && !e.pinned then va :: m.cache else m.cache
    { m with
      tables := tables, cache := trimSet tables cache (va % 512),
      plates := if !e.remote && isGeneral e.plate then m.plates.upd e.plate {} inc else m.plates })

/-- Whether pins stay within R285 once `new` VA plates are pinned and the others of a run are not. -/
def State.pinsOk (run : List Nat) (pinned : Bool) (s : State) : Bool :=
  let kept := (s.mem.tables.filter (fun e => e.2.pinned && !run.contains e.1)).map (·.1)
  let all := kept ++ (if pinned then run else [])
  all.length ≤ 2048 && all.all (fun v => (all.filter (fun w => w % 512 = v % 512)).length ≤ 6)

def plateMapBody : Body := fun rq s =>
  let p := rq.payload
  let va := u64 p 0
  let n := u16 p 8
  let f := u16 p 10
  let remote := bit f 3
  let node := u16 p 12
  let plate := u32 p 16
  let first := va / plateBytes
  let run := (List.range n).map (fun i => first + i)
  let entry (i : Nat) : Pte :=
    { writable := bit f 0, pinned := bit f 1, rt := bit f 2, remote := remote, node := node, plate := plate + i,
      generation := if bit f 4 then s.generation (plate + i) else BitVec.ofNat 8 (u8 p 14) }
  if p.length != 24 || va % plateBytes != 0 || n = 0 || n > 1024 || first + n > 2 ^ 27 || f > 31 || !zeroAt p 15 1
      || plate + n > 2 ^ 21 || !zeroAt p 20 4 || (bit f 2 && (!bit f 1 || remote)) || (bit f 4 && remote)
      || (if remote then node = 0 || node ≥ 0x3FFF || node = s.node
          else node != 0 || plate + n > endGeneral || (bit f 0 && plate < firstGeneral)) then fail stBadParam s
  else if (!remote && (List.range n).any (fun i =>
        isGeneral (plate + i) && (s.plate (plate + i)).state != .allocated))
      || run.any (fun v => s.entryInUse v) then fail stWrongState s
  else if !s.pinsOk run (bit f 1) then fail stResource s
  else
    let s := each (List.range n) (fun i s => s.mapEntry (first + i) (entry i)) s
    ok (each (s.mem.channels.filter (fun e => e.2.state = .parked && (e.2.cause = 1 || e.2.cause = 2 || e.2.cause = 4)
        && run.contains (e.2.faultVa / plateBytes))) (fun e s => s.dmaResume e.1) s)

def execPlateMap (rq : Request) (s : State) : Out := .next (command 0x8003 plateMapBody rq s)

def plateUnmapBody : Body := fun rq s =>
  let p := rq.payload
  let va := u64 p 0
  let n := u16 p 8
  let run := (List.range n).map (fun i => va / plateBytes + i)
  if p.length != 16 || va % plateBytes != 0 || n = 0 || n > 1024 || va / plateBytes + n > 2 ^ 27 || !zeroAt p 10 6 then
    fail stBadParam s
  else if run.any (fun v => s.entryInUse v) then fail stWrongState s
  else ok (each run State.unmapEntry s)

def execPlateUnmap (rq : Request) (s : State) : Out := .next (command 0x8004 plateUnmapBody rq s)

/-- A plate table entry as its 8 bytes (R281). -/
def pteBytes (e : Option Pte) : List Byte :=
  match e with
  | none => zeros 8
  | some e =>
    leBytes 4 (1 + 2 * flag e.writable + 4 * flag e.pinned + 8 * flag e.rt + 16 * flag e.remote
      + e.generation.toNat * 2 ^ 8 + e.node % 2 ^ 14 * 2 ^ 16) ++ leBytes 4 (e.plate % 2 ^ 21)

def plateReadBody : Body := fun rq s =>
  let p := rq.payload
  let va := u64 p 0
  let n := u16 p 8
  if p.length != 16 || va % plateBytes != 0 || n = 0 || n > 500 || va / plateBytes + n > 2 ^ 27 || !zeroAt p 10 6 then
    fail stBadParam s
  else okWith (leBytes 2 n ++ zeros 6 ++ (List.range n).flatMap (fun i =>
    pteBytes (s.mem.tables.get? (va / plateBytes + i)))) s

def execPlateRead (rq : Request) (s : State) : Out := .next (command 0x8005 plateReadBody rq s)

def plateExportBody : Body := fun rq s =>
  let p := rq.payload
  let n := u16 p 4
  let ps := (List.range n).map (fun i => u32 p 0 + i)
  if p.length != 8 || n = 0 || n > 1024 || u8 p 6 > 2 || !zeroAt p 7 1 || !ps.all isGeneral then fail stBadParam s
  else if ps.any (fun k => (s.plate k).state != .allocated) then fail stWrongState s
  else ok (each ps (fun k s =>
    s.onMem (fun m => { m with plates := m.plates.upd k {} (fun x => { x with mode := u8 p 6 }) })) s)

def execPlateExport (rq : Request) (s : State) : Out := .next (command 0x8006 plateExportBody rq s)

def frameStoreInfoBody : Body := fun rq s =>
  let p := rq.payload
  let src := u16 p 0
  if p.length != 4 || !zeroAt p 2 2 || !sourceOk src || src = 0xFFFF then fail stBadParam s
  else
    match s.lat.stores.get? src with
    | none => fail stWrongState s
    | some st =>
      let newest := match st.frames.find? (fun f => f.done) with
        | some f => f.seq % 3
        | none => 255
      okWith (leBytes 2 src ++ bytes [st.format, st.carriage, st.ppf, newest, 0, 0]
        ++ st.plates.flatMap (fun k => s.plateRef k)) s

def execFrameStoreInfo (rq : Request) (s : State) : Out := .next (command 0x8007 frameStoreInfoBody rq s)

/-! Background DMA (R292 to R296). -/

def parseDescriptor (p : List Byte) : Descriptor :=
  { fill := u8 p 0 = 1, srcSpace := u8 p 1 % 4, dstSpace := u8 p 1 / 4 % 4, length := u32 p 4, src := u64 p 8, dst := u64 p 16 }

/-- The field checks of a descriptor (R293). -/
def descriptorOk (p : List Byte) : Bool :=
  let d := parseDescriptor p
  let va (space a : Nat) : Bool := space != 0 || a < 2 ^ 48
  u8 p 0 ≤ 1 && u8 p 1 < 16 && d.srcSpace ≤ 2 && d.dstSpace ≤ 2 && zeroAt p 2 2 && zeroAt p 24 8
    && 4 ≤ d.length && d.length ≤ 1073741824 && d.length % 4 = 0 && d.dst % 4 = 0 && va d.dstSpace d.dst
    && (if d.fill then d.dstSpace = 0 && d.src < 2 ^ 32
        else d.src % 4 = 0 && va d.srcSpace d.src && !(d.srcSpace != 0 && d.dstSpace != 0)
          && !(d.srcSpace = 0 && d.dstSpace = 0 && d.src < d.dst + d.length && d.dst < d.src + d.length))

/-- Whether the PCIe link of a host side that a descriptor names is up (R293). -/
def State.hostUp (d : Descriptor) (s : State) : Bool :=
  let up (space : Nat) : Bool := if space = 1 then s.ports.cpa.linkUp else if space = 2 then s.ports.cpb.linkUp else true
  (d.fill || up d.srcSpace) && up d.dstSpace

/-- A channel starts its first job (R294). -/
def State.dmaStart (ch : Nat) (s : State) : State :=
  (s.onChan ch (fun c => { c with
    state := if c.jobs.isEmpty then .idle else .running, descIndex := 0, progress := 0 })).dmaKick ch

def dmaSubmitBody : Body := fun rq s =>
  let p := rq.payload
  let ch := u8 p 0
  let n := u8 p 1
  let rs := records p 4 32 n
  let ds := rs.map parseDescriptor
  let c := s.chan ch
  let queued := c.jobs.foldl (fun t j => t + j.descriptors.length) 0
  if p.length < 4 || ch < 48 || ch > 63 || n = 0 || n > 64 || p.length != 4 + 32 * n || !zeroAt p 2 2 || !rs.all descriptorOk then
    fail stBadParam s
  else if !ds.all (fun d => s.hostUp d) then fail stWrongState s
  else if queued + n > 64 then fail stBusy s
  else
    let s := s.onChan ch (fun c => { c with jobs := c.jobs ++ [{ descriptors := ds, handle := handleOf 0x8008 rq }] })
    accepted (if c.state = .idle then s.dmaStart ch else s)

def execDmaSubmit (rq : Request) (s : State) : Out := .next (command 0x8008 dmaSubmitBody rq s)

/-- A channel's current job ended with its completion, and the next started (R294, R296). -/
def State.dmaEnd (ch status cause va : Nat) (s : State) : State :=
  let c := s.chan ch
  match c.jobs with
  | [] => s
  | j :: r =>
    ((s.onChan ch (fun c => { c with jobs := r })).complete j.handle status
      (bytes [ch, cause] ++ leBytes 2 c.descIndex ++ zeros 4 ++ leBytes 8 j.moved ++ leBytes 8 va)).dmaStart ch

def execDmaJobDone (channel : Nat) (s : State) : Out :=
  let c := s.chan channel
  .next (match c.jobs with
    | [] => s
    | j :: _ => if c.state = .running && c.descIndex ≥ j.descriptors.length then s.dmaEnd channel stOk 0 0 else s)

def execDmaBurstDone (channel : Nat) (seen : BurstSeen) (s : State) : Out :=
  .next (match seen with
    | .moved data => s.dmaBurst channel data
    | .faulted cause va => s.dmaPark channel cause va)

/-- Remote messages of a channel that nothing waits for any more. -/
def State.dmaForget (ch : Nat) (s : State) : State :=
  s.onVox (fun v => { v with links := v.links.map (fun _ l => { l with
    outstanding := l.outstanding.filter (fun t => t.dmaChannel != some ch),
    waiting := l.waiting.filter (fun t => t.dmaChannel != some ch) }) })

/-- DMA_CONTROL (R296, R305): 0 RESUME, 1 SKIP, 2 ABORT. -/
def dmaControlBody : Body := fun rq s =>
  let p := rq.payload
  let ch := u8 p 0
  let op := u8 p 1
  let c := s.chan ch
  if p.length != 4 || ch < 48 || ch > 63 || op > 2 || !zeroAt p 2 2 then fail stBadParam s
  else if op != 2 && c.state != .parked then fail stWrongState s
  else if op = 2 && c.state = .idle then fail stWrongState s
  else if op = 0 then ok (s.dmaResume ch)
  else if op = 1 then
    match c.current with
    | none => ok (s.dmaResume ch)
    | some d => ok ((s.dmaPass ch (s.dmaSize d c.progress)).dmaResume ch)
  else
    let cause := if c.state = .parked then c.cause else 0
    let st := if cause = 7 then stLinkLost else if cause = 8 then stTimeout else stWrongState
    ok ((s.dmaForget ch).dmaEnd ch st cause (if c.state = .parked then c.faultVa else 0))

/-- A DMA_CONTROL request whose op is a row's own. -/
def withOp (op : Nat) (rq : Request) : Request :=
  { rq with payload := rq.payload.take 1 ++ bytes [op] ++ rq.payload.drop 2 }

def execDmaControlResume (rq : Request) (s : State) : Out := .next (command 0x8009 dmaControlBody (withOp 0 rq) s)
def execDmaControlSkip (rq : Request) (s : State) : Out := .next (command 0x8009 dmaControlBody (withOp 1 rq) s)
def execDmaControlAbort (rq : Request) (s : State) : Out := .next (command 0x8009 dmaControlBody (withOp 2 rq) s)

def DmaState.code : DmaState → Nat
  | .idle => 0
  | .running => 1
  | .parked => 2

/-- Whether the consumer of a real-time channel runs (R291). -/
def State.consumerRuns (ch : Nat) (s : State) : Bool :=
  if ch < 32 then (List.range 8).any (fun i => (s.lane (8 * ch + i)).role != .none)
  else if ch < 40 then s.imp.sheets.has (fun _ h => h.enabled)
  else if ch < 44 then s.audio.captures.has (fun _ b => b.count != 0) || s.audio.playouts.has (fun _ b => b.count != 0)
  else s.chord.lines.has (fun _ l => l.ring != 0)

/-- The DMA_STATUS reply (R305). The bytes that real-time channels have moved are free: their traffic is not held (log 53). -/
def State.dmaStatus (ch : Nat) (s : State) : List Byte × State :=
  let c := s.chan ch
  let st := if ch < 48 then flag (s.consumerRuns ch) else c.state.code
  let (total, s) := if ch < 48 then s.freeBytes 8 else (leBytes 8 c.bytesTotal.toNat, s)
  (bytes [ch, st, c.cause, c.jobs.length] ++ leBytes 2 c.descIndex
    ++ leBytes 2 (c.jobs.foldl (fun t j => t + j.descriptors.length) 0) ++ leBytes 8 c.progress ++ leBytes 8 c.faultVa
    ++ total, s)

def dmaStatusBody : Body := fun rq s =>
  let p := rq.payload
  if p.length != 4 || u8 p 0 > 63 || !zeroAt p 1 3 then fail stBadParam s
  else
    let (b, s) := s.dmaStatus (u8 p 0)
    okWith b s

def execDmaStatus (rq : Request) (s : State) : Out := .next (command 0x800A dmaStatusBody rq s)

/-! Stacks, cache and matrix status (R305). -/

def State.stack (s : State) (n : Nat) : Stack := s.mem.dramStacks.at n {}
def State.onStack (s : State) (n : Nat) (f : Stack → Stack) : State :=
  s.onMem (fun m => { m with dramStacks := m.dramStacks.upd n {} f })

/-- Lines of one stack (R276, R279). -/
def stackLines : Nat := 96 * 2 ^ 30 / 4 / 64

/-- The MEM_STATUS reply (R305). rt_peak is free: real-time traffic is not held (log 53). -/
def State.memStatus (n : Nat) (s : State) : List Byte × State :=
  let k := s.stack n
  let (peak, s) := s.freeBytes 4
  (bytes [n, flag k.trained, 0, 0] ++ leBytes 4 k.corrected.toNat ++ leBytes 4 k.uncorrected.toNat
    ++ leBytes 4 k.scrubPasses.toNat ++ leBytes 2 (k.scrubDone * 10000 / stackLines) ++ zeros 2 ++ peak ++ leBytes 8 k.lastUe, s)

def memStatusBody : Body := fun rq s =>
  let p := rq.payload
  if p.length != 4 || u8 p 0 > 3 || !zeroAt p 1 3 then fail stBadParam s
  else
    let (b, s) := s.memStatus (u8 p 0)
    okWith b s

def execMemStatus (rq : Request) (s : State) : Out := .next (command 0x800B memStatusBody rq s)

def memConfigBody : Body := fun rq s =>
  let p := rq.payload
  if p.length != 4 || u8 p 0 = 0 || u8 p 0 > 24 || !zeroAt p 1 3 then fail stBadParam s
  else ok (s.onMem (fun m => { m with scrubHours := u8 p 0 }))

def execMemConfig (rq : Request) (s : State) : Out := .next (command 0x800C memConfigBody rq s)

def State.cacheStatus (s : State) : List Byte :=
  let m := s.mem
  let pinned := m.tables.count (fun _ e => e.pinned)
  leBytes 2 (m.cache.length + pinned) ++ leBytes 2 pinned ++ bytes [m.walks.length, 0] ++ leBytes 2 m.walkQueue.length
    ++ leBytes 4 m.hits.toNat ++ leBytes 4 m.misses.toNat ++ leBytes 4 m.walkFaults.toNat
    ++ leBytes 2 (endGeneral - firstGeneral - m.plates.length) ++ zeros 2

def cacheStatusBody : Body := fun rq s =>
  if rq.payload.length != 0 then fail stBadParam s else okWith s.cacheStatus s

def execCacheStatus (rq : Request) (s : State) : Out := .next (command 0x800D cacheStatusBody rq s)

def MatrixWhy.code : MatrixWhy → Nat
  | .none => 0
  | .startup => 1
  | .proof => 2
  | .recovery => 3

def matrixStatusBody : Body := fun rq s =>
  let m := s.mem
  if rq.payload.length != 0 then fail stBadParam s
  else okWith (bytes [flag (m.matrixWhy != .none), m.matrixWhy.code, flag m.remap, 0] ++ leBytes 4 m.decodeErrors.toNat
    ++ leBytes 4 m.timeouts.toNat ++ bytes m.outstanding) s

def execMatrixStatus (rq : Request) (s : State) : Out := .next (command 0x800E matrixStatusBody rq s)

/-! The walker and the scrubber (R278, R279, R286, R298). -/

/-- A plate walk ends: a way filled, or a fault that every request that joined it takes (R286, R298). -/
def walkDone (va : Nat) (poisoned : Bool) (s : State) : State :=
  let p := va / plateBytes
  if !s.mem.walks.contains p then s
  else
    let s := s.onMem (fun m => { m with
      walks := m.walks.erase p ++ m.walkQueue.take 1, walkQueue := m.walkQueue.drop 1 ++ m.walkHeld.take 1,
      walkHeld := m.walkHeld.drop 1 })
    let cause := if poisoned then 10 else
      match s.mem.tables.get? p with
      | none => 1
      | some e => if !e.remote && e.plate ≥ endGeneral then 9 else 0
    if cause = 0 then
      s.onMem (fun m => { m with cache := trimSet m.tables (p :: m.cache.erase p) (p % 512) })
    else
      let s := (s.onMem (fun m => { m with walkFaults := m.walkFaults + 1 })).fault 0x1C0 (0x40 + cause) va
      each s.mem.channels (fun e s =>
        match e.2.current with
        | none => s
        | some d =>
          let src := d.src + e.2.progress
          let dst := d.dst + e.2.progress
          if !d.fill && d.srcSpace = 0 && src / plateBytes = p then s.dmaPark e.1 cause src
          else if d.dstSpace = 0 && dst / plateBytes = p then s.dmaPark e.1 cause dst else s) s

def execWalkDone (va : Nat) (poisonedTable : Bool) (s : State) : Out := .next (walkDone va poisonedTable s)

/-- What an ECC check of the DRAM line at a local offset finds, counted for the stack that holds it (R21, R278). -/
def State.eccSeen (offset : Nat) (seen : EccSeen) (s : State) : State :=
  let stack := dramStack offset
  match seen with
  | .clean => s
  | .corrected => (s.onStack stack (fun k => { k with corrected := k.corrected + 1 })).fault (0x1C2 + stack) 1 offset
  | .uncorrectable =>
    let line := offset / 64 * 64
    let s := s.onStack stack (fun k => { k with uncorrected := k.uncorrected + 1, lastUe := line })
    let s := s.onTwin (fun t => { t with eccFound := t.eccFound + 1 })
    (s.onMem (fun m => { m with poison := if m.poison.contains line then m.poison else m.poison ++ [line] })).fault
      (0x1C2 + stack) 2 line

/-- The scrubber of a line's stack reads it (R21, R279). -/
def execScrubRead (offset : Nat) (seen : EccSeen) (at_ : Nat) (s : State) : Out :=
  .next (((s.advance at_).onStack (dramStack offset) (fun k =>
    if k.scrubDone + 1 ≥ stackLines then { k with scrubDone := 0, scrubPasses := k.scrubPasses + 1 }
    else { k with scrubDone := k.scrubDone + 1 })).eccSeen offset seen)

/-! Remote-DMA messages (R287 to R289). -/

/-- A link transaction header (R179). -/
structure TxHead where
  txid : Nat
  kind : Nat
  path : Nat
  hops : Nat
  content : Nat
  bytes : Nat
deriving DecidableEq, Repr

def parseTx (b : List Byte) : TxHead :=
  { txid := u16 b 0 % 1024, kind := u16 b 0 / 1024 % 4, path := u16 b 0 / 4096 % 2, hops := u8 b 2, content := u8 b 3,
    bytes := u16 b 4 }

/-- A valid transaction header with as many bytes behind it as it says (R179). -/
def txOk (b : List Byte) : Bool :=
  let h := parseTx b
  8 ≤ b.length && u16 b 6 = crc16 (b.take 6) && h.kind != 3 && u16 b 0 < 0x2000 && h.content ≤ 1 && b.length = 8 + h.bytes

/-- Whether a remote-DMA message is intact (R288, R289). -/
def dmaMessageOk (m : List Byte) : Bool :=
  let op := u8 m 0
  let withData := (op = 2 && u8 m 1 = 0) || op = 3
  24 ≤ m.length && 1 ≤ op && op ≤ 4 && u32 m 16 = crc32c (m.take 16 ++ m.drop 24)
    && m.length = 24 + (if withData then u16 m 2 else 0)

/-- A remote-DMA message sent as the RESPONSE of a transaction (R288). -/
def State.dmaRespond (link txid : Nat) (m : List Byte) (s : State) : State :=
  s.putLink link 2 (txHeader txid 1 0 8 1 m.length ++ m)

/-- The result with which a target answers a request, 0 OK (R287, R289). -/
def State.dmaCheck (write : Bool) (plate : Nat) (generation : Byte) (off n : Nat) (s : State) : Nat :=
  if plate ≥ endGeneral || off + n > plateBytes || off % 4 != 0 || n % 4 != 0 || n < 4 || n > 4096 then 4
  else if s.generation plate != generation then 1
  else if plate < firstGeneral then (if write then 2 else if (s.poisonIn (plate * plateBytes + off) n).isEmpty then 0 else 3)
  else
    let p := s.plate plate
    if p.state != .allocated || p.mode = 0 || (write && p.mode != 2) then 2
    else if !write && !(s.poisonIn (plate * plateBytes + off) n).isEmpty then 3 else 0

/-- A request served at its target (R289). In ordered mode none is served (R302). -/
def State.dmaServe (link txid : Nat) (m : List Byte) (s : State) : State :=
  let write := u8 m 0 = 3
  let plate := u32 m 8 % 2 ^ 21
  let g := BitVec.ofNat 8 (u32 m 8 / 2 ^ 24)
  let off := u32 m 12 % 2 ^ 21
  let n := u16 m 2
  if s.mem.matrixWhy != .none || s.twin.role = .standby then s
  else
    let r := s.dmaCheck write plate g off n
    let answer (data : List Byte) : List Byte :=
      dmaMessage (if write then 4 else 2) r n (u16 m 6) s.node plate g off data
    if r != 0 then s.dmaRespond link txid (answer [])
    else if write then (s.dramWrite (plate * plateBytes + off) (m.drop 24)).dmaRespond link txid (answer [])
    else
      let (data, s) := s.dramRead (plate * plateBytes + off) n
      s.dmaRespond link txid (answer data)

/-- The cause of a remote result (R288, R295). -/
def resultCause (r : Nat) : Nat := if r = 1 then 4 else if r = 2 then 5 else if r = 3 then 6 else 9

/-- An answer at the requesting channel (R288). -/
def State.dmaAnswered (ch : Nat) (m : List Byte) (s : State) : State :=
  let c := s.chan ch
  match c.current with
  | none => s
  | some d =>
    if u8 m 1 != 0 then
      s.dmaPark ch (resultCause (u8 m 1)) (if u8 m 0 = 2 then d.src + c.progress else d.dst + c.progress)
    else if u8 m 0 = 2 then s.dmaStore ch (m.drop 24)
    else (s.dmaAdvance ch (u16 m 2)).dmaKick ch

/-- A remote-DMA message behind its transaction header (R177, R179, R288, R289): served, forwarded or mapped back. -/
def State.remoteDma (link : Nat) (b : List Byte) (s : State) : State :=
  let h := parseTx b
  let m := b.drop 8
  let role := (s.link link).role
  if (s.link link).state != .up then s
  else if !txOk b || h.content != 1 || !dmaMessageOk m then s.hopDrop
  else if h.kind = 1 then
    match s.findTxn link 2 h.txid with
    | none => s.hopDrop
    | some t =>
      let s := s.closeTxn link t
      match t.inLink, t.dmaChannel with
      | some l, _ => s.dmaRespond l t.inTxid m
      | none, some ch => s.dmaAnswered ch m
      | none, none => s
  else if u16 m 4 = s.node && s.node != 0 then s.dmaServe link h.txid m
  else if role = .trunk || role = .twin || h.hops = 0 then s.hopDrop
  else
    match s.routeLink (u16 m 4) h.path with
    | none => s
    | some l => s.openTxn l { txid := 0, vc := 2, inLink := some link, inTxid := h.txid, packet := m, content := 1,
                              path := h.path, hops := h.hops - 1 }

def execReadReq (link : Nat) (message : List Byte) (s : State) : Out :=
  .next (s.receiveBlocks link 2 (blocksOf message.length) (State.remoteDma link message))
def execReadData (link : Nat) (message : List Byte) (s : State) : Out :=
  .next (s.receiveBlocks link 2 (blocksOf message.length) (State.remoteDma link message))
def execWriteReq (link : Nat) (message : List Byte) (s : State) : Out :=
  .next (s.receiveBlocks link 2 (blocksOf message.length) (State.remoteDma link message))
def execWriteAck (link : Nat) (message : List Byte) (s : State) : Out :=
  .next (s.receiveBlocks link 2 (blocksOf message.length) (State.remoteDma link message))

/-! The bus matrix (R299 to R303). -/

def masterIndex : Master → Nat
  | .core => 0
  | .rtDma => 1
  | .bgDma => 2
  | .walker => 3
  | .proof => 4
  | .voxad => 5
  | .bridge => 6
  | .folio => 7

/-- HOLD sent on every UP link for a VC mask (R163, R302, R411). -/
def State.holdLinks (mask us : Nat) (s : State) : State :=
  each (s.vox.links.filter (fun e => e.2.state = .up)) (fun e s =>
    (s.onLink e.1 (fun l => { l with holding := mask, holdUntil := s.now + us * 1000 })).sendControl e.1
      (bytes [2, mask] ++ leBytes 2 us)) s

/-- HOLD 0 in two consecutive CONTROL blocks on every link that holds (R163). -/
def State.releaseLinks (s : State) : State :=
  each (s.vox.links.filter (fun e => e.2.holding != 0)) (fun e s =>
    let s := if e.2.state = .up then s.controlTwice e.1 (bytes [2, e.2.holding, 0, 0]) else s
    s.onLink e.1 (fun l => { l with holding := 0, holdUntil := 0 })) s

/-- Whether the folio engine writes flash: a store whose checks passed, or a copy to the golden slot (R406, R408). -/
def State.flashWriting (s : State) : Bool :=
  s.life.store.any (fun j => if j.golden then s.life.running ≤ 1 else j.reason = 0)

/-- VC2 is held or released as the two causes of R163 stand: ordered mode, or the folio engine writing flash; a folio pause
holds by its own time (R411). -/
def State.judgeHold (s : State) : State :=
  let want : Bool := s.mem.matrixWhy != .none || s.flashWriting
  if s.life.paused.isSome then s
  else if want then
    if s.vox.links.all (fun e => e.2.state != .up || e.2.holding = 4) then s else s.holdLinks 4 65535
  else s.releaseLinks

/-- The matrix enters ordered mode: VC2 is held while it lasts (R163, R302; log 54). -/
def State.matrixOrdered (why : MatrixWhy) (s : State) : State :=
  (s.onMem (fun m => { m with matrixWhy := why })).holdLinks 4 65535

/-- The matrix leaves ordered mode (R302). -/
def State.matrixService (s : State) : State := (s.onMem (fun m => { m with matrixWhy := .none })).judgeHold

/-- A request not completed in 100 us (R303). -/
def execMatrixTimeout (master : Master) (address : Nat) (s : State) : Out :=
  .next (((s.onMem (fun m => { m with timeouts := m.timeouts + 1 })).matrixOrdered .recovery).fault 0x1C1 0x51
    (masterIndex master * 2 ^ 45 + address % 2 ^ 45))

/-- A request on a path or an address that the matrix does not provide (R299, R300, R303). -/
def execDecodeError (master : Master) (address : Nat) (s : State) : Out :=
  .next ((s.onMem (fun m => { m with decodeErrors := m.decodeErrors + 1 })).fault 0x1C1 0x50
    (masterIndex master * 2 ^ 45 + address % 2 ^ 45))

/-- The control core releases the matrix from recovery (R302). -/
def execMatrixRecoveryRelease (s : State) : Out :=
  .next (if s.mem.matrixWhy = .recovery then s.matrixService else s)

end Sys2Proof.Machine
end

