-- ==== Sys2Proof/Machine/AudioOps.lean ====
section
/-! DEFINITION. Sample time (R212), channel domains (R204), gain (R226, R227), real-time memory accesses (R297), bridges
(R209) and where a source channel's samples come from. -/

namespace Sys2Proof.Machine

/-! Sample time. -/

/-- Sample rate of a domain (R7, R212). -/
def domainRate (domB : Bool) : Nat := if domB then 96000 else 48000

/-- The sample index of an instant in a domain (R212). -/
def sampleIndex (domB : Bool) (t : Nat) : Nat := t * domainRate domB / sec

def State.index (domB : Bool) (s : State) : Nat := sampleIndex domB s.now

/-- The first whole ns at which an index has been reached. -/
def indexTime (domB : Bool) (i : Nat) : Nat := cdiv (i * sec) (domainRate domB)

/-- The first index at or after an instant that is a multiple of `n` (R212, R248). -/
def boundaryAt (domB : Bool) (n t : Nat) : Nat := cdiv (cdiv (t * domainRate domB) sec) n * n

/-! Objects of the audio path. -/

def State.aDest (s : State) (d : Nat) : AudioDest := s.audio.dests.at d {}
def State.onADest (s : State) (d : Nat) (f : AudioDest → AudioDest) : State :=
  s.onAudio (fun a => { a with dests := a.dests.upd d {} f })
def State.aSrc (s : State) (c : Nat) : AudioSrc := s.audio.srcs.at c {}
def State.onASrc (s : State) (c : Nat) (f : AudioSrc → AudioSrc) : State :=
  s.onAudio (fun a => { a with srcs := a.srcs.upd c {} f })
def State.aesPort (s : State) (out : Bool) (p : Nat) : AesPort :=
  (if out then s.audio.outputs else s.audio.inputs).at p {}
def State.onAes (s : State) (out : Bool) (p : Nat) (f : AesPort → AesPort) : State :=
  s.onAudio (fun a => if out then { a with outputs := a.outputs.upd p {} f } else { a with inputs := a.inputs.upd p {} f })
def State.paramSet (s : State) (n : Nat) : ParamSet := s.audio.sets.at n {}
def State.onSet (s : State) (n : Nat) (f : ParamSet → ParamSet) : State :=
  s.onAudio (fun a => { a with sets := a.sets.upd n {} f })

def AesPort.domB (p : AesPort) : Bool := p.mode = 1

/-- The channel ranges of R202 and R203. -/
def isAesCh (c : Nat) : Bool := 0x2000 ≤ c && c < 0x2080
def isBufCh (c : Nat) : Bool := 0x2080 ≤ c && c < 0x2100
def isPoolCh (c : Nat) : Bool := 0x2100 ≤ c && c < 0x3000
def isChordCh (c : Nat) : Bool := 0x3000 ≤ c && c < 0x3800
def isTrunkCh (c : Nat) : Bool := 0x3800 ≤ c && c < 0x4000

/-- The buffer that a buffer channel belongs to (R223). -/
def bufferOf (t : Tbl AudioBuf) (c : Nat) : Option (Nat × AudioBuf) :=
  t.find? (fun e => 0x2080 + e.2.first ≤ c && c < 0x2080 + e.2.first + e.2.count)

/-- The receive flow whose mapping holds a pool channel (R220). -/
def State.rxPool (c : Nat) (s : State) : Option (Nat × RxFlow) :=
  s.eth.rx.find? (fun e => match e.2.poolBase with
    | some b => 0x2100 + b ≤ c && c < 0x2100 + b + e.2.cfg.param && (e.2.cfg.kind = 2 || e.2.cfg.kind = 3)
    | none => false)

/-- The transmit flow whose mapping holds a pool channel (R220). -/
def State.txPool (c : Nat) (s : State) : Option (Nat × TxFlow) :=
  s.eth.tx.find? (fun e => match e.2.poolBase with
    | some b => 0x2100 + b ≤ c && c < 0x2100 + b + e.2.cfg.param && (e.2.cfg.kind = 2 || e.2.cfg.kind = 3)
    | none => false)

/-- The process whose output range holds a source channel (R246). -/
def State.processOut (c : Nat) (s : State) : Option (Nat × Process) :=
  s.chord.processes.find? (fun e => 0x3000 + e.2.outFirst ≤ c && c < 0x3000 + e.2.outFirst + e.2.outCount)

/-- The process whose input range holds a destination channel (R246). -/
def State.processIn (c : Nat) (s : State) : Option (Nat × Process) :=
  s.chord.processes.find? (fun e => 0x3000 + e.2.inFirst ≤ c && c < 0x3000 + e.2.inFirst + e.2.inCount)

/-- The domain of a source channel (R204): true for B. Channels of nothing mapped belong to A. -/
def State.srcDomB (c : Nat) (s : State) : Bool :=
  if isAesCh c then (s.aesPort false ((c - 0x2000) / 2)).domB
  else if isBufCh c then (match bufferOf s.audio.playouts c with | some b => b.2.rate96 | none => false)
  else if isPoolCh c then (match s.rxPool c with | some f => f.2.cfg.rate96 | none => false)
  else if isChordCh c then (match s.processOut c with | some p => p.2.domainB | none => false)
  else if isTrunkCh c then (s.audio.receives.at ((c - 0x3800) / 64) {}).rate96
  else false

/-- The domain of a destination channel (R204). -/
def State.dstDomB (c : Nat) (s : State) : Bool :=
  if isAesCh c then (s.aesPort true ((c - 0x2000) / 2)).domB
  else if isBufCh c then (match bufferOf s.audio.captures c with | some b => b.2.rate96 | none => false)
  else if isPoolCh c then (match s.txPool c with | some f => f.2.cfg.rate96 | none => false)
  else if isChordCh c then (match s.processIn c with | some p => p.2.domainB | none => false)
  else if isTrunkCh c then (s.audio.sends.at ((c - 0x3800) / 64) {}).rate96
  else false

/-- Bridges of one direction that a table of routes needs (R209). -/
def State.bridges (routes : List (Nat × AudioRoute)) (toB : Bool) (s : State) : Nat :=
  (routes.filter (fun e => e.2.source != 65535 && s.dstDomB e.1 = toB && s.srcDomB e.2.source != toB)).length

/-- Whether a route passes a bridge or an AES3 port converter, which a non-PCM source cannot (R210). -/
def State.converts (d src : Nat) (s : State) : Bool :=
  s.dstDomB d != s.srcDomB src
    || (isAesCh src && (s.aesPort false ((src - 0x2000) / 2)).mode = 2)
    || (isAesCh d && (s.aesPort true ((d - 0x2000) / 2)).mode = 3)

/-! Gain. -/

/-- The 24-bit sample range (R7). -/
def sat24 (v : Int) : Int := clamp (-8388608) 8388607 v

/-- The greatest value of so many bits that passes a test which smaller values pass. -/
def greatest (good : Nat → Bool) : Nat → Nat → Nat
  | 0, r => r
  | n + 1, r => if good (r + 2 ^ n) then greatest good n (r + 2 ^ n) else greatest good n r

/-- The 2,000th power. -/
def pow2000 (m : Nat) : Nat := ((m ^ 20) ^ 10) ^ 10

/-- floor(m × 10^(gain / 2,000)), exact (R226). -/
def gainFloor (m : Nat) (gain : Int) : Nat :=
  greatest (fun r => pow2000 r * 10 ^ (-gain).toNat ≤ pow2000 m * 10 ^ gain.toNat) 30 0

/-- ceil(m × 10^(gain / 2,000)), exact (R226). -/
def gainCeil (m : Nat) (gain : Int) : Nat :=
  let r := gainFloor m gain
  if pow2000 r * 10 ^ (-gain).toNat = pow2000 m * 10 ^ gain.toNat then r else r + 1

/-- A sample times 10^(gain / 2,000), rounded to the nearest value with ties towards +∞, and saturated; −32,768 mutes
(R206, R226). -/
def gainOf (gain x : Int) : Int :=
  if gain = -32768 then 0
  else if gain = 0 then sat24 x
  else if x ≥ 0 then sat24 (((gainFloor (2 * x.toNat) gain + 1) / 2 : Nat) : Int)
  else sat24 (-((gainCeil (2 * (-x).toNat) gain / 2 : Nat) : Int))

/-- A route's gain and polarity on a sample (R226). -/
def AudioRoute.apply (r : AudioRoute) (x : Int) : Int :=
  let y := gainOf r.gain x
  if r.invert then sat24 (-y) else y

/-- A pending gain taken at sample `idx` (R227): the sample is 0 or changes sign, or the timeout sample is reached. -/
def AudioDest.takeGain (domB : Bool) (idx : Nat) (prev x : Int) (a : AudioDest) : AudioDest :=
  match a.pendingGain with
  | none => a
  | some g =>
    if x = 0 || (x < 0) != (prev < 0) || idx ≥ sampleIndex domB (a.pendingFrom + a.timeoutMs * 1000000) then
      { a with route := { a.route with gain := g }, pendingGain := none }
    else a

/-- The output samples of a destination for source samples from index `idx` on, each with the gain then in force. -/
def mixBlock (domB : Bool) : Nat → Int → List Int → AudioDest → List Int × AudioDest
  | _, _, [], a => ([], a)
  | idx, prev, x :: r, a =>
    let a := a.takeGain domB idx prev x
    let q := mixBlock domB (idx + 1) x r a
    (a.route.apply x :: q.1, q.2)

/-! Real-time accesses (R291, R297). -/

/-- The device's fault message for a real-time channel (R296, R297). -/
def State.rtFault (ch cause va : Nat) (s : State) : State :=
  (s.onChan ch (fun c => { c with cause := cause, faultVa := va })).fault (0x180 + ch) (0x40 + cause) va

/-- The local offset of a real-time access within one plate, or its fault cause (R295). -/
def State.rtTarget (va n : Nat) (write : Bool) (s : State) : Nat ⊕ Nat :=
  match s.translate va write true with
  | .fault cause => .inr cause
  | .remote _ _ _ _ => .inr 9
  | .local_ off => if !write && !(s.poisonIn off n).isEmpty then .inr 6 else .inl off

/-- A VA range cut at plate boundaries. -/
def plateRuns : Nat → Nat → Nat → List (Nat × Nat)
  | 0, _, _ => []
  | k + 1, va, n =>
    if n = 0 then [] else
    let m := min n (plateBytes - va % plateBytes)
    (va, m) :: plateRuns k (va + m) (n - m)

/-- The first fault of a real-time access over a VA range (R295). -/
def State.rtCause (va n : Nat) (write : Bool) (s : State) : Option Nat :=
  (plateRuns 64 va n).findSome? (fun r => match s.rtTarget r.1 r.2 write with | .inr c => some c | .inl _ => none)

/-- A real-time write over a VA range that has no fault. -/
def State.rtWrite (va : Nat) (data : List Byte) (s : State) : State :=
  each (plateRuns 64 va data.length) (fun r s =>
    match s.rtTarget r.1 r.2 true with
    | .inl off => s.dramWrite off ((data.drop (r.1 - va)).take r.2)
    | .inr _ => s) s

/-- A real-time read over a VA range that has no fault. -/
def State.rtRead (va n : Nat) (s : State) : List Byte × State :=
  (plateRuns 64 va n).foldl (fun a r =>
    match a.2.rtTarget r.1 r.2 false with
    | .inl off => let (b, s) := a.2.dramRead off r.2; (a.1 ++ b, s)
    | .inr _ => a) ([], s)

/-! Sample packings (R224). -/

/-- Bytes of a sample in a packing. -/
def packBytes (packing : Nat) : Nat := if packing = 0 then 3 else 4

/-- A sample in a packing. -/
def packSample (packing : Nat) (x : Int) : List Byte :=
  if packing = 0 then leInt 3 x else if packing = 1 then leInt 4 x else zeros 1 ++ leInt 3 x

/-- The sample that a packing's bytes hold. -/
def unpackSample (packing : Nat) (b : List Byte) : Int :=
  if packing = 2 then signed 24 (fld b 1 3) else signed 24 (fld b 0 3)

def AudioBuf.slotBytes (b : AudioBuf) : Nat := b.count * packBytes b.packing

/-! The samples of a source channel. -/

/-- `n` samples of a list whose newest sample stands before index `top`, from index `a`, with the sample before them;
samples that the list does not hold are 0. -/
def sliceAt (l : List Int) (top a n : Nat) : Int × List Int :=
  let start := top - l.length
  let got := if start ≤ a then (l.drop (a - start)).take n else List.replicate (min n (start - a)) 0 ++ l.take (n - (start - a))
  (if start < a then l.getD (a - 1 - start) 0 else 0, got ++ List.replicate (n - got.length) 0)

/-- Output samples kept for each destination: the longest pipeline, and the longest packet time (R214, R221). -/
def destDepth : Nat := 320

/-- Samples kept for each source channel (R135, R214). -/
def srcDepth : Nat := 136

/-- A block of 8 samples put at output index `o` into samples that end before `top`: the samples around it stay, and what no
block has given is silent. -/
def putBlock (l : List Int) (top o : Nat) (xs : List Int) : List Int × Nat :=
  let before := if top + destDepth < o || o + destDepth < top then []
    else if o ≤ top then l.take (l.length - (top - o)) else l ++ List.replicate (o - top) 0
  let after := if o + destDepth < top || top ≤ o + 8 then [] else l.drop (l.length - (top - (o + 8)))
  let all := before ++ xs ++ after
  (all.drop (all.length - destDepth), if after.isEmpty then o + 8 else top)

/-- The placement with the current epoch (R253). -/
def Process.current (p : Process) : Option Placement := p.placements.find? (fun x => x.epoch = p.epoch)

/-- The epoch whose results a process takes at a sample index: from the cut index of a cut on its new epoch (R195, R253). -/
def State.epochAt (id : Nat) (q : Process) (i : Nat) (s : State) : Nat :=
  (s.hier.cuts.filter (fun c => c.process = id && c.cutIndex ≤ i)).foldl (fun _ c => c.newEpoch)
    (if i < q.cutIndex then q.prior else q.epoch)

/-- A bundle frame's samples of one channel. -/
def frameChannel (f : Nat × Nat × List (List Int)) (c : Nat) : List Int := f.2.2.map (fun x => x.getD c 0)

/-- The block of bundle samples that arrives in [b − 8, b): the trunk delay is 8 samples (R222). -/
def Bundle.block (u : Bundle) (b c : Nat) : Option (Int × List Int) :=
  let find (i : Nat) := u.frames.find? (fun f => f.1 = i)
  if b < 16 || c ≥ u.channels then none
  else (find (b - 16)).map (fun f =>
    ((match find (b - 24) with | some g => (frameChannel g c).getLastD 0 | none => 0), frameChannel f c))

/-- Whether a source channel is present: any other is lost (R202, R204, R211). -/
def State.srcPresent (c : Nat) (s : State) : Bool :=
  if isChordCh c then
    match s.processOut c with
    | none => false
    | some (_, p) => (match p.current with | some x => x.running | none => false)
  else if isTrunkCh c then
    let u := s.audio.receives.at ((c - 0x3800) / 64) {}
    (c - 0x3800) % 64 < u.channels && u.frames.any (fun f => f.1 + 32 ≥ s.index u.rate96)
  else (s.aSrc c).present

/-- The result sample at place `k` of the base tick that ends at boundary `b`, of the placement whose epoch its own sample
index takes: a remote placement's from the frame 8 samples back, none where that frame has not arrived, and a local
placement's from the stored results (R195, R196, R253). -/
def State.procSample (id : Nat) (q : Process) (c b k : Nat) (s : State) : Option Int :=
  let i := b + k - 16
  match q.placements.find? (fun x => x.engine = 255 && x.epoch = s.epochAt id q i) with
  | some x => ((s.audio.receives.at x.bundle {}).frames.find? (fun f => f.1 = i / 8 * 8 && f.2.1 = x.epoch)).map (fun f =>
      (frameChannel f c).getD (i % 8) 0)
  | none => some (((sliceAt (q.outputs.at c []) q.outIndex (b + k - 8 - q.n) 1).2).getD 0 0)

/-- The samples of a source channel for the base tick that ends at boundary `b`, with the sample before them; none when
the channel is lost (R211, R215). A process output lags by its block length N, so that its samples and those of direct
routes leave with the delays of R214. -/
def State.srcBlock (c b : Nat) (s : State) : Option (Int × List Int) :=
  if isChordCh c then
    match s.processOut c with
    | none => none
    | some (id, p) =>
      if !s.srcPresent c || b < 9 + p.n || b < 17 then none
      else
        let get (k : Nat) := s.procSample id p (c - 0x3000 - p.outFirst) b k
        let l := (List.range 8).map get
        if l.all (·.isNone) then none else some (((s.procSample id p (c - 0x3000 - p.outFirst) (b - 8) 7).getD 0), l.map (·.getD 0))
  else if isTrunkCh c then (s.audio.receives.at ((c - 0x3800) / 64) {}).block b ((c - 0x3800) % 64)
  else
    let x := s.aSrc c
    if x.present && x.lastIndex + 8 = b then some (sliceAt x.last b (b - 8) 8) else none

/-- The index at which the first sample of a block that ends at `b` leaves (R214): 24 samples after its arrival, 3N for
a process of block length N, 12 samples of A more through a bridge. -/
def State.outputIndex (d src b : Nat) (s : State) : Nat :=
  let domB := s.dstDomB d
  let bridge := if domB != s.srcDomB src then (if domB then 24 else 12) else 0
  let n := if isChordCh src then (match s.processOut src with | some (_, p) => p.n | none => 8) else 0
  (if n = 0 then b + 16 else b - 8 + 2 * n) + bridge

/-- Free samples of 24 bits (log 8). -/
def State.freeInts : Nat → State → List Int × State
  | 0, s => ([], s)
  | n + 1, s =>
    let (x, s) := s.freeInt
    let (r, s) := s.freeInts n
    (signed 24 (unsigned 24 x) :: r, s)

end Sys2Proof.Machine
end

