-- ==== Sys2Proof/Machine/Audio.lean ====
section
/-! DEFINITION. The audio path's commands and happenings (R202 to R234). -/

namespace Sys2Proof.Machine

/-! Routes (R206 to R211). -/

/-- A time field of class 0x5 and 0x6 commands: at most 24 hours ahead (R233). -/
def State.timeOk (p : List Byte) (offS offNs : Nat) (s : State) : Bool :=
  nsOk p offNs && timeAt p offS offNs ≤ s.now + day

def audioConfigBody : Body := fun rq s =>
  let ms := u16 rq.payload 0
  require (rq.payload.length = 4 && 1 ≤ ms && ms ≤ 100 && zeroAt rq.payload 2 2)
    (ok (s.onAudio (fun a => { a with zcTimeoutMs := ms }))) s

def execAudioConfig (rq : Request) (s : State) : Out := .next (command 0x5001 audioConfigBody rq s)

def parseAudioRoute (p : List Byte) : Nat × AudioRoute :=
  (u16 p 0, { source := u16 p 2, gain := s16 p 4, xfade := bit (u8 p 6) 0, invert := bit (u8 p 6) 1 })

def audioRouteBytes (d : Nat) (r : AudioRoute) : List Byte :=
  leBytes 2 d ++ leBytes 2 r.source ++ leInt 2 r.gain ++ bytes [flag r.xfade + 2 * flag r.invert, 0]

/-- The checks of one audio route entry (R202, R203, R206). -/
def audioRouteOk (p : List Byte) : Bool :=
  let g := s16 p 4
  u16 p 0 ≤ 0x3FFF && (u16 p 2 ≤ 0x3FFF || u16 p 2 = 0xFFFF) && ((-12000 ≤ g && g ≤ 2400) || g = -32768)
    && u8 p 6 < 4 && u8 p 7 = 0

/-- The routes of every destination once the armed route sets have switched. -/
def State.plannedRoutes (s : State) : Tbl AudioRoute :=
  s.audio.armed.foldl (fun t a => a.entries.foldl (fun t e => t.put e.1 e.2) t)
    (s.audio.dests.map (fun _ d => d.route))

def audioRouteSetBody : Body := fun rq s =>
  let p := rq.payload
  let n := u16 p 0
  let es := records p 20 8 n
  if p.length != 20 + 8 * n || n = 0 || n > 500 || !zeroAt p 2 2 || !zeroAt p 16 4 || !s.timeOk p 4 12
      || !es.all audioRouteOk || !distinct (es.map (fun e => u16 e 0)) then fail stBadParam s
  else
    let routes := es.map parseAudioRoute
    let plan := routes.foldl (fun (t : Tbl AudioRoute) e => t.put e.1 e.2) s.plannedRoutes
    if plan.count (fun _ r => r.source != 65535) > 8192 || s.bridges plan true > 1024 || s.bridges plan false > 1024 then
      fail stResource s
    else
      let t := timeAt p 4 12
      ok (s.onAudio (fun a => { a with armed := a.armed ++
        [{ t := if t = 0 then s.now + 200000 else max t s.now, entries := routes }] }))

def execAudioRouteSet (rq : Request) (s : State) : Out := .next (command 0x5002 audioRouteSetBody rq s)

/-- A range of channel numbers, at most so many of them (R202, R203). -/
def channelRange (first count most : Nat) : Bool := 1 ≤ count && count ≤ most && first + count ≤ 0x4000

def audioRouteReadBody : Body := fun rq s =>
  let first := u16 rq.payload 0
  let n := u16 rq.payload 2
  require (rq.payload.length = 4 && channelRange first n 500)
    (okWith (leBytes 2 n ++ [0, 0] ++ (laneRange first n).flatMap (fun d => audioRouteBytes d (s.aDest d).route)) s) s

def execAudioRouteRead (rq : Request) (s : State) : Out := .next (command 0x5003 audioRouteReadBody rq s)

/-- A destination takes a new entry at a boundary (R208, R227). -/
def AudioDest.switchTo (r : AudioRoute) (index now zcMs : Nat) (d : AudioDest) : AudioDest :=
  if r.source = d.route.source then
    if r.gain = d.route.gain && d.pendingGain = none then { d with route := { r with gain := d.route.gain } }
    else
      let first := d.pendingGain = none
      let d := { d with route := { r with gain := d.route.gain }, pendingGain := some r.gain }
      if first then { d with pendingFrom := now, timeoutMs := zcMs } else d
  else { d with
    route := r, pendingGain := none
    fade := if r.xfade then some { old := d.route, start := index } else none }

/-- The armed entries of one domain whose time has come switch together (R208). -/
def State.switchRoutes (domB : Bool) (b : Nat) (s : State) : State :=
  let due := s.audio.armed.filter (fun a => a.t ≤ s.now)
  let mine (e : Nat × AudioRoute) : Bool := s.dstDomB e.1 = domB
  let s' := each due (fun a s =>
    each (a.entries.filter mine) (fun e s => s.onADest e.1 (AudioDest.switchTo e.2 b s.now s.audio.zcTimeoutMs)) s) s
  let left (x : RouteSetArmed) : RouteSetArmed :=
    if x.t ≤ s.now then { x with entries := x.entries.filter (fun e => !mine e) } else x
  s'.onAudio (fun a => { a with armed := (a.armed.map left).filter (fun x => !x.entries.isEmpty) })

/-! AES3 ports (R216 to R219, R225). -/

def aesPortConfigBody : Body := fun rq s =>
  let p := rq.payload
  let out := u8 p 0 = 1
  let mode := u8 p 2
  let follow := u8 p 3
  let good := p.length = 32 && u8 p 0 ≤ 1 && u8 p 1 ≤ 63 && zeroAt p 5 3 && u8 p 4 < 2
    && (if out then mode ≤ 1 || mode = 3 else mode ≤ 2) && (if mode = 3 then follow ≤ 63 else follow = 0)
    && (out || zeroAt p 4 28)
  require good (ok (s.onAes out (u8 p 1) (fun a =>
    { a with mode := mode, follow := follow, csAuto := bit (u8 p 4) 0, template := p.drop 8 }))) s

def execAesPortConfig (rq : Request) (s : State) : Out := .next (command 0x5004 aesPortConfigBody rq s)

/-- The channel status declares professional use and non-audio content (AES3: byte 0 bits 0 and 1; log 59). -/
def nonAudio (cs : List Byte) : Bool := bit (u8 cs 0) 1

/-- The frame rate of an output in mHz (R217). -/
def State.outputRate (a : AesPort) (s : State) : Nat :=
  if a.mode = 0 then 48000000 else if a.mode = 1 then 96000000 else (s.aesPort false a.follow).rateMhz

/-- The AES3 channel status CRC of 23 bytes: x^8 + x^4 + x^3 + x^2 + 1, preset to ones, bits in the order of their
transmission (AES3; log 59). -/
def crccOf (p : List Byte) : Byte :=
  let step (c : BitVec 8) : BitVec 8 := if c.getLsbD 0 then (c >>> 1) ^^^ 0xB8#8 else c >>> 1
  (p.take 23).foldl (fun c b => step (step (step (step (step (step (step (step (c ^^^ b))))))))) 0xFF#8

/-- The sampling frequency code of AES3 byte 0 bits 7:6 and byte 4 bits 6:3 for an output rate (R218; log 59). -/
def rateStatus (mhz : Nat) : Nat × Nat :=
  let near (hz : Nat) : Bool := hz * 999 ≤ mhz && mhz ≤ hz * 1001
  if near 48000 then (2, 0) else if near 96000 then (0, 2) else if near 44100 then (1, 0) else if near 32000 then (3, 0)
  else if near 88200 then (0, 10) else (0, 0)

/-- The channel status block that an output sends (R218). -/
def State.outputStatus (a : AesPort) (s : State) : List Byte :=
  let cs := if a.template.isEmpty then zeros 24 else a.template
  if !a.csAuto then cs
  else
    let c := rateStatus (s.outputRate a)
    let cs := cs.set 0 (BitVec.ofNat 8 (u8 cs 0 % 64 + 64 * c.1))
    let cs := cs.set 4 (BitVec.ofNat 8 (u8 cs 4 / 128 * 128 + 8 * c.2 + u8 cs 4 % 8))
    cs.set 23 (crccOf cs)

/-- An output runs while its lane of the device drives and it is not powered down (R216, R231, R444). -/
def State.outputRuns (a : AesPort) (s : State) : Bool := !s.boot.driversOff && s.power.state = .run && !a.driverOff

/-- The AES_STATUS reply (R233). -/
def State.aesStatus (out : Bool) (n sub : Nat) (s : State) : List Byte :=
  let a := s.aesPort out n
  let cs := if out then s.outputStatus a
            else let c := if sub = 0 then a.csA else a.csB; if c.isEmpty then zeros 24 else c
  let us := if out then zeros 24 else let c := if sub = 0 then a.userA else a.userB; if c.isEmpty then zeros 24 else c
  bytes [n, a.mode, flag (if out then s.outputRuns a else a.locked) + 2 * flag a.pairSlip + 4 * flag a.swapped
      + 8 * flag (nonAudio cs) + 16 * flag a.driverOff, a.fifo]
    ++ leBytes 4 (if out then s.outputRate a else a.rateMhz) ++ leBytes 2 a.slips.toNat ++ leBytes 2 a.parityErrors.toNat
    ++ leBytes 2 a.crccErrors.toNat ++ leBytes 2 a.relocks.toNat ++ cs ++ us

def aesStatusBody : Body := fun rq s =>
  let p := rq.payload
  require (p.length = 4 && u8 p 0 ≤ 1 && u8 p 1 ≤ 63 && u8 p 2 ≤ 1 && u8 p 3 = 0)
    (okWith (s.aesStatus (u8 p 0 = 1) (u8 p 1) (u8 p 2)) s) s

def execAesStatus (rq : Request) (s : State) : Out := .next (command 0x5005 aesStatusBody rq s)

/-- An armed AES_START with its start indices fixed from an instant (R219). -/
def AesStartArmed.fix (t : Nat) (a : AesStartArmed) : AesStartArmed :=
  let ia := boundaryAt false 8 t
  { a with trigger := false, startNs := some (indexTime false ia), indexA := ia, indexB := boundaryAt true 8 t }

def aesStartBody : Body := fun rq s =>
  let p := rq.payload
  let t := timeAt p 20 28
  let trig := u8 p 16 = 0
  if p.length != 32 || u8 p 16 > 1 || !zeroAt p 17 3 || !s.timeOk p 20 28 then fail stBadParam s
  else if !trig && t != 0 && t < s.now + 250000 then fail stLate s
  else
    let a : AesStartArmed := { inMask := u64 p 0, outMask := u64 p 8, trigger := trig, handle := handleOf 0x5006 rq }
    let a := if trig then a else a.fix (if t = 0 then s.now + 250000 else t)
    accepted (s.onAudio (fun x => { x with starts := x.starts ++ [a] }))

def execAesStart (rq : Request) (s : State) : Out := .next (command 0x5006 aesStartBody rq s)

def aesPortRestartBody : Body := fun rq s =>
  let p := rq.payload
  let out := u8 p 0 = 1
  require (p.length = 4 && u8 p 0 ≤ 1 && u8 p 1 ≤ 63 && u8 p 2 ≤ 1 && u8 p 3 = 0)
    (accepted (s.onAes out (u8 p 1) (fun a =>
      { a with restarting := true, awaitTrigger := u8 p 2 = 1, fifo := 0,
               restartHandles := a.restartHandles ++ [handleOf 0x5007 rq] }))) s

def execAesPortRestart (rq : Request) (s : State) : Out := .next (command 0x5007 aesPortRestartBody rq s)

/-- The object number of a port's events (R234). -/
def aesObject (out : Bool) (port : Nat) : Nat := 64 * flag out + port

/-- Step 3 of a restart (R225): the FIFO is half full, PAIR_SLIP is cleared and the channels return. -/
def portRestarted (out : Bool) (port : Nat) (s : State) : State :=
  let a := s.aesPort out port
  if !a.restarting || a.awaitTrigger then s
  else
    let s := s.onAes out port (fun a => { a with
      restarting := false, pairSlip := false, swapped := false, fifo := 8, restartHandles := [] })
    let s := s.raise 10 5 (aesObject out port) (leBytes 8 (s.index a.domB))
    each a.restartHandles (fun h s => s.complete h stOk []) s

def execPortRestarted (output : Bool) (port at_ : Nat) (s : State) : Out := .next (portRestarted output port (s.advance at_))

/-! Flow maps, trunks and buffers (R220, R222, R223). -/

def audioFlowMapBody : Body := fun rq s =>
  let p := rq.payload
  let tx := u8 p 0 = 1
  let n := u16 p 2
  let base := u16 p 4
  let us := u16 p 6
  if p.length != 8 || u8 p 0 > 1 || u8 p 1 != 0 || n > 1023 then fail stBadParam s
  else
    let kind := if tx then (s.txFlow n).cfg.kind else (s.rxFlow n).cfg.kind
    let param := if tx then (s.txFlow n).cfg.param else (s.rxFlow n).cfg.param
    let ptime := if tx then (s.txFlow n).cfg.ptime else (s.rxFlow n).cfg.ptime
    let meets (x b prm : Nat) : Bool := x != n && b < base + param && base < b + prm
    let taken := if tx then s.eth.tx.has (fun x f => match f.poolBase with | some b => meets x b f.cfg.param | none => false)
                 else s.eth.rx.has (fun x f => match f.poolBase with | some b => meets x b f.cfg.param | none => false)
    let packetUs := if ptime = 0 then 125 else 1000
    if kind != 2 && kind != 3 then fail stWrongState s
    else if base = 0xFFFF then
      ok (if tx then s.onTx n (fun f => { f with poolBase := none }) else s.onRx n (fun f => { f with poolBase := none }))
    else if base + param > 3840 || taken || (tx && us != 0) || (!tx && (us < 125 || us > 20000 || us < packetUs)) then
      fail stBadParam s
    else
      ok (if tx then s.onTx n (fun f => { f with poolBase := some base })
          else s.onRx n (fun f => { f with poolBase := some base, linkOffsetUs := us }))

def execAudioFlowMap (rq : Request) (s : State) : Out := .next (command 0x5008 audioFlowMapBody rq s)

/-- Whether a remote placement names a receive bundle (R253). -/
def State.bundleNamed (b : Nat) (s : State) : Bool :=
  s.chord.processes.has (fun _ p => p.placements.any (fun x => x.engine = 255 && x.bundle = b))

def audioTrunkSetBody : Body := fun rq s =>
  let p := rq.payload
  let b := u8 p 0
  let rx := u8 p 1 = 1
  let link := u8 p 2
  let n := u8 p 4
  if p.length != 8 || b > 31 || u8 p 1 > 1 || n > 64 || !zeroAt p 6 2 then fail stBadParam s
  else if n = 0 then
    if rx && s.bundleNamed b then fail stWrongState s
    else ok (s.onAudio (fun a => if rx then { a with receives := a.receives.del b } else { a with sends := a.sends.del b }))
  else if link > 63 || u8 p 5 > 1 || s.bundleStream link (u8 p 3) rx b
      || (if rx then s.lat.receives else s.lat.sends).has (fun _ m => m.link = link && m.stream = u8 p 3) then
    fail stBadParam s
  else if rx && s.bundleNamed b then fail stWrongState s
  else if !rx && (s.linkChargeBut link 65536 b + bundleMbps n (u8 p 5 = 1)) * 1000 > (s.link link).trunkLimit then
    fail stTrunkFull s
  else
    let u : Bundle := { link := link, stream := u8 p 3, channels := n, rate96 := u8 p 5 = 1 }
    ok (s.onAudio (fun a => if rx then { a with receives := a.receives.put b u } else { a with sends := a.sends.put b u }))

def execAudioTrunkSet (rq : Request) (s : State) : Out := .next (command 0x5009 audioTrunkSetBody rq s)

/-- Every plate of a range is mapped through a pinned real-time entry (R223, R256). -/
def State.rtPinned (va n : Nat) (s : State) : Bool :=
  (List.range (cdiv (va % plateBytes + n) plateBytes)).all (fun i =>
    match s.mem.tables.get? (va / plateBytes + i) with
    | some e => e.pinned && e.rt
    | none => false)

def audioBufferSetBody : Body := fun rq s =>
  let p := rq.payload
  let n := u8 p 3
  let va := u64 p 8
  let frames := u32 p 16
  let b : AudioBuf := { first := u8 p 2, count := n, packing := u8 p 4, rate96 := u8 p 5 = 1, base := va, frames := frames }
  if p.length != 24 || u8 p 0 > 15 || u8 p 1 > 1 || n = 0 || u8 p 2 + n > 128 || u8 p 4 > 2 || u8 p 5 > 1 || !zeroAt p 6 2
      || !zeroAt p 20 4 || frames < 64 || frames > 16777216 || va + frames * b.slotBytes > 2 ^ 48 then fail stBadParam s
  else if !s.rtPinned va (frames * b.slotBytes) then fail stWrongState s
  else ok (s.onAudio (fun a => if u8 p 1 = 0 then { a with captures := a.captures.put (u8 p 0) b }
                               else { a with playouts := a.playouts.put (u8 p 0) b }))

def execAudioBufferSet (rq : Request) (s : State) : Out := .next (command 0x500A audioBufferSetBody rq s)

def audioBufferStatusBody : Body := fun rq s =>
  let p := rq.payload
  let b := (if u8 p 0 = 0 then s.audio.captures else s.audio.playouts).at (u8 p 1) {}
  require (p.length = 4 && u8 p 0 ≤ 1 && u8 p 1 ≤ 15 && zeroAt p 2 2)
    (okWith (leBytes 8 b.index ++ leBytes 4 b.wraps.toNat ++ leBytes 4 b.faults.toNat) s) s

def execAudioBufferStatus (rq : Request) (s : State) : Out := .next (command 0x500B audioBufferStatusBody rq s)

/-! Silence (R230, R231). -/

def silenceConfigBody : Body := fun rq s =>
  let p := rq.payload
  let first := u16 p 0
  let n := u16 p 2
  let thr := s16 p 4
  require (p.length = 16 && channelRange first n 1024 && -12000 ≤ thr && thr ≤ -2000 && zeroAt p 6 2
      && 100 ≤ u32 p 8 && u32 p 8 ≤ 600000 && u8 p 12 < 8 && zeroAt p 13 3)
    (ok (each (laneRange first n) (fun c s => s.onASrc c (fun x =>
      { x with configured := true, threshold := thr, holdMs := u32 p 8, actions := u8 p 12 })) s)) s

def execSilenceConfig (rq : Request) (s : State) : Out := .next (command 0x500C silenceConfigBody rq s)

/-- Whether a peak of absolute value `peak` lies below a threshold of 0.01 dBFS steps (R230), exact. -/
def belowLevel (peak : Nat) (threshold : Int) : Bool :=
  pow2000 peak * 10 ^ (-threshold).toNat < pow2000 (2 ^ 23) * 10 ^ threshold.toNat

/-- The level of a peak in 0.01 dBFS: the greatest step at or below it (R233; log 60). -/
def levelOf (peak : Nat) : Int := -((15000 - greatest (fun k => !belowLevel peak ((k : Int) - 15000)) 14 0 : Nat) : Int)

/-- Whether one channel source of an output lets its driver power down (R231). -/
def State.quietSource (c : Nat) (s : State) : Bool :=
  let r := (s.aDest c).route.source
  r = 65535 || ((s.aSrc r).silent && bit (s.aSrc r).actions 1)

/-- The AES3 output drivers that take a source channel follow its silence (R231). -/
def State.powerOutputs (src : Nat) (s : State) : State :=
  each (List.range 64) (fun n s =>
    let a := 0x2000 + 2 * n
    if (s.aDest a).route.source = src || (s.aDest (a + 1)).route.source = src then
      let off := s.quietSource a && s.quietSource (a + 1)
      s.onAes true n (fun p =>
        { p with driverOff := off, blockStart := if p.driverOff && !off then s.index p.domB else p.blockStart })
    else s) s

/-- A channel's block has been measured (R230): a block at or above the threshold ends silence (R231). -/
def audioBlockMeasured (c peak : Nat) (s : State) : State :=
  let x := s.aSrc c
  if x.nonPcm || !s.srcPresent c then s
  else
    let (lvl, s) := if peak = 0 then s.freeInt else (levelOf peak, s)
    let s := s.onASrc c (fun x => { x with peak := lvl })
    if !x.configured then s
    else if belowLevel peak x.threshold then
      s.onASrc c (fun x => { x with belowSince := some (x.belowSince.getD (s.now - 8 * sec / domainRate (s.srcDomB c))) })
    else
      let s := s.onASrc c (fun x => { x with belowSince := none, silent := false })
      if !x.silent then s
      else
        let s := if bit x.actions 1 then s.powerOutputs c else s
        if bit x.actions 0 then s.raise 10 7 c (leBytes 8 (s.index (s.srcDomB c))) else s

def execAudioBlockMeasured (channel peak at_ : Nat) (s : State) : Out :=
  .next (audioBlockMeasured channel peak (s.advance at_))

/-- A channel's blocks have stayed below the threshold for the hold time (R230, R231). -/
def silence (c : Nat) (s : State) : State :=
  let x := s.aSrc c
  match x.belowSince with
  | none => s
  | some t =>
    if !x.configured || x.silent || x.nonPcm || s.now < t + x.holdMs * 1000000 then s
    else
      let s := s.onASrc c (fun x => { x with silent := true })
      let s := if bit x.actions 1 then s.powerOutputs c else s
      if bit x.actions 0 then s.raise 10 6 c (leBytes 8 (s.index (s.srcDomB c))) else s

def execSilence (channel at_ : Nat) (s : State) : Out := .next (silence channel (s.advance at_))

/-! Safe-load (R228, R229). -/

def safeloadWriteBody : Body := fun rq s =>
  let p := rq.payload
  let n := u16 p 0
  let off := u16 p 2
  let k := u16 p 4
  let most := match s.chord.processes.get? n with | some q => 8 * q.paramWords | none => 16384
  if p.length != 8 + k || n > 511 || k = 0 || k > 4000 || off + k > 16384 || !zeroAt p 6 2 || off + k > most then
    fail stBadParam s
  else if (s.paramSet n).armed.isSome then fail stWrongState s
  else ok (s.onSet n (fun x => { x with staged := x.staged.writeN off (p.drop 8) }))

def execSafeloadWrite (rq : Request) (s : State) : Out := .next (command 0x500D safeloadWriteBody rq s)

def safeloadSwapBody : Body := fun rq s =>
  let p := rq.payload
  let n := u16 p 0
  let len := u16 p 2
  if p.length != 20 || n > 511 || len > 16384 || !s.timeOk p 8 16 then fail stBadParam s
  else
    match s.chord.processes.get? n with
    | none => fail stWrongState s
    | some q =>
      if (s.paramSet n).armed.isSome then fail stWrongState s
      else if len > 8 * q.paramWords || crc32c (Memory.readN (s.paramSet n).staged 0 len) != u32 p 4 then fail stBadParam s
      else accepted (s.onSet n (fun x => { x with
        armed := some (max (timeAt p 8 16) s.now), handle := some (handleOf 0x500E rq) }))

def execSafeloadSwap (rq : Request) (s : State) : Out := .next (command 0x500E safeloadSwapBody rq s)

/-- The banks of an armed set change places at its process's tick boundary (R228). -/
def safeloadDone (n : Nat) (s : State) : State :=
  let x := s.paramSet n
  match x.armed, s.chord.processes.get? n with
  | some t, some q =>
    if s.now < t then s
    else
      let i := s.index q.domainB
      let s := s.onSet n (fun x => { x with active := x.staged, staged := x.active, armed := none, handle := none })
      (s.raise 10 10 n (leBytes 8 i)).completeOpt x.handle stOk (leBytes 8 i)
  | _, _ => s

def execSafeloadDone (set at_ : Nat) (s : State) : Out := .next (safeloadDone set (s.advance at_))

/-! Channel status. -/

/-- A CHANNEL_STATUS record (R205, R210, R211, R230, R233). -/
def State.channelRecord (c : Nat) (s : State) : List Byte :=
  let x := s.aSrc c
  let here := s.srcPresent c
  let st := if !here then 1 else if x.nonPcm then 3 else if x.silent then 2 else 0
  let why := if !here then (if x.badGroup then 1 else 3)
    else if x.nonPcm && s.audio.dests.has (fun d a => a.route.source = c && s.converts d c) then 2 else 0
  bytes [flag (s.srcDomB c), st, why, 0] ++ leInt 2 x.peak ++ leBytes 2 x.unsupported.toNat

def channelStatusBody : Body := fun rq s =>
  let first := u16 rq.payload 0
  let n := u16 rq.payload 2
  require (rq.payload.length = 4 && channelRange first n 500)
    (okWith (leBytes 2 n ++ [0, 0] ++ (laneRange first n).flatMap (fun c => s.channelRecord c)) s) s

def execChannelStatus (rq : Request) (s : State) : Out := .next (command 0x500F channelStatusBody rq s)

/-! The base tick (R208, R211, R212, R214). -/

/-- Whether a source channel whose samples come with the base tick carries audio now: a de-embedded channel that its link
carries, in a group that is supported (R112, R205), or an AES3 input's (R216). -/
def State.mayArrive (c : Nat) (s : State) : Bool :=
  if c < 0x2000 then
    let r := (s.lane (c / 32)).rx
    r.locked && !(s.aSrc c).badGroup && (c % 32 < 16 || 2 ≤ r.rateClass)
  else if isAesCh c then
    let a := s.aesPort false ((c - 0x2000) / 2)
    a.locked && !a.restarting
  else false

/-- A block of samples taken for a source channel. -/
def State.takeBlock (c b : Nat) (samples : List Int) (s : State) : State :=
  s.onASrc c (fun x =>
    let l := (if x.lastIndex + 16 = b then x.last else []) ++ (samples ++ List.replicate 8 0).take 8
    { x with present := true, last := l.drop (l.length - srcDepth), lastIndex := b - 8 })

/-- Samples of an AES3 channel with those of a parity error replaced by the sample before (R216). -/
def healed (parity : Nat) : Nat → Int → List Int → List Int
  | _, _, [] => []
  | i, prev, x :: r =>
    let y := if bit parity i then prev else x
    y :: healed parity (i + 1) y r

/-- A block that comes with the base tick (R212, R216). -/
def State.arrive (b : Nat) (x : ChannelBlock) (s : State) : State :=
  if !isAesCh x.channel then s.takeBlock x.channel b x.samples
  else
    let y := s.aSrc x.channel
    let prev := if y.lastIndex + 16 = b then y.last.getLastD 0 else 0
    let bad := ((List.range 8).filter (fun i => bit x.parity i)).length
    (s.takeBlock x.channel b (healed x.parity 0 prev x.samples)).onAes false ((x.channel - 0x2000) / 2)
      (fun a => { a with parityErrors := a.parityErrors + BitVec.ofNat 16 bad })

/-- The channels of received flows take the samples whose arrival indices lie in the base tick; samples of a packet that was
lost or came late are silent (R132, R215, R220). -/
def State.takePackets (domB : Bool) (b : Nat) (s : State) : State :=
  each s.eth.rx (fun e s =>
    let f := e.2
    match f.poolBase with
    | none => s
    | some base =>
      if (f.cfg.kind != 2 && f.cfg.kind != 3) || f.cfg.rate96 != domB || !f.present then s
      else
        let at_ (i : Nat) : List Int := match f.arrived.find? (fun p => p.1 ≤ i && i < p.1 + p.2.length) with
          | some p => p.2.getD (i - p.1) []
          | none => []
        let l := (List.range 8).map (fun i => at_ (b - 8 + i))
        each (List.range f.cfg.param) (fun ch s => s.takeBlock (0x2100 + base + ch) b (l.map (fun x => x.getD ch 0))) s) s

/-- Playout buffers of a domain read the slots of the base tick that ends at `b` (R223). -/
def State.playout (domB : Bool) (b : Nat) (s : State) : State :=
  each s.audio.playouts (fun e s =>
    let u := e.2
    if u.rate96 != domB || u.stopped || u.count = 0 then s
    else
      let va (i : Nat) := u.base + (b - 8 + i) % u.frames * u.slotBytes
      match (List.range 8).findSome? (fun i => (s.rtCause (va i) u.slotBytes false).map (fun c => (c, va i))) with
      | some (cause, at_) =>
        let s := s.onAudio (fun a => { a with playouts := a.playouts.put e.1 { u with stopped := true, faults := u.faults + 1 } })
        let s := each (laneRange (0x2080 + u.first) u.count) (fun c s => s.onASrc c (fun x => { x with present := false })) s
        s.rtFault (40 + e.1 % 4) cause at_
      | none =>
        let (slots, s) := (List.range 8).foldl (fun (a : List (List Byte) × State) i =>
          let (d, s) := a.2.rtRead (va i) u.slotBytes; (a.1 ++ [d], s)) ([], s)
        let s := each (List.range u.count) (fun c s => s.takeBlock (0x2080 + u.first + c) b
          (slots.map (fun d => unpackSample u.packing (d.drop (c * packBytes u.packing))))) s
        let wrapped := (b - 1) / u.frames != (b - 9) / u.frames
        let u := { u with index := b - 1, wraps := u.wraps + (if wrapped then 1 else 0) }
        s.onAudio (fun a => { a with playouts := a.playouts.put e.1 u })) s

/-- The samples that a route's source gives a destination in the base tick that ends at `b`, with the sample before them (R209 to
R213): none for silence, free values where a bridge filters them. -/
def State.routeBlock (d src b : Nat) (s : State) : Option (Int × List Int) × State :=
  if src = 65535 || !s.srcPresent src || ((s.aSrc src).nonPcm && s.converts d src) then (none, s)
  else if s.srcDomB src != s.dstDomB d then
    let (xs, s) := s.freeInts 9
    (some (xs.headD 0, xs.drop 1), s)
  else (s.srcBlock src b, s)

/-- A crossfade's samples from its sample `p` on: linear over 64, to a whole sample either way (R208; log 61). -/
def fadeBlock (p : Nat) (old new up : List Int) : List Int :=
  (List.range 8).map (fun i =>
    let w : Int := ((min 64 (p + i + flag Config.fadeLead) : Nat) : Int)
    let sum := old.getD i 0 * (64 - w) + new.getD i 0 * w
    Int.fdiv sum 64 + (if sum % 64 = 0 then 0 else up.getD i 0 % 2))

/-- Whether a destination is silent whatever its route: a folio's pause of AES3 outputs or audio senders (R411), an AES3 output in
the safe state or restarting (R225, R356), and the embedder of an idle SDI output (R61). -/
def State.hushed (d : Nat) (s : State) : Bool :=
  (s.now < s.life.silentUntil && ((isAesCh d && bit s.life.mediaMask 1) || (isPoolCh d && bit s.life.mediaMask 2)))
    || (isAesCh d && (s.faults.safe || (s.aesPort true ((d - 0x2000) / 2)).restarting))
    || (d < 0x2000 && (s.dest (d / 32)).plane = 0)

/-- One destination takes its block of the base tick that ends at `b` (R208 to R211, R214, R226, R227): its samples stand at their
output index. During a crossfade both sources leave with the new route's delay (log 61). -/
def State.mixDest (d b : Nat) (s : State) : State :=
  let a := s.aDest d
  let domB := s.dstDomB d
  let src := a.route.source
  let here : Bool := src != 65535 && s.srcPresent src
  let raw : Bool := here && (s.aSrc src).nonPcm
  let fade := match a.fade with | some f => if b ≤ f.start + 64 && !raw then some f else none | none => none
  let (blk, s) := s.routeBlock d src b
  let (xs, a) := match blk with
    | none => (List.replicate 8 0, a)
    | some (prev, xs) => if raw then (xs, a) else mixBlock domB (b - 8) prev xs a
  let (xs, s) := match fade with
    | none => (xs, s)
    | some f =>
      let (old, s) := s.routeBlock d f.old.source b
      let ys := match old with
        | none => List.replicate 8 0
        | some (_, ys) => if (s.aSrc f.old.source).nonPcm then ys else ys.map f.old.apply
      let (up, s) := s.freeInts 8
      (fadeBlock (b - 8 - f.start) ys xs up, s)
  let q := putBlock a.samples a.index (s.outputIndex d src b) (if s.hushed d then List.replicate 8 0 else xs)
  s.onADest d (fun _ => { a with samples := q.1, index := q.2, valid := here && !s.hushed d, fade := fade })

/-- A destination's samples for output indices from `o` (R214). -/
def State.destSamples (d o n : Nat) (s : State) : List Int :=
  let a := s.aDest d
  (sliceAt a.samples a.index o n).2

/-- Chord process inputs take their block (R247, R249). -/
def State.feedProcess (d b : Nat) (s : State) : State :=
  let o := s.outputIndex d (s.aDest d).route.source b
  match s.processIn d with
  | none => s
  | some (n, p) =>
    let xs := s.destSamples d o 8
    s.onChord (fun c => { c with processes := c.processes.put n { p with
      inputs := p.inputs.upd (d - 0x3000 - p.inFirst) [] (fun l =>
        let l := l ++ xs; l.drop (l.length - 64)) } })

/-- The epoch that a send bundle carries (R222, R253): its process's where every channel comes from one process. -/
def State.bundleEpoch (b : Nat) (u : Bundle) (s : State) : Nat :=
  let owner (c : Nat) : Option (Nat × Nat) :=
    let r := (s.aDest (0x3800 + 64 * b + c)).route.source
    if isChordCh r then (s.processOut r).map (fun q => (q.1, q.2.epoch)) else none
  match owner 0 with
  | none => 0
  | some (p, e) => if (List.range u.channels).all (fun c => match owner c with | some q => q.1 = p | none => false) then e else 0

/-- A base tick's frame of every send bundle of a domain (R222). -/
def State.sendBundles (domB : Bool) (b : Nat) (s : State) : State :=
  each s.audio.sends (fun e s =>
    let u := e.2
    if u.rate96 != domB || (s.link u.link).state != .up then s
    else
      let o := b + 8
      let chans := (List.range u.channels).map (fun c => s.destSamples (0x3800 + 64 * e.1 + c) o 8)
      let data := (List.range 8).flatMap (fun i => chans.flatMap (fun l => packSample 0 (l.getD i 0)))
      let epoch := s.bundleEpoch e.1 u
      let frame := leBytes 8 o ++ leBytes 2 epoch ++ bytes [u.channels, 0] ++ data
      (if s.vc0Runs then s.putStream u.link u.stream frame [] else s).onAudio
        (fun a => { a with sends := a.sends.put e.1 { u with index := o, epoch := epoch } })) s

/-- Capture buffers of a domain write their slots (R223). -/
def State.capture (domB : Bool) (b : Nat) (s : State) : State :=
  each s.audio.captures (fun e s =>
    let u := e.2
    if u.rate96 != domB || u.stopped || u.count = 0 then s
    else
      let o := b + 8
      let va (i : Nat) := u.base + (o + i) % u.frames * u.slotBytes
      match (List.range 8).findSome? (fun i => (s.rtCause (va i) u.slotBytes true).map (fun c => (c, va i))) with
      | some (cause, at_) =>
        (s.onAudio (fun a => { a with captures := a.captures.put e.1 { u with stopped := true, faults := u.faults + 1 } })).rtFault
          (40 + e.1 % 4) cause at_
      | none =>
        let chans := (List.range u.count).map (fun c => s.destSamples (0x2080 + u.first + c) o 8)
        let s := each (List.range 8) (fun i s =>
          s.rtWrite (va i) (chans.flatMap (fun l => packSample u.packing (l.getD i 0)))) s
        let wrapped := (o + 7) / u.frames != (o - 1) / u.frames
        let u := { u with index := o + 7, wraps := u.wraps + (if wrapped then 1 else 0) }
        s.onAudio (fun a => { a with captures := a.captures.put e.1 u })) s

/-- One AES3 subframe with its preamble bits zero: sample, V, U, C and even parity (R211, R218, R340). -/
def subframe (sample : Int) (valid : Bool) (status : Bool) : List Byte :=
  let v := unsigned 24 sample * 16 + 2 ^ 28 * flag (!valid) + 2 ^ 30 * flag status
  let ones := (List.range 31).foldl (fun n i => n + flag (bit v i)) 0
  leBytes 4 (v + 2 ^ 31 * (ones % 2))

/-- The digests of the AES3 outputs of a domain over the 8 frames of a base tick (R340). -/
def State.aesDigests (domB : Bool) (b : Nat) (s : State) : State :=
  each (List.range 64) (fun n s =>
    let a := s.aesPort true n
    let ch (k : Nat) : Nat := 0x2000 + 2 * n + k
    if a.domB != domB || ((s.aDest (ch 0)).samples.isEmpty && (s.aDest (ch 1)).samples.isEmpty) then s
    else
      let o := b + 8
      let cs := s.outputStatus a
      -- a FOLLOW output's converter gives samples of its own (R213, R217)
      let (free, s) := if a.mode = 3 then s.freeInts 16 else ([], s)
      let side (k : Nat) : List Int := if a.mode = 3 then (free.drop (8 * k)).take 8 else s.destSamples (ch k) o 8
      let (x, y) := (side 0, side 1)
      s.digestOn n 1 (o / 8 % 2 ^ 32) true ((List.range 8).flatMap (fun i =>
        let c := bit (u8 cs ((o + i - a.blockStart) % 192 / 8)) ((o + i - a.blockStart) % 192 % 8)
        subframe (x.getD i 0) (s.aDest (ch 0)).valid c ++ subframe (y.getD i 0) (s.aDest (ch 1)).valid c))) s

/-- A base tick boundary of a domain (R212): the block that ends there is taken and mixed, then the routes whose time has
come switch (R208). In QUIET and DORMANT nothing runs (R232). The arrivals of an AES3 input stand in the block of their index
(R219; log 58). -/
def audioTick (domB : Bool) (arrivals : List ChannelBlock) (s : State) : State :=
  let b := s.index domB / 8 * 8
  if s.power.state != .run || b < 8 then s
  else
    let blocks := arrivals.filter (fun x => x.channel < 0x3000 && s.srcDomB x.channel = domB && s.mayArrive x.channel)
    let s := s.onAudio (fun a => { a with srcs := a.srcs.map (fun c x =>
      if c < 0x3000 && !isBufCh c && s.srcDomB c = domB && !(blocks.any (fun y => y.channel = c)) then { x with present := false }
      else x) })
    let s := ((each blocks (fun x s => s.arrive b x) s).takePackets domB b).playout domB b
    let dests := (s.audio.dests.filter (fun e => s.dstDomB e.1 = domB)).map (·.1)
    let s := each dests (fun d s => s.mixDest d b) s
    let s := each (dests.filter isChordCh) (fun d s => s.feedProcess d b) s
    let s := if s.twin.mirrored then s.aesDigests domB b else s
    ((s.sendBundles domB b).capture domB b).switchRoutes domB b

def execAudioTick (domainB : Bool) (at_ : Nat) (arrivals : List ChannelBlock) (s : State) : Out :=
  .next (audioTick domainB arrivals (s.advance at_))

/-- A pending gain judged at one sample of its source (R227). -/
def execGainApply (dest : Nat) (previous sample : Int) (at_ : Nat) (s : State) : Out :=
  let s := s.advance at_
  .next (match (s.aDest dest).pendingGain with
    | none => s
    | some _ => s.onADest dest (AudioDest.takeGain (s.dstDomB dest) (s.index (s.dstDomB dest)) previous sample))

/-! What the AES3 receivers see (R210, R216, R217, R225). -/

/-- A complete channel status block of one subframe (R216); a change of non-audio content is reported (R210, R234). -/
def aesBlock (port : Nat) (sub : Bool) (cs us : List Byte) (s : State) : State :=
  let c := 0x2000 + 2 * port + flag sub
  let bad := bit (u8 cs 0) 0 && crccOf cs != cs.getD 23 0
  let s := s.onAes false port (fun a =>
    let a := if bad then { a with crccErrors := a.crccErrors + 1 } else a
    if sub then { a with csB := cs, userB := us } else { a with csA := cs, userA := us })
  let now := nonAudio cs
  if now = (s.aSrc c).nonPcm then s
  else (s.onASrc c (fun x => { x with nonPcm := now })).raise 10 8 c (bytes [flag now])

def execAesBlockReceived (port : Nat) (sub : Bool) (status user : List Byte) (s : State) : Out :=
  .next (if port ≤ 63 && status.length = 24 && user.length = 24 then aesBlock port sub status user s else s)

/-- An input locks (R216). -/
def execPortLock (port rateMhz : Nat) (s : State) : Out :=
  .next (if port > 63 || (s.aesPort false port).locked || rateMhz < 28000000 || rateMhz > 108000000 then s
    else (s.onAes false port (fun a => { a with locked := true, relocks := a.relocks + 1, rateMhz := rateMhz })).raise 10 1
      (aesObject false port) (leBytes 4 rateMhz))

/-- An input loses lock: its channels are lost (R216). -/
def execPortLoss (port : Nat) (s : State) : Out :=
  .next (if !(s.aesPort false port).locked then s
    else
      let s := s.onAes false port (fun a => { a with locked := false })
      let s := each [0x2000 + 2 * port, 0x2001 + 2 * port] (fun c s => s.onASrc c (fun x => { x with present := false })) s
      s.raise 10 2 (aesObject false port) [])

/-- The measured rate of an input (R217): more than 0.1 % from its domain's raises PORT_RATE. -/
def execPortRate (port rateMhz : Nat) (s : State) : Out :=
  let a := s.aesPort false port
  let want := 1000 * domainRate a.domB
  let off := (rateMhz : Int) - want
  .next (if !a.locked then s
    else
      let s := s.onAes false port (fun a => { a with rateMhz := rateMhz })
      if a.mode ≤ 1 && off.natAbs * 1000 > want then s.raise 10 3 (aesObject false port) (leBytes 4 rateMhz) else s)

/-- A port FIFO drops or repeats a subframe: the pairing moves by one (R225). -/
def pairSlip (out : Bool) (port : Nat) (overflow : Bool) (s : State) : State :=
  let a := s.aesPort out port
  if a.restarting then s
  else
    (s.onAes out port (fun a => { a with
      pairSlip := true, swapped := !a.swapped, slips := a.slips + 1, fifo := if overflow then 16 else 0 })).raise 10 4
        (aesObject out port) (leBytes 8 (s.index a.domB) ++ leBytes 2 (a.slips + 1).toNat)

def execPairSlip (output : Bool) (port : Nat) (overflow : Bool) (at_ : Nat) (s : State) : Out :=
  .next (if port > 63 then s else pairSlip output port overflow (s.advance at_))

/-- The start index of one armed AES_START is reached (R219): blocks begin, an input in a SYNC mode sets its FIFO, and a port
that waits for the trigger is refilled (R225). -/
def State.startPorts (a : AesStartArmed) (s : State) : State :=
  let go (out : Bool) (mask : Nat) (s : State) : State :=
    each ((List.range 64).filter (bit mask)) (fun n s => s.onAes out n (fun p =>
      { p with blockStart := if p.domB then a.indexB else a.indexA,
               fifo := if p.awaitTrigger || (!out && p.mode ≤ 1) then 8 else p.fifo, awaitTrigger := false })) s
  ((go true a.outMask (go false a.inMask s))).complete a.handle stOk (leBytes 8 a.indexA ++ leBytes 8 a.indexB)

/-- The armed starts whose index has been reached begin (R219). -/
def aesStartIndex (s : State) : State :=
  let due := s.audio.starts.filter (fun a => match a.startNs with | some t => t ≤ s.now | none => false)
  each due State.startPorts (s.onAudio (fun a => { a with starts := a.starts.filter (fun x => !due.contains x) }))

def execAesStartIndex (at_ : Nat) (s : State) : Out := .next (aesStartIndex (s.advance at_))

end Sys2Proof.Machine
end

