-- ==== Sys2Proof/Machine/ChordCore.lean ====
section
/-! DEFINITION. The Chord instruction set (R235 to R245): fields, validation, cycle count, and the run of a program. -/

namespace Sys2Proof.Machine

/-! Instruction fields (R241). -/

def cOp (i : Nat) : Nat := i / 2 ^ 58

/-- The bits that an instruction of an opcode may use (R241, R242); none for an undefined opcode. -/
def cUsed (i : Nat) : Option Nat :=
  let m (hi lo : Nat) : Nat := 2 ^ (hi + 1) - 2 ^ lo
  let opc := m 63 58
  let acc := m 57 56
  let d := m 55 52
  let x := if bit i 51 then m 51 51 + m 49 46 else m 51 47
  let y := if bit i 45 then m 45 45 + m 43 40 else m 45 41
  let lst := if bit i 53 then m 57 53 + m 48 46 + m 14 0 else m 57 49 + m 47 46
  match cOp i with
  | 0x00 | 0x01 => some opc
  | 0x02 => some (opc + m 57 46 + m 15 0)
  | 0x04 => some (opc + m 57 53 + (if bits i 54 53 = 0 then m 52 52 else 0) + m 15 0)
  | 0x05 => some (opc + m 57 55 + m 15 0)
  | 0x06 => some (opc + m 57 55 + m 51 43)
  | 0x08 | 0x09 => some (opc + lst)
  | 0x0C => some (opc + m 57 51 + m 31 0)
  | 0x10 | 0x11 => some (opc + acc + x + y + m 39 38)
  | 0x12 | 0x13 | 0x14 | 0x15 => some (opc + acc + x + y + m 38 38)
  | 0x18 => some (opc + acc)
  | 0x19 => some (opc + acc + x + m 38 38)
  | 0x1A => some (opc + acc + d + m 37 32)
  | 0x20 | 0x21 | 0x24 | 0x25 | 0x26 | 0x27 => some (opc + d + x + y)
  | 0x22 | 0x23 | 0x28 => some (opc + d + x)
  | _ => none

/-- A field out of its range (R241, R243). -/
def cRangeBad (i : Nat) : Bool :=
  match cOp i with
  | 0x04 =>
    let v := i % 65536
    if bits i 54 53 = 0 then v > 0x7FFF else if bits i 54 53 = 1 then v > 32768 else if bits i 54 53 = 2 then v > 32767 else false
  | 0x08 | 0x09 => bits i 47 46 = 3
  | 0x0C => bits i 53 52 = 3
  | 0x1A => let v := signed 6 (bits i 37 32); v < -16 || v > 16
  | _ => false

/-- An error of one instruction at `pc`, 0 for none; `ends` are the ends of the loops that contain it (R243, R245). -/
def cError (words pc i : Nat) (ends : List Nat) : Nat :=
  match cUsed i with
  | none => 3
  | some used =>
    if i &&& (2 ^ 64 - 1 - used) != 0 then 4
    else if cRangeBad i then 5
    else if cOp i = 0x09 && bit i 53 && bit i 48 then 8
    else if cOp i = 0x02 then
      let e := pc + bits i 57 46 + 2
      if i % 65536 = 0 || e > words || ends.length ≥ 2 || ends.any (fun x => e > x) then 6 else 0
    else if cOp i = 0x01 then (if pc + 1 = words && ends.isEmpty then 0 else if ends.isEmpty then 7 else 6)
    else if pc + 1 = words then 7
    else 0

/-- The first error of a program: its place and code (R243). -/
def cCheck (words : Nat) : Nat → List Nat → List Nat → Option (Nat × Nat)
  | _, _, [] => none
  | pc, ends, i :: r =>
    let ends := ends.filter (fun e => pc < e)
    let e := cError words pc i ends
    if e != 0 then some (pc, e)
    else cCheck words (pc + 1) (if cOp i = 0x02 then (pc + bits i 57 46 + 2) :: ends else ends) r

/-! The cycle count (R244). -/

/-- The register that an instruction writes (R244). -/
def cWrites (i : Nat) : Option Nat :=
  match cOp i with
  | 0x08 | 0x0C => some (bits i 57 54)
  | 0x1A | 0x20 | 0x21 | 0x22 | 0x23 | 0x24 | 0x25 | 0x26 | 0x27 | 0x28 => some (bits i 55 52)
  | _ => none

def cHasX (i : Nat) : Bool := [0x10, 0x11, 0x12, 0x13, 0x14, 0x15, 0x19, 0x20, 0x21, 0x22, 0x23, 0x24, 0x25, 0x26, 0x27, 0x28].contains (cOp i)
def cHasY (i : Nat) : Bool := [0x10, 0x11, 0x12, 0x13, 0x14, 0x15, 0x20, 0x21, 0x24, 0x25, 0x26, 0x27].contains (cOp i)

/-- The registers that an instruction reads as x, y or ST source (R244). -/
def cReads (i : Nat) : List Nat :=
  if cOp i = 0x09 then [bits i 57 54]
  else if cOp i = 0x06 then [bits i 51 48]
  else (if cHasX i && !bit i 51 then [bits i 50 47] else []) ++ (if cHasY i && !bit i 45 then [bits i 44 41] else [])

/-- The generator that GSET, GADD or GIDX changes (R244). -/
def cSets (i : Nat) : Option Nat :=
  if cOp i = 0x04 || cOp i = 0x05 || cOp i = 0x06 then some (bits i 57 55) else none

/-- The generators that an instruction uses (R244). -/
def cGens (i : Nat) : List Nat :=
  if cOp i = 0x04 || cOp i = 0x05 || cOp i = 0x06 then [bits i 57 55]
  else if cOp i = 0x08 || cOp i = 0x09 then (if bit i 53 then [] else [bits i 52 50])
  else (if cHasX i && bit i 51 then [bits i 49 47] else []) ++ (if cHasY i && bit i 45 then [bits i 43 41] else [])

/-- One cycle, and one more for a stall after the instruction executed before (R244). -/
def cCost (prev i : Nat) : Nat :=
  let reg := match cWrites prev with | some r => (cReads i).contains r | none => false
  let gen := match cSets prev with | some g => (cGens i).contains g | none => false
  if reg || gen then 2 else 1

/-- Cycles of the instructions from `pc` up to `stop`, and the instruction executed last; a loop's passes after the first
cost alike (R244, R245). -/
def cCycles (code : Array Nat) : Nat → Nat → Nat → Nat → Nat × Nat
  | 0, _, _, prev => (0, prev)
  | k + 1, pc, stop, prev =>
    if pc ≥ stop then (0, prev)
    else
      let i := code.getD pc 0
      let c := cCost prev i
      if cOp i = 0x02 then
        let e := pc + bits i 57 46 + 2
        let first := cCycles code k (pc + 1) e i
        let again := cCycles code k (pc + 1) e first.2
        let rest := cCycles code k e stop first.2
        (c + first.1 + (i % 65536 - 1) * again.1 + rest.1, rest.2)
      else
        let rest := cCycles code k (pc + 1) stop i
        (c + rest.1, rest.2)

/-- The cycle count C of a valid program (R244). -/
def programCycles (code : List Nat) : Nat := (cCycles code.toArray (code.length + 1) 0 code.length 0).1

/-! The state of a run. -/

/-- The engine while a placement runs (R235). -/
structure Run where
  regs : Tbl Cplx := []
  accs : Tbl Cplx := []
  gens : List Gen := []
  dm : Tbl Cplx := []
  dmSize : Nat := 0
  params : List Cplx := []
  faults : List Nat := []
  sats : Nat := 0
deriving DecidableEq, Repr

/-- Bounds of a register part and of an accumulator part (R236). -/
def satTo (n : Nat) (v : Int) : Int := clamp (-(2 ^ (n - 1))) (2 ^ (n - 1) - 1) v

def regPart (v : Int) : Int × Nat := (satTo 40 v, if satTo 40 v = v then 0 else 1)
def accPart (v : Int) : Int × Nat := (satTo 96 v, if satTo 96 v = v then 0 else 1)

def Run.reg (r : Run) (n : Nat) : Cplx := r.regs.at n {}
def Run.acc (r : Run) (n : Nat) : Cplx := r.accs.at n {}
def Run.gen (r : Run) (n : Nat) : Gen := r.gens.getD n {}

/-- A register result, saturated (R237). -/
def Run.setReg (n : Nat) (re im : Int) (r : Run) : Run :=
  let a := regPart re
  let b := regPart im
  { r with regs := r.regs.put n { re := a.1, im := b.1 }, sats := r.sats + a.2 + b.2 }

/-- An accumulator result, saturated (R237). -/
def Run.setAcc (n : Nat) (re im : Int) (r : Run) : Run :=
  let a := accPart re
  let b := accPart im
  { r with accs := r.accs.put n { re := a.1, im := b.1 }, sats := r.sats + a.2 + b.2 }

def Run.setGen (n : Nat) (g : Gen) (r : Run) : Run := { r with gens := r.gens.set n g }

/-- An index advanced (R239). -/
def Gen.advance (k : Int) (g : Gen) : Gen :=
  if g.length > 0 then { g with index := (g.index + k) % (g.length : Int) } else { g with index := g.index + k }

/-- A memory word read; outside its space it is an address fault and reads 0 (R239, R258). -/
def Run.read (space : Bool) (addr : Int) (r : Run) : Cplx × Run :=
  let size := if space then r.params.length else r.dmSize
  if 0 ≤ addr && addr < size then
    (if space then r.params.getD addr.toNat {} else r.dm.at addr.toNat {}, r)
  else ({}, { r with faults := (addr % 65536).toNat :: r.faults })

/-- A data word written; outside the data space it is an address fault and nothing is written (R258). -/
def Run.write (space : Bool) (addr : Int) (v : Cplx) (r : Run) : Run :=
  if !space && 0 ≤ addr && addr < r.dmSize then { r with dm := r.dm.put addr.toNat v }
  else { r with faults := (addr % 65536).toNat :: r.faults }

/-- A word read through a generator, which post-modifies it when asked (R239). -/
def Run.readGen (g : Nat) (inc : Bool) (r : Run) : Cplx × Run :=
  let x := r.gen g
  let q := r.read x.space ((x.base : Int) + x.index)
  (q.1, if inc then q.2.setGen g (x.advance x.step) else q.2)

/-- The x operand of a format A instruction (R241). -/
def Run.opX (i : Nat) (r : Run) : Cplx × Run :=
  if bit i 51 then r.readGen (bits i 49 47) (bit i 46) else (r.reg (bits i 50 47), r)

/-- The y operand of a format A instruction (R241). -/
def Run.opY (i : Nat) (r : Run) : Cplx × Run :=
  if bit i 45 then r.readGen (bits i 43 41) (bit i 40) else (r.reg (bits i 44 41), r)

/-- Bits below the sign bit of a 40-bit part that equal it (R242). -/
def lrs (v : Int) : Nat := 39 - (if v < 0 then -v - 1 else v).toNat.size

/-- floor(v / 2^n), rounded to nearest with ties towards +∞ (R237). -/
def roundShift (v : Int) (n : Nat) : Int := if n = 0 then v else Int.fdiv (v + 2 ^ (n - 1)) (2 ^ n)

/-- A part shifted left by a signed amount, right shifts rounded (R242 NORM). -/
def normPart (v k : Int) : Int :=
  let k := clamp (-39) 39 k
  if k ≥ 0 then v * 2 ^ k.toNat else roundShift v (-k).toNat

/-- An accumulator part as a register part times 2^sh (R242 RND). -/
def rndPart (v sh : Int) : Int := if sh ≥ 0 then roundShift (v * 2 ^ sh.toNat) 31 else roundShift v (31 + (-sh).toNat)

/-- The parts of a value that an instruction names, the others kept (R241). -/
def partOf (part : Nat) (old new : Cplx) : Cplx :=
  if part = 0 then new else if part = 1 then { old with re := new.re } else { old with im := new.im }

/-- One instruction other than LOOP and TEND (R242). -/
def Run.step (i : Nat) (r : Run) : Run :=
  let a := bits i 57 56
  let d := bits i 55 52
  let neg (v : Int) : Int := if bit i 38 then -v else v
  let g := bits i 57 55
  let old := r.acc a
  match cOp i with
  | 0x04 =>
    let x := r.gen g
    let v := i % 65536
    r.setGen g (match bits i 54 53 with
      | 0 => { x with base := v, space := bit i 52 }
      | 1 => { x with length := v }
      | 2 => { x with index := v }
      | _ => { x with step := signed 16 v })
  | 0x05 => r.setGen g ((r.gen g).advance (signed 16 (i % 65536)))
  | 0x06 =>
    let x := r.gen g
    let top : Int := if x.length = 0 then 32767 else (x.length : Int) - 1
    r.setGen g { x with index := clamp 0 top (Int.fdiv (r.reg (bits i 51 48)).re (2 ^ bits i 47 43)) }
  | 0x08 =>
    let n := bits i 57 54
    let q := if bit i 53 then r.read (bit i 48) ((i % 32768 : Nat) : Int) else r.readGen (bits i 52 50) (bit i 49)
    let v := partOf (bits i 47 46) (q.2.reg n) q.1
    q.2.setReg n v.re v.im
  | 0x09 =>
    let v := r.reg (bits i 57 54)
    let x := r.gen (bits i 52 50)
    let space := if bit i 53 then false else x.space
    let addr : Int := if bit i 53 then ((i % 32768 : Nat) : Int) else (x.base : Int) + x.index
    let was := if 0 ≤ addr then r.dm.at addr.toNat {} else {}
    let r := r.write space addr (partOf (bits i 47 46) was v)
    if !bit i 53 && bit i 49 then r.setGen (bits i 52 50) (x.advance x.step) else r
  | 0x0C =>
    let n := bits i 57 54
    let v := signed 32 (i % 2 ^ 32) * (if bit i 51 then 1 else 16)
    let c := partOf (bits i 53 52) (r.reg n) { re := v, im := v }
    r.setReg n c.re c.im
  | 0x18 => r.setAcc a 0 0
  | 0x1A => r.setReg d (rndPart old.re (signed 6 (bits i 37 32))) (rndPart old.im (signed 6 (bits i 37 32)))
  | _ =>
    if !cHasX i then r
    else
      let q := r.opX i
      let x := q.1
      let p := if cHasY i then q.2.opY i else ({}, q.2)
      let y := p.1
      let r := p.2
      let yi := if bit i 39 then -y.im else y.im
      match cOp i with
      | 0x10 => r.setAcc a (neg (x.re * y.re - x.im * yi)) (neg (x.re * yi + x.im * y.re))
      | 0x11 => r.setAcc a (old.re + neg (x.re * y.re - x.im * yi)) (old.im + neg (x.re * yi + x.im * y.re))
      | 0x12 => r.setAcc a (neg (x.re * y.re)) (neg (x.im * y.im))
      | 0x13 => r.setAcc a (old.re + neg (x.re * y.re)) (old.im + neg (x.im * y.im))
      | 0x14 => r.setAcc a (neg (x.re * y.re)) (neg (x.re * y.im))
      | 0x15 => r.setAcc a (old.re + neg (x.re * y.re)) (old.im + neg (x.re * y.im))
      | 0x19 => r.setAcc a (old.re + neg (x.re * 2 ^ 31)) (old.im + neg (x.im * 2 ^ 31))
      | 0x20 => r.setReg d (x.re + y.re) (x.im + y.im)
      | 0x21 => r.setReg d (x.re - y.re) (x.im - y.im)
      | 0x22 => r.setReg d (-x.re) (-x.im)
      | 0x23 => r.setReg d (if x.re < 0 then -x.re else x.re) (if x.im < 0 then -x.im else x.im)
      | 0x24 => r.setReg d (max x.re y.re) (max x.im y.im)
      | 0x25 => r.setReg d (min x.re y.re) (min x.im y.im)
      | 0x26 => r.setReg d (min (min (lrs x.re : Int) (lrs x.im)) y.re) 0
      | 0x27 => r.setReg d (normPart x.re y.re) (normPart x.im y.re)
      | 0x28 => r.setReg d x.im x.re
      | _ => r

/-- A program from `pc` with its active loops (start, end, iterations left), for at most so many instructions (R245). -/
def Run.go (code : Array Nat) : Nat → Nat → List (Nat × Nat × Nat) → Run → Run
  | 0, _, _, r => r
  | k + 1, pc, loops, r =>
    match loops with
    | (start, stop, left) :: outer =>
      if pc = stop then
        (if left > 1 then Run.go code k start ((start, stop, left - 1) :: outer) r else Run.go code k pc outer r)
      else
        let i := code.getD pc 0
        if cOp i = 0x02 then
          Run.go code k (pc + 1) ((pc + 1, pc + bits i 57 46 + 2, i % 65536) :: (start, stop, left) :: outer) r
        else Run.go code k (pc + 1) ((start, stop, left) :: outer) (r.step i)
    | [] =>
      let i := code.getD pc 0
      if cOp i = 0x01 then r
      else if cOp i = 0x02 then Run.go code k (pc + 1) [(pc + 1, pc + bits i 57 46 + 2, i % 65536)] r
      else Run.go code k (pc + 1) [] (r.step i)

end Sys2Proof.Machine
end

