-- ==== Sys2Proof/Machine/Chord.lean ====
section
/-! DEFINITION. Chord processes, images, placements, delay lines, ticks and epoch cuts (R195, R196, R246 to R261). -/

namespace Sys2Proof.Machine

def State.proc (s : State) (n : Nat) : Process := s.chord.processes.at n {}
def State.onProc (s : State) (n : Nat) (f : Process → Process) : State :=
  s.onChord (fun c => match c.processes.get? n with
    | some p => { c with processes := c.processes.put n (f p) }
    | none => c)

/-- A placement of a process changed. -/
def Process.onPlacement (epoch : Nat) (f : Placement → Placement) (p : Process) : Process :=
  { p with placements := p.placements.map (fun x => if x.epoch = epoch then f x else x) }

/-- A block length (R246). -/
def blockOk (n : Nat) : Bool := n = 8 || n = 16 || n = 32 || n = 64

/-- Words of a region for so many channels (R247). -/
def regionWords (count n : Nat) (pair : Bool) : Nat := (if pair then cdiv count 2 else count) * n

def Process.inWords (p : Process) : Nat := regionWords p.inCount p.n p.inPair
def Process.outWords (p : Process) : Nat := regionWords p.outCount p.n p.outPair

/-- The size of a placement's data space (R247). -/
def Process.dataWords (p : Process) (x : Placement) : Nat := p.inWords + p.outWords + x.dmWords

/-- Cycles per tick (R248). -/
def tickCycles (domB : Bool) (n : Nat) : Nat := if domB then 12500 * n else 25000 * n

/-- The placements on an engine, with their processes, in ascending process number (R249). -/
def State.onEngine (e : Nat) (s : State) : List (Nat × Process × Placement) :=
  s.chord.processes.flatMap (fun q => (q.2.placements.filter (fun x => x.engine = e)).map (fun x => (q.1, q.2, x)))

/-- Reserved cycles, program words and data words of an engine (R250). -/
def State.engineUse (e : Nat) (s : State) : Nat × Nat × Nat :=
  (s.onEngine e).foldl (fun u q => (u.1 + q.2.2.cycles + 32, u.2.1 + q.2.2.code.length,
    u.2.2 + q.2.1.dataWords q.2.2 + 2 * q.2.1.paramWords)) (0, 0, 0)

def engineConfigBody : Body := fun rq s =>
  let p := rq.payload
  if p.length != 4 || u8 p 0 > 31 || u8 p 1 > 1 || !blockOk (u8 p 2) || u8 p 3 != 0 then fail stBadParam s
  else if !(s.onEngine (u8 p 0)).isEmpty then fail stWrongState s
  else ok (s.onChord (fun c => { c with engines := c.engines.put (u8 p 0) { n := u8 p 2, domainB := u8 p 1 = 1 } }))

def execEngineConfig (rq : Request) (s : State) : Out := .next (command 0x6001 engineConfigBody rq s)

def engineStatusBody : Body := fun rq s =>
  let e := u8 rq.payload 0
  let x := s.chord.engines.at e {}
  let u := s.engineUse e
  require (rq.payload.length = 4 && e ≤ 31 && zeroAt rq.payload 1 3)
    (okWith (bytes [e, flag x.domainB, x.n, if x.n = 0 then 0 else if (s.onEngine e).isEmpty then 1 else 2]
      ++ leBytes 4 (tickCycles x.domainB x.n) ++ leBytes 4 u.1 ++ leBytes 2 u.2.1 ++ leBytes 2 u.2.2) s) s

def execEngineStatus (rq : Request) (s : State) : Out := .next (command 0x6002 engineStatusBody rq s)

/-- Two ranges of channels that share one (R246). -/
def overlap (a n b m : Nat) : Bool := a < b + m && b < a + n

def procCreateBody : Body := fun rq s =>
  let p := rq.payload
  let id := u16 p 0
  let q : Process :=
    { domainB := u8 p 2 = 1, n := u8 p 3, inFirst := u16 p 4, inCount := u16 p 6, outFirst := u16 p 8, outCount := u16 p 10
      inPair := bit (u8 p 12) 0, outPair := bit (u8 p 12) 1, inSmaj := bit (u8 p 12) 2, outSmaj := bit (u8 p 12) 3
      paramWords := u16 p 14, restFirst := u16 p 16, restWords := u16 p 18 }
  if p.length != 24 || id > 511 || u8 p 2 > 1 || !blockOk q.n || q.inFirst > 2047 || q.inCount > 256 || q.outFirst > 2047
      || q.outCount = 0 || q.outCount > 256 || q.inFirst + q.inCount > 2048 || q.outFirst + q.outCount > 2048
      || u8 p 12 > 15 || u8 p 13 != 0 || q.paramWords > 2048 || q.restFirst + q.restWords > 32768 || !zeroAt p 20 4 then
    fail stBadParam s
  else if (s.chord.processes.get? id).isSome then fail stWrongState s
  else if s.chord.processes.has (fun _ x => overlap x.inFirst x.inCount q.inFirst q.inCount
      || overlap x.outFirst x.outCount q.outFirst q.outCount) then fail stBadParam s
  else ok ((s.onChord (fun c => { c with processes := c.processes.put id q })).onSet id (fun _ => {}))

def execProcCreate (rq : Request) (s : State) : Out := .next (command 0x6003 procCreateBody rq s)

def procDeleteBody : Body := fun rq s =>
  let p := rq.payload
  let id := u16 p 0
  match s.chord.processes.get? id with
  | none => fail stBadParam s
  | some q =>
    if p.length != 4 || !zeroAt p 2 2 then fail stBadParam s
    else if !q.placements.isEmpty || s.chord.lines.has (fun _ l => l.process = id && l.ring != 0) then fail stWrongState s
    else
      let h := (s.paramSet id).handle
      ok (((s.onChord (fun c => { c with processes := c.processes.del id })).onSet id
        (fun x => { x with armed := none, handle := none })).completeOpt h stWrongState [])

def execProcDelete (rq : Request) (s : State) : Out := .next (command 0x6004 procDeleteBody rq s)

/-! Images (R251). -/

def slotSize : Nat := 393312

def progWriteBody : Body := fun rq s =>
  let p := rq.payload
  let off := u32 p 4
  let n := u16 p 8
  require (p.length = 12 + n && u8 p 0 ≤ 3 && zeroAt p 1 3 && 1 ≤ n && n ≤ 4000 && off + n ≤ slotSize && zeroAt p 10 2)
    (ok (s.onChord (fun c => { c with slots := c.slots.upd (u8 p 0) [] (fun m => Memory.writeN m off (p.drop 12)) }))) s

def execProgWrite (rq : Request) (s : State) : Out := .next (command 0x6005 progWriteBody rq s)

/-- What a slot's image holds (R251). -/
structure Image where
  code : List Nat := []
  dmWords : Nat := 0
  gens : List Gen := []
  init : List Cplx := []
  cycles : Nat := 0
deriving DecidableEq, Repr

/-- A Q5.27 word as a register word (R237). -/
def paramWord (b : List Byte) : Cplx := { re := 16 * s32 b 0, im := 16 * s32 b 4 }

def parseGen (b : List Byte) : Gen :=
  { base := u16 b 0 % 32768, space := bit (u16 b 0) 15, length := u16 b 2, index := (u16 b 4 : Nat), step := s16 b 6 }

/-- The validation of a slot's image (R243, R251): the image, the place and the code of its first error. -/
def checkImage (m : Memory) : Image × Nat × Nat :=
  let h := Memory.readN m 0 96
  let words := u16 h 6
  let dm := u16 h 8
  let init := u16 h 10
  if u32 h 0 != 0x92560C4D || u16 h 4 != 1 then ({}, 0xFFFF, 1)
  else if words < 2 || words > 16384 || dm > 32768 || init > dm then ({}, 0xFFFF, 5)
  else if crc32c (Memory.readN m 32 (64 + 8 * words + 8 * init)) != u32 h 16 then ({}, 0xFFFF, 2)
  else if !zeroAt h 20 12 then ({}, 0xFFFF, 4)
  else
    let gens := (records h 32 8 8).map parseGen
    let code := (List.range words).map (fun i => u64 (Memory.readN m (96 + 8 * i) 8) 0)
    let image : Image :=
      { code := code, dmWords := dm, gens := gens,
        init := (List.range init).map (fun i => paramWord (Memory.readN m (96 + 8 * words + 8 * i) 8)) }
    if gens.any (fun g => g.length > 32768 || g.index > 32767) then (image, 0xFFFF, 5)
    else
      match cCheck words 0 [] code with
      | some (pc, e) => (image, pc, e)
      | none =>
        let c := programCycles code
        let image := { image with cycles := c }
        if u32 h 12 != 0 && u32 h 12 != c then (image, 0xFFFF, 9) else (image, 0xFFFF, 0)

def progCheckBody : Body := fun rq s =>
  let n := u8 rq.payload 0
  require (rq.payload.length = 4 && n ≤ 3 && zeroAt rq.payload 1 3)
    (let m := s.chord.slots.at n []
     let r := checkImage m
     okWith (Memory.readN m 6 2 ++ Memory.readN m 8 2 ++ leBytes 4 r.1.cycles ++ leBytes 2 r.2.1 ++ bytes [r.2.2, 0]) s) s

def execProgCheck (rq : Request) (s : State) : Out := .next (command 0x6006 progCheckBody rq s)

/-! Placement (R252 to R254). -/

/-- The first tick boundary at least 2 ms ahead (R252). -/
def State.soonest (q : Process) (s : State) : Nat := boundaryAt q.domainB q.n (s.now + 2000000)

/-- Index 0 stands for the first tick boundary at least 2 ms ahead (R252, R260). -/
def State.indexOr (q : Process) (i : Nat) (s : State) : Nat := if i = 0 then s.soonest q else i

/-- A placement made and its image loaded (R247, R251, R252). -/
def State.place (id : Nat) (q : Process) (x : Placement) (image : Image) (s : State) : State :=
  let priv := q.inWords + q.outWords
  let dm : Tbl Cplx := image.init.zipIdx.map (fun e => (priv + e.2, e.1))
  let x := { x with cycles := image.cycles, code := image.code, dmWords := image.dmWords, gens := image.gens, dm := dm }
  s.onProc id (fun q => { q with placements := q.placements ++ [x], epoch := if q.placements.isEmpty then x.epoch else q.epoch })

def procPlaceBody : Body := fun rq s =>
  let p := rq.payload
  let id := u16 p 0
  let epoch := u16 p 2
  let e := u8 p 4
  let remote := e = 0xFF
  if p.length != 16 || id > 511 || epoch = 0 || (!remote && (e > 31 || u8 p 5 > 3)) || (remote && u8 p 6 > 31) || u8 p 7 != 0 then
    fail stBadParam s
  else
    match s.chord.processes.get? id with
    | none => fail stWrongState s
    | some q =>
      let start := s.indexOr q (u64 p 8)
      let image := if remote then ({}, 0xFFFF, 0) else checkImage (s.chord.slots.at (u8 p 5) [])
      let eng := s.chord.engines.at e {}
      if image.2.2 != 0 || start % q.n != 0 || q.placements.any (fun x => x.epoch = epoch) then fail stBadParam s
      else if q.placements.length ≥ 2 || (!remote && (eng.n != q.n || eng.domainB != q.domainB)) then fail stWrongState s
      else if indexTime q.domainB start < s.now + 2000000 then fail stLate s
      else
        let u := s.engineUse e
        let x : Placement := { epoch := epoch, engine := e, bundle := u8 p 6, startIndex := start,
                               startHandle := some (handleOf 0x6007 rq) }
        let words := q.inWords + q.outWords + image.1.dmWords + 2 * q.paramWords
        if !remote && (u.1 + image.1.cycles + 32 > tickCycles q.domainB q.n || u.2.1 + image.1.code.length > 16384
            || u.2.2 + words > 32768) then fail stResource s
        else accepted (s.place id q x image.1)

def execProcPlace (rq : Request) (s : State) : Out := .next (command 0x6007 procPlaceBody rq s)

/-- At start_index a LOADED placement runs (R252). -/
def placeStarted (id epoch : Nat) (s : State) : State :=
  match s.chord.processes.get? id with
  | none => s
  | some q =>
    match q.placements.find? (fun x => x.epoch = epoch) with
    | none => s
    | some x =>
      if x.running || s.index q.domainB < x.startIndex then s
      else
        let s := s.onProc id (Process.onPlacement epoch (fun x => { x with running := true, startHandle := none }))
        let s := s.raise 10 0x20 id (leBytes 2 epoch ++ bytes [x.engine] ++ leBytes 8 x.startIndex)
        s.completeOpt x.startHandle stOk (bytes [x.engine, 0] ++ leBytes 2 epoch ++ leBytes 4 x.cycles ++ leBytes 8 x.startIndex)

def execPlaceStarted (process epoch at_ : Nat) (s : State) : Out := .next (placeStarted process epoch (s.advance at_))

/-- The cut, pending or completed, that makes a placement no longer current (R254). -/
def State.cutOf (id : Nat) (q : Process) (epoch : Nat) (s : State) : Option Nat :=
  match s.hier.cuts.find? (fun c => c.process = id && c.oldEpoch = epoch) with
  | some c => some c.cutIndex
  | none => if q.epoch != epoch && q.cutIndex != 0 then some q.cutIndex else none

def procUnplaceBody : Body := fun rq s =>
  let p := rq.payload
  let id := u16 p 0
  let epoch := u16 p 2
  if p.length != 16 || id > 511 || !zeroAt p 4 4 then fail stBadParam s
  else
    match s.chord.processes.get? id with
    | none => fail stWrongState s
    | some q =>
      let stop := s.indexOr q (u64 p 8)
      if !q.placements.any (fun x => x.epoch = epoch) || stop % q.n != 0
          || (match s.cutOf id q epoch with | some c => stop < c + q.n | none => false) then fail stBadParam s
      else if q.epoch = epoch && q.placements.length > 1 then fail stWrongState s
      else if indexTime q.domainB stop < s.now + 2000000 then fail stLate s
      else accepted (s.onProc id (Process.onPlacement epoch (fun x =>
        { x with stopIndex := some stop, stopHandle := some (handleOf 0x6008 rq) })))

def execProcUnplace (rq : Request) (s : State) : Out := .next (command 0x6008 procUnplaceBody rq s)

/-- A placement stops and is freed (R252, R254, R258). -/
def State.freePlacement (id : Nat) (x : Placement) (cause index : Nat) (s : State) : State :=
  let s := s.onProc id (fun q => { q with placements := q.placements.filter (fun y => y.epoch != x.epoch) })
  let s := s.raise 10 0x21 id (leBytes 2 x.epoch ++ bytes [cause] ++ leBytes 8 index)
  (s.completeOpt x.startHandle stWrongState []).completeOpt x.stopHandle stOk []

/-- At stop_index a placement stops (R252). -/
def placeStopped (id epoch : Nat) (s : State) : State :=
  match s.chord.processes.get? id with
  | none => s
  | some q =>
    match q.placements.find? (fun x => x.epoch = epoch) with
    | none => s
    | some x =>
      match x.stopIndex with
      | none => s
      | some i => if s.index q.domainB < i then s else s.freePlacement id x 1 i

def execPlaceStopped (process epoch at_ : Nat) (s : State) : Out := .next (placeStopped process epoch (s.advance at_))

/-- An uncorrectable program-memory error stops the placement (R258). -/
def pmUncorrectable (e id : Nat) (s : State) : State :=
  match s.chord.processes.get? id with
  | none => s
  | some q =>
    match q.placements.find? (fun x => x.engine = e) with
    | none => s
    | some x => (s.freePlacement id x 2 (s.index q.domainB)).fault (0x140 + e) 0x31 id

def execPmUncorrectable (engine process at_ : Nat) (s : State) : Out :=
  .next (if engine > 31 then s else pmUncorrectable engine process (s.advance at_))

/-- A placement record of PROC_STATUS (R260). -/
def placementBytes : Option Placement → List Byte
  | none => zeros 8
  | some x => leBytes 2 x.epoch ++ bytes [x.engine, if x.running then 2 else 1] ++ leBytes 4 x.cycles

/-- The PROC_STATUS record of a process (R260). -/
def procRecord (id : Nat) (q : Process) : List Byte :=
  leBytes 2 id ++ leBytes 2 q.epoch ++ bytes [q.placements.length, flag q.resting, flag q.domainB, q.n]
    ++ placementBytes q.placements[0]? ++ placementBytes q.placements[1]? ++ leBytes 4 q.saturations.toNat
    ++ leBytes 4 q.addrFaults.toNat

def procStatusBody : Body := fun rq s =>
  let id := u16 rq.payload 0
  match s.chord.processes.get? id with
  | none => fail stBadParam s
  | some q => require (rq.payload.length = 4 && zeroAt rq.payload 2 2) (okWith (procRecord id q) s) s

def execProcStatus (rq : Request) (s : State) : Out := .next (command 0x6009 procStatusBody rq s)

/-! Delay lines (R256). -/

/-- A range of a VA cleared to zero (R256). -/
def State.rtZero (va n : Nat) (s : State) : State :=
  each (plateRuns 64 va n) (fun r s =>
    match s.rtTarget r.1 r.2 true with
    | .inl off => s.onMem (fun m => { m with dram := Memory.clear m.dram off r.2,
                                             poison := m.poison.filter (fun l => !(off ≤ l && l + 64 ≤ off + r.2)) })
    | .inr _ => s) s

def delaySetBody : Body := fun rq s =>
  let p := rq.payload
  let line := u16 p 0
  let id := u16 p 2
  let send := u16 p 4
  let ret := u16 p 6
  let d := u32 p 8
  let ring := u32 p 12
  let va := u64 p 16
  if p.length != 24 || line > 2047 then fail stBadParam s
  else if id = 0xFFFF then ok (s.onChord (fun c => { c with lines := c.lines.del line }))
  else if id > 511 then fail stBadParam s
  else
    match s.chord.processes.get? id with
    | none => fail stWrongState s
    | some q =>
      let here := q.placements.filter (fun x => x.engine != 255)
      if ring < 4 * q.n || ring > 16777216 || ring % q.n != 0 || d < 2 * q.n || d + 2 * q.n > ring || va + 4 * ring > 2 ^ 48
          || here.any (fun x => send + q.n > q.dataWords x || ret + q.n > q.dataWords x) then fail stBadParam s
      else if here.isEmpty || !s.rtPinned va (4 * ring) then fail stWrongState s
      else
        let l : DelayLine := { process := id, sendAddr := send, retAddr := ret, delay := d, newDelay := d, ring := ring, base := va }
        ok ((s.rtZero va (4 * ring)).onChord (fun c => { c with lines := c.lines.put line l }))

def execDelaySet (rq : Request) (s : State) : Out := .next (command 0x600A delaySetBody rq s)

/-- The active bank's words of a process (R255). -/
def State.params (id : Nat) (q : Process) (s : State) : List Cplx :=
  (List.range q.paramWords).map (fun w => paramWord (Memory.readN (s.paramSet id).active (8 * w) 8))

def dmReadBody : Body := fun rq s =>
  let p := rq.payload
  let id := u16 p 0
  let addr := u16 p 6
  let n := u16 p 8
  match s.chord.processes.get? id with
  | none => fail stBadParam s
  | some q =>
    match q.placements.find? (fun x => x.epoch = u16 p 2 && x.engine != 255) with
    | none => fail stBadParam s
    | some x =>
      let size := if u8 p 4 = 1 then q.paramWords else q.dataWords x
      let ps := if u8 p 4 = 1 then s.params id q else []
      require (p.length = 10 && u8 p 4 ≤ 1 && u8 p 5 = 0 && 1 ≤ n && n ≤ 400 && addr + n ≤ size)
        (okWith ((List.range n).flatMap (fun i =>
          let w := if u8 p 4 = 1 then ps.getD (addr + i) {} else x.dm.at (addr + i) {}
          leInt 5 w.re ++ leInt 5 w.im)) s) s

def execDmRead (rq : Request) (s : State) : Out := .next (command 0x600B dmReadBody rq s)

/-! The engine tick (R247, R249, R256, R257, R258). -/

/-- A ring position of a delay line for a sample index (R256). -/
def DelayLine.slot (l : DelayLine) (i : Int) : Nat := l.base + 4 * (i % (l.ring : Int)).toNat

/-- At most one fault message of a line per ms (R297). -/
def State.lineFault (n cause va : Nat) (s : State) : State :=
  let l := s.chord.lines.at n {}
  let quiet : Bool := match l.lastFault with | some t => s.now < t + 1000000 | none => false
  if quiet then s
  else (s.onChord (fun c => { c with lines := c.lines.put n { l with lastFault := some s.now } })).rtFault (44 + n % 4) cause va

/-- The return block of a line for the block of indices from `s0` (R256); a fault makes it silent (R297). -/
def State.lineReturn (n s0 blk : Nat) (l : DelayLine) (s : State) : List Int × State :=
  let va (i : Nat) : Nat := l.slot ((s0 + i : Nat) - (l.delay : Int))
  match (List.range blk).findSome? (fun i => (s.rtCause (va i) 4 false).map (fun c => (c, va i))) with
  | some (cause, at_) => (List.replicate blk 0, s.lineFault n cause at_)
  | none => (List.range blk).foldl (fun (a : List Int × State) i =>
      let (b, s) := a.2.rtRead (va i) 4
      (a.1 ++ [s32 b 0 * 256], s)) ([], s)

/-- The send block of a line written to its ring (R256); a fault discards it (R297). -/
def State.lineSend (n s0 : Nat) (l : DelayLine) (xs : List Int) (s : State) : State :=
  let va (i : Nat) : Nat := l.slot (s0 + i : Nat)
  match (List.range xs.length).findSome? (fun i => (s.rtCause (va i) 4 true).map (fun c => (c, va i))) with
  | some (cause, at_) => s.lineFault n cause at_
  | none => each xs.zipIdx (fun x s => s.rtWrite (va x.2) (leInt 4 (Int.fdiv x.1 256))) s

/-- The delay lines of a process. -/
def State.linesOf (id : Nat) (s : State) : List (Nat × DelayLine) :=
  s.chord.lines.filter (fun e => e.2.process = id && e.2.ring != 0)

/-- Whether an input of a process rests (R257): its source is NONE, or silent with chord_release. -/
def State.inputRests (d : Nat) (s : State) : Bool :=
  let r := (s.aDest d).route.source
  r = 65535 || ((s.aSrc r).silent && bit (s.aSrc r).actions 2)

/-- Whether a process has all its inputs at rest (R257; log 73). -/
def State.rests (q : Process) (s : State) : Bool :=
  q.inCount != 0 && (List.range q.inCount).all (fun i => s.inputRests (0x3000 + q.inFirst + i))

/-- Where sample `n` of unit `u` lies in a region (R247). -/
def unitWord (u n blk units : Nat) (smaj : Bool) : Nat := if smaj then n * units + u else u * blk + n

/-- The input region of a run (R238, R247). -/
def Process.inputRegion (q : Process) : Tbl Cplx :=
  let units := if q.inPair then cdiv q.inCount 2 else q.inCount
  let chan (c : Nat) : List Int := let l := q.inputs.at c []; let l := l.drop (l.length - q.n)
                                   List.replicate (q.n - l.length) 0 ++ l
  (List.range units).foldl (fun t u =>
    let re := chan (if q.inPair then 2 * u else u)
    let im := if q.inPair && 2 * u + 1 < q.inCount then chan (2 * u + 1) else List.replicate q.n 0
    (List.range q.n).foldl (fun t n =>
      t.put (unitWord u n q.n units q.inSmaj) { re := 256 * re.getD n 0, im := 256 * im.getD n 0 }) t) []

/-- A register part as a sample (R238). -/
def partSample (v : Int) : Int := sat24 (Int.fdiv (v + 128) 256)

/-- The samples of an output channel from the data space (R238, R247). -/
def Process.outputSamples (q : Process) (dm : Tbl Cplx) (c : Nat) : List Int :=
  let units := if q.outPair then cdiv q.outCount 2 else q.outCount
  let u := if q.outPair then c / 2 else c
  (List.range q.n).map (fun n =>
    let w := dm.at (q.inWords + unitWord u n q.n units q.outSmaj) {}
    partSample (if q.outPair && c % 2 = 1 then w.im else w.re))

/-- The results of a run go into the output channels up to index `top`: each sample whose index takes the run's epoch,
and no other (R195, R249, R253). -/
def Process.emitOutputs (top : Nat) (takes : Nat → Bool) (xs : Nat → List Int) (q : Process) : Process :=
  let last := max top q.outIndex
  let first := last - q.n - 128
  { q with
    outIndex := last
    outputs := (List.range q.outCount).map (fun c =>
      let old := (sliceAt (q.outputs.at c []) q.outIndex first (last - first)).2
      let new := xs c
      (c, old.zipIdx.map (fun v =>
        let i := first + v.2
        if top ≤ i + q.n && i < top && takes i then new.getD (i + q.n - top) 0 else v.1))) }

/-- A result block of which a sample is not taken is counted, and one of the old epoch from a cut index on is counted for
that cut too (R196, R253). -/
def State.countDropped (id epoch first n : Nat) (s : State) : State :=
  let q := s.proc id
  if (List.range n).all (fun k => s.epochAt id q (first + k) = epoch) then s
  else
    (s.onProc id (fun q => { q with dropped := q.dropped + 1 })).onHier (fun h => { h with cuts := h.cuts.map (fun c =>
      if c.process = id && c.oldEpoch = epoch && c.cutIndex < first + n then { c with dropped := c.dropped + 1 } else c) })

/-- One run of a placement over the block of indices from `s0` (R240, R247, R249, R256, R258). -/
def State.runPlacement (id e s0 : Nat) (q : Process) (x : Placement) (s : State) : State :=
  let lines := s.linesOf id
  let (returns, s) := lines.foldl (fun (a : List (Nat × List Int) × State) l =>
    let (xs, s) := a.2.lineReturn l.1 s0 q.n l.2
    (a.1 ++ [(l.2.retAddr, xs)], s)) ([], s)
  let priv := q.inWords + q.outWords
  let dm : Tbl Cplx := q.inputRegion ++ x.dm.filter (fun w => priv ≤ w.1)
  let dm := returns.foldl (fun (t : Tbl Cplx) r => r.2.zipIdx.foldl (fun t v => t.put (r.1 + v.2) { re := v.1, im := 0 }) t) dm
  let start : Run := { gens := x.gens, dm := dm, dmSize := q.dataWords x, params := s.params id q }
  let r := Run.go x.code.toArray (4 * x.cycles + 8) 0 [] start
  let takes (i : Nat) : Bool := s.epochAt id q i = x.epoch
  let current := takes s0
  let s := s.onProc id (fun q =>
    let q := q.onPlacement x.epoch (fun x => { x with gens := r.gens, dm := r.dm })
    let q := { q with saturations := q.saturations + BitVec.ofNat 32 r.sats,
                      addrFaults := q.addrFaults + BitVec.ofNat 32 r.faults.length }
    q.emitOutputs (s0 + q.n) takes (q.outputSamples r.dm))
  let s := s.countDropped id x.epoch s0 q.n
  let s := match r.faults.getLast? with
    | some a => s.fault (0x140 + e) 0x30 (id * 2 ^ 32 + a)
    | none => s
  let told : Bool := match q.lastSatEvent with | some t => s.now < t + sec | none => false
  let s := if r.sats > 0 && !told then
      (s.onProc id (fun q => { q with lastSatEvent := some s.now })).raise 10 0x24 id
        (leBytes 2 x.epoch ++ leBytes 4 (s.proc id).saturations.toNat)
    else s
  if current then
    each lines (fun l s => s.lineSend l.1 s0 l.2 ((List.range q.n).map (fun i => (r.dm.at (l.2.sendAddr + i) {}).re))) s
  else s

/-- A process enters rest: its rest words are zeroed in each placement, once (R257). -/
def State.enterRest (id index : Nat) (q : Process) (s : State) : State :=
  (s.onProc id (fun p => { p with
    resting := true
    placements := p.placements.map (fun x =>
      { x with dm := x.dm.filter (fun w => !(q.restFirst ≤ w.1 && w.1 < q.restFirst + q.restWords)) }) })).raise 10 0x22 id
        (leBytes 8 index)

/-- A result of a new epoch for the tick before a cut has arrived (R196). -/
def State.seeEpoch (id epoch first last : Nat) (s : State) : State :=
  s.onHier (fun h => { h with cuts := h.cuts.map (fun c =>
    if c.process = id && c.newEpoch = epoch && first < c.cutIndex && c.cutIndex ≤ last then { c with newSeen := true } else c) })

/-- Runs are skipped and outputs silent in the pause of a folio that affects the engines (R411), and while the engine is
under a proof test (R386). -/
def State.enginePaused (e : Nat) (s : State) : Bool :=
  (bit s.life.mediaMask 4 && s.now < s.life.chordUntil) || s.underTest [7, 9] e

/-- One placement at a tick boundary (R249, R257). -/
def State.tickPlacement (id e t epoch : Nat) (s : State) : State :=
  match s.chord.processes.get? id with
  | none => s
  | some q =>
    match q.placements.find? (fun x => x.epoch = epoch) with
    | none => s
    | some x =>
      if !x.running || t < x.startIndex + q.n || (match x.stopIndex with | some i => t > i | none => false) then s
      else if s.enginePaused e then
        s.onProc id (Process.emitOutputs t (fun i => s.epochAt id q i = x.epoch) (fun _ => List.replicate q.n 0))
      else
        let rest := s.rests q
        let s := if rest && !q.resting then s.enterRest id t q
          else if !rest && q.resting then
            (s.onProc id (fun p => { p with resting := false })).raise 10 0x23 id (leBytes 8 t)
          else s
        let q := s.proc id
        match q.placements.find? (fun y => y.epoch = epoch) with
        | none => s
        | some x =>
          let s := s.seeEpoch id epoch (t - q.n) t
          if !q.resting then s.runPlacement id e (t - q.n) q x
          else
            let takes (i : Nat) : Bool := s.epochAt id q i = x.epoch
            let s1 := s.onProc id (Process.emitOutputs t takes (fun _ => List.replicate q.n 0))
            if takes (t - q.n) then
              each (s.linesOf id) (fun l s => s.lineSend l.1 (t - q.n) l.2 (List.replicate q.n 0)) s1
            else s1

/-- A tick boundary of an engine: its running placements run in ascending process number (R249). -/
def engineTick (e : Nat) (s : State) : State :=
  let x := s.chord.engines.at e {}
  if x.n = 0 || s.power.state != .run then s
  else
    let t := s.index x.domainB / x.n * x.n
    each (s.onEngine e) (fun q s => s.tickPlacement q.1 e t q.2.2.epoch) s

def execEngineTick (engine at_ : Nat) (s : State) : Out := .next (engineTick engine (s.advance at_))

/-! Epoch cuts (R195, R196). -/

def migrateCutBody : Body := fun rq s =>
  let p := rq.payload
  let id := u16 p 0
  let n := u16 p 6
  let start := u64 p 8
  let cut := u64 p 16
  match s.chord.processes.get? id with
  | none => fail stBadParam s
  | some q =>
    if p.length != 24 || n != q.n || u16 p 2 = 0 || u16 p 4 = 0 || cut < start + 2 * n then fail stBadParam s
    else if cut ≤ s.index q.domainB then fail stLate s
    else accepted (s.onHier (fun h => { h with cuts := h.cuts ++
      [{ process := id, oldEpoch := u16 p 2, newEpoch := u16 p 4, n := n, startIndex := start, cutIndex := cut,
         handle := handleOf 0x3038 rq }] }))

def execMigrateCut (rq : Request) (s : State) : Out := .next (command 0x3038 migrateCutBody rq s)

/-- At cut_index the results of the new epoch are taken (R196). -/
def epochCut (id : Nat) (s : State) : State :=
  match s.chord.processes.get? id, s.hier.cuts.find? (fun c => c.process = id) with
  | some q, some c =>
    if s.index q.domainB < c.cutIndex then s
    else
      let s := s.onHier (fun h => { h with cuts := h.cuts.erase c })
      let s := s.onProc id (fun q => { q with epoch := c.newEpoch, prior := q.epoch, cutIndex := c.cutIndex })
      let s := s.raise 10 0x25 id (leBytes 2 c.oldEpoch ++ leBytes 2 c.newEpoch ++ leBytes 8 c.cutIndex)
      let s := if c.newSeen then s else s.raise 12 0x17 id (leBytes 8 c.cutIndex)
      s.complete c.handle stOk (leBytes 4 c.dropped ++ bytes [flag !c.newSeen, 0, 0, 0])
  | _, _ => s

def execEpochCut (process at_ : Nat) (s : State) : Out := .next (epochCut process (s.advance at_))

/-- An audio bundle frame received (R222, R253): one that has arrived in full by index + 8 is kept until it is used. -/
def State.bundleFrame (b : Nat) (frame : List Byte) (s : State) : State :=
  let u := s.audio.receives.at b {}
  let i := u64 frame 0
  let epoch := u16 frame 8
  let n := u8 frame 10
  if n = 0 || n > 64 || frame.length != 12 + 24 * n || s.index u.rate96 > i + 8 then s
  else
    let samples := (List.range 8).map (fun k => (List.range n).map (fun c => signed 24 (fld frame (12 + 3 * (k * n + c)) 3)))
    let s := s.onAudio (fun a => { a with receives := a.receives.put b { u with
      index := i, epoch := epoch, frames := ((i, epoch, samples) :: u.frames).take 8 } })
    let named := s.chord.processes.filter (fun q => q.2.placements.any (fun x => x.engine = 255 && x.bundle = b))
    each named (fun q s =>
      (s.seeEpoch q.1 epoch i (i + 8)).countDropped q.1 epoch i 8) s

end Sys2Proof.Machine
end

