-- ==== Sys2Proof/Machine/EthRx.lean ====
section
/-! DEFINITION. A received Ethernet frame (R122 to R134, R139, R220): length and FCS, MAC control, the address filter, PTP,
the classifier, flows with their merge, and the exception path. -/

namespace Sys2Proof.Machine

/-- What an IPv4 UDP frame holds (R124, R126). -/
structure UdpFrame where
  dst : List Byte
  vlan : Option Nat
  srcIp : Nat
  dstIp : Nat
  dstPort : Nat
  payload : List Byte
deriving DecidableEq, Repr

/-- The VLAN ID of a tagged frame, and where its type field stands. -/
def vlanOf (f : List Byte) : Option Nat × Nat := if fldBe f 12 2 = 0x8100 then (some (fldBe f 14 2 % 4096), 16) else (none, 12)

/-- An IPv4 UDP frame without its FCS, parsed; none for any other frame (R124). -/
def parseUdp (f : List Byte) : Option UdpFrame :=
  let (vlan, at_) := vlanOf f
  let ip := at_ + 2
  let head := 4 * (u8 f ip % 16)
  if fldBe f at_ 2 != 0x0800 || u8 f ip / 16 != 4 || head < 20 || u8 f (ip + 9) != 17 || fldBe f (ip + 6) 2 % 16384 != 0 then none
  else
    let udp := ip + head
    let len := fldBe f (udp + 4) 2
    if len < 8 || f.length < udp + len then none
    else some { dst := f.take 6, vlan := vlan, srcIp := fldBe f (ip + 12) 4, dstIp := fldBe f (ip + 16) 4,
                dstPort := fldBe f (udp + 2) 2, payload := (f.drop (udp + 8)).take (len - 8) }

/-- A frame within its length limit and with a good FCS (R122). -/
def Mac.frameOk (m : Mac) (f : List Byte) : Bool :=
  let limit := m.mtu + (if (vlanOf f).1.isSome then 4 else 0)
  64 ≤ f.length && f.length ≤ limit && crcEth (f.take (f.length - 4)) = fld f (f.length - 4) 4

/-! PAUSE and PFC (R139). -/

/-- One quantum of a mode in units of 10 ps (R139). -/
def Mac.quantum (m : Mac) : Nat := if m.mode = .r100 then 512 else 2048

/-- The quanta that a MAC control frame gives each priority; none for a priority that it leaves out. -/
def pauseQuanta (f : List Byte) (prio : Nat) : Option Nat :=
  let at_ := (vlanOf f).2 + 2
  if fldBe f at_ 2 = 0x0001 then some (fldBe f (at_ + 2) 2)
  else if fldBe f at_ 2 = 0x0101 && bit (fldBe f (at_ + 2) 2) prio then some (fldBe f (at_ + 4 + 2 * prio) 2)
  else none

/-- A priority that ignores PAUSE and PFC (R139). -/
def Mac.ignores (m : Mac) (prio : Nat) : Bool := bit m.mediaMask prio && !m.honourMedia

/-- A PAUSE or PFC frame (R139). -/
def Mac.pause (now : Nat) (f : List Byte) (m : Mac) : Mac :=
  let named := (List.range 8).filter (fun p => (pauseQuanta f p).isSome)
  let m := if named.any m.ignores then { m with pauseIgnored := m.pauseIgnored + 1 } else m
  let m := if named.any (fun p => !m.ignores p) then { m with pauseHonoured := m.pauseHonoured + 1 } else m
  (named.filter (fun p => !m.ignores p)).foldl (fun m p =>
    let q := (pauseQuanta f p).getD 0
    if q = 0 then { m with pauses := m.pauses.del p }
    else { m with pauses := m.pauses.put p { until_ := now + cdiv (q * m.quantum) 100 } }) m

/-! The filter and the classifier (R124 to R127). -/

/-- Whether a frame passes a MAC's filter (R124). -/
def Mac.passes (m : Mac) (f : List Byte) : Bool :=
  let dst := f.take 6
  m.promiscuous || m.filter.contains dst || (m.acceptBcast && dst = List.replicate 6 255)
    || (m.acceptMcast && dst.take 3 = bytes [1, 0, 0x5E])

/-- Whether a classifier entry matches a frame (R126). -/
def ClsEntry.hits (e : ClsEntry) (mac : Nat) (u : UdpFrame) : Bool :=
  e.dstIp = u.dstIp && e.dstPort = u.dstPort && (!e.vlanMatch || u.vlan = some e.vlan) && (!e.srcMatch || e.srcIp = u.srcIp)
    && (e.mac = 255 || e.mac = mac)

/-- The score of an entry (R127). -/
def ClsEntry.score (e : ClsEntry) : Nat := 4 * flag e.srcMatch + 2 * flag e.vlanMatch + flag (e.mac != 255)

/-- The way and entry that win a frame in the standing bank (R125, R127). -/
def State.classify5 (mac : Nat) (u : UdpFrame) (s : State) : Option (Nat × ClsEntry) :=
  let ways := (List.range 8).map (fun w => 8 * clsSet u.dstIp u.dstPort + w)
  ways.foldl (fun best k =>
    match (s.eth.standing.at k {}).entry with
    | none => best
    | some e =>
      if !e.hits mac u then best
      else match best with
        | some b => if e.score > b.2.score then some (k, e) else best
        | none => some (k, e)) none

/-! The exception path (R131). -/

/-- A frame admitted to the exception queue, or dropped and counted (R131). -/
def State.exception (n : Nat) (f : List Byte) (s : State) : State :=
  let m := s.mac n
  let second := s.now / sec
  let count := if m.excSecond = second then m.excCount else 0
  if count ≥ 10000 || s.eth.exceptions.length ≥ 256 || f.length > 2048 then
    s.onEth (fun e => { e with dropped := sat 255 (e.dropped + 1) })
  else
    let s := s.onMac n (fun m => { m with excSecond := second, excCount := count + 1 })
    let s := s.onEth (fun e => { e with exceptions := e.exceptions ++ [{ mac := n, data := f }] })
    s.raise 11 9 n (leBytes 2 s.eth.exceptions.length)

/-! Flows (R132 to R134, R220). -/

/-- An RTP packet's fields (R133, R134). -/
structure Rtp where
  payloadType : Nat
  seq : Nat
  timestamp : Nat
  ssrc : Nat
  marker : Bool
  payload : List Byte
deriving DecidableEq, Repr

/-- The RTP header of a UDP payload; ST 2110-20 takes its 32-bit extended sequence number from the payload header
(R134). -/
def parseRtp (kind : Nat) (p : List Byte) : Option Rtp :=
  let head := 12 + 4 * (u8 p 0 % 16)
  let head := if bit (u8 p 0) 4 then head + 4 + 4 * fldBe p (head + 2) 2 else head
  let ext := if kind = 1 then 2 else 0
  let pad := if bit (u8 p 0) 5 then u8 p (p.length - 1) else 0
  if u8 p 0 / 64 != 2 || p.length < head + ext + pad then none
  else some { payloadType := u8 p 1 % 128, timestamp := fldBe p 4 4, ssrc := fldBe p 8 4, marker := bit (u8 p 1) 7,
              payload := (p.take (p.length - pad)).drop (head + ext),
              seq := fldBe p 2 2 + (if kind = 1 then 65536 * fldBe p head 2 else 0) }

/-- The modulus of a flow's sequence numbers (R134). -/
def seqMod (kind : Nat) : Nat := if kind = 1 then 2 ^ 32 else 65536

/-- How far a number stands ahead of another, as a signed difference modulo `m`. -/
def aheadOf (m a b : Nat) : Int := let d := (a + m - b % m) % m; if d < m / 2 then d else (d : Int) - m

/-- The measured skew of a whole frame judged at its end (R134). -/
def State.judgeSkew (n : Nat) (s : State) : State :=
  let f := s.rxFlow n
  if f.skewCount = 0 then s
  else
    let avg := Int.fdiv f.skewSum f.skewCount
    let wide : Bool := f.cfg.skewUs != 0 && avg.natAbs > f.cfg.skewUs * 1000
    let s := s.onRx n (fun f => { f with skewNs := avg, skewSum := 0, skewCount := 0, skewRaised := wide })
    if wide && !f.skewRaised then s.raise 11 8 n (leInt 4 avg) else s

/-- A packet begins a new frame of its flow (R133, R143): the skew is judged, a staged configuration applies, and a
ST 2110-20 frame starts in its store. -/
def State.flowFrame (n : Nat) (ts : Nat) (s : State) : State :=
  let s := s.judgeSkew n
  let s := match (s.rxFlow n).staged with
    | some c => s.onRx n (fun f => f.apply c)
    | none => s
  let s := s.onRx n (fun f => { f with rtp := some ts })
  if (s.rxFlow n).cfg.kind = 1 then s.writeFrame (0x100 + n) { start := s.now, rtp := some ts } else s

/-- The stored frames of a flow changed. -/
def State.onFrames (n : Nat) (g : List Frame → List Frame) (s : State) : State :=
  s.onLat (fun l => match l.stores.get? (0x100 + n) with
    | some st => { l with stores := l.stores.put (0x100 + n) { st with frames := g st.frames } }
    | none => l)

/-- The first frame that meets a condition changed. -/
def onFirst (p : Frame → Bool) (g : Frame → Frame) : List Frame → List Frame
  | [] => []
  | f :: r => if p f then g f :: r else f :: onFirst p g r

/-- Missing packets counted in the flow and in a frame of it (R133). -/
def State.countMissing (n : Nat) (add : Int) (ts : Option Nat) (s : State) : State :=
  (s.onRx n (fun f => { f with missing := f.missing + BitVec.ofInt 32 add })).onFrames n
    (onFirst (fun f => f.rtp = ts) (fun f => { f with missing := ((f.missing : Int) + add).toNat }))

/-- A packet that the merge uses (R133, R134): gaps are counted, in the frame before while that has not ended, and a number
counted missing that comes after all is uncounted. `before` is the timestamp of the frame before this packet. -/
def State.usePacket (n : Nat) (r : Rtp) (before : Option Nat) (s : State) : State :=
  let f := s.rxFlow n
  let m := seqMod f.cfg.kind
  match f.lastSeq with
  | none => s.onRx n (fun f => { f with lastSeq := some r.seq, marker := r.marker })
  | some q =>
    let d := aheadOf m r.seq q
    if d > 0 then
      let new := (List.range (min (d.toNat - 1) 8192)).map (fun i => (r.seq + m - 1 - i) % m)
      let s := if d > 1 then s.countMissing n (d - 1) (if f.marker then some r.timestamp else before) else s
      s.onRx n (fun f => { f with lastSeq := some r.seq, marker := r.marker, gaps := (new ++ f.gaps).take 8192 })
    else if f.gaps.contains r.seq then
      (s.countMissing n (-1) (some r.timestamp)).onRx n (fun f => { f with gaps := f.gaps.erase r.seq })
    else s

/-! What packets bring (R132, R136, R220; the payload formats of ST 2110 are PRESUMED, log 153). -/

/-- The sample row data headers of a ST 2110-20 payload: length, field and row, offset, at most three; and what follows. -/
def srdHeaders : Nat → List Byte → List (Nat × Nat × Nat) × List Byte
  | 0, p => ([], p)
  | k + 1, p =>
    let h := (fldBe p 0 2, fldBe p 2 2, fldBe p 4 2 % 32768)
    if bit (fldBe p 4 2) 15 then
      let q := srdHeaders k (p.drop 6)
      (h :: q.1, q.2)
    else ([h], p.drop 6)

/-- Each row of a ST 2110-20 packet put to its place in its frame's picture (R133). -/
def videoRows (format : Nat) : List (Nat × Nat × Nat) → List Byte → List Region
  | [], _ => []
  | (len, fieldRow, off) :: r, p =>
    let (w, h) := rasterSize format
    let row := if twoFields format then 2 * (fieldRow % 32768) + fieldRow / 32768 else fieldRow % 32768
    let data := mapPieces 5 ofPgroup len (p.take len)
    let rest := videoRows format r (p.drop len)
    if row < h && off % 2 = 0 && off + 2 * (data.length / 5) ≤ w then
      { first := (row * w + off) / 2 * 5, data := data } :: rest
    else rest

/-- The rows of a ST 2110-20 packet put into the frame of its timestamp (R132, R133). -/
def State.videoPacket (n : Nat) (r : Rtp) (s : State) : State :=
  let (hs, data) := srdHeaders 3 r.payload
  s.onFrames n (onFirst (fun f => f.rtp = some r.timestamp)
    (fun f => { f with regions := videoRows (s.rxFlow n).cfg.param hs data ++ f.regions }))

/-- Bit `w` bits wide from bit `at` of a byte string, the highest bit first. -/
def bitsAt (p : List Byte) (at_ w : Nat) : Nat := leNat p.reverse / 2 ^ (8 * p.length - at_ - w) % 2 ^ w

/-- The ancillary packets of a ST 2110-40 payload from a bit on; a checksum is right where it is the sum of the 9-bit words
modulo 512 (ST 291-1). -/
def ancPackets (p : List Byte) : Nat → Nat → List AncPacket
  | 0, _ => []
  | k + 1, at_ =>
    let word (i : Nat) : Nat := bitsAt p (at_ + 32 + 10 * i) 10
    let n := word 2 % 256
    if 8 * p.length < at_ + 32 + 10 * (n + 4) then []
    else
      let sum := ((List.range (n + 3)).foldl (fun t i => t + word i % 512) 0) % 512
      { did := word 0 % 256, sdid := word 1 % 256, good := word (n + 3) % 512 = sum,
        data := (List.range n).map (fun i => BitVec.ofNat 8 (word (3 + i))) }
        :: ancPackets p k (at_ + cdiv (32 + 10 * (n + 4)) 32 * 32)

/-- A ST 2110-40 packet's ancillary data join the frame of their time of the flow named in anc_of, the newest where none has
that timestamp (R132). -/
def State.ancPacket (n : Nat) (r : Rtp) (s : State) : State :=
  let l := ancPackets r.payload (u8 r.payload 4) 64
  let v := (s.rxFlow n).cfg.ancOf
  let known := (((s.lat.stores.get? (0x100 + v)).getD {}).frames).any (fun f => f.rtp = some r.timestamp)
  s.onFrames v (onFirst (fun f => !known || f.rtp = some r.timestamp) (fun f => { f with anc := f.anc ++ l }))

/-- Bytes of a sample of an audio flow (R132, R143). -/
def RxFlowCfg.sampleBytes (c : RxFlowCfg) : Nat := if c.kind = 3 then 4 else if c.l24 then 3 else 2

/-- The sample that an audio packet's bytes hold: L16 has eight zero bits below it (R220). -/
def RxFlowCfg.sample (c : RxFlowCfg) (p : List Byte) : Int :=
  if c.kind = 3 then signed 24 (fldBe p 1 3) else if c.l24 then signed 24 (fldBe p 0 3) else signed 16 (fldBe p 0 2) * 256

/-- The sample frames of an audio payload. -/
def RxFlowCfg.samples (c : RxFlowCfg) (p : List Byte) : List (List Int) :=
  let k := c.sampleBytes
  (List.range (p.length / (k * max c.param 1))).map (fun i =>
    (List.range c.param).map (fun ch => c.sample (p.drop ((i * c.param + ch) * k))))

/-- The channel status bits of one channel of a ST 2110-31 packet (R210): bit 1 of a block says non-audio. -/
def State.statusBits (c : Nat) (heads : List Nat) (s : State) : State :=
  each heads (fun h s =>
    let x := s.aSrc c
    let pos := if bit h 5 then 0 else (x.csPos + 1) % 192
    let s := s.onASrc c (fun x => { x with csPos := pos })
    if pos != 1 || bit h 2 = x.nonPcm then s
    else (s.onASrc c (fun x => { x with nonPcm := bit h 2 })).raise 10 8 c (bytes [flag (bit h 2)])) s

/-- An audio packet after the merge (R215, R220): its samples arrive at their timestamp plus link_offset; one that comes after
the instant of its first sample's arrival index is discarded, and its samples are silent. -/
def State.audioPacket (n : Nat) (r : Rtp) (s : State) : State :=
  let f := s.rxFlow n
  match f.poolBase with
  | none => s
  | some base =>
    let i := s.index f.cfg.rate96
    let at_ : Int := (i : Int) + aheadOf (2 ^ 32) r.timestamp i + (cdiv (f.linkOffsetUs * domainRate f.cfg.rate96) 1000000 : Nat)
    if s.now > indexTime f.cfg.rate96 at_.toNat then
      let s := s.onRx n (fun f => { f with latePackets := f.latePackets + 1 })
      s.raise 10 9 n (leBytes 4 (s.rxFlow n).latePackets.toNat)
    else
      let l := f.cfg.samples r.payload
      let s := s.onRx n (fun f => { f with
        arrived := (at_.toNat, l) :: f.arrived.filter (fun e => e.1 != at_.toNat && i ≤ e.1 + e.2.length + 8) })
      if f.cfg.kind != 3 then s
      else each (List.range f.cfg.param) (fun ch s =>
        s.statusBits (0x2100 + base + ch) ((List.range l.length).map (fun i => u8 r.payload ((i * f.cfg.param + ch) * 4)))) s

/-- Where a packet's content goes (R132). -/
def State.takeContent (n : Nat) (r : Rtp) (s : State) : State :=
  match (s.rxFlow n).cfg.kind with
  | 1 => s.videoPacket n r
  | 2 | 3 => s.audioPacket n r
  | 4 => s.ancPacket n r
  | _ => s

/-- The merge of one packet on a leg (R134). -/
def State.merge (n : Nat) (legB : Bool) (r : Rtp) (before : Option Nat) (s : State) : State :=
  let f := s.rxFlow n
  let skew := f.cfg.skewUs * 1000
  let old := f.recent.find? (fun e => e.seq = r.seq)
  let seen : SeqSeen := old.getD { seq := r.seq }
  let other := if legB then seen.atA else seen.atB
  let own := if legB then { seen with atB := some s.now } else { seen with atA := some s.now }
  let gap : Int := match other with
    | some t => (s.now : Int) - t
    | none => if legB then f.skewNs else -f.skewNs
  let late := f.cfg.skewUs != 0 && gap > skew
  let measure (g : RxFlow) : RxFlow :=
    match own.atA, own.atB with
    | some a, some b => if old.isSome && other.isSome then
        { g with skewSum := g.skewSum + ((b : Int) - a), skewCount := g.skewCount + 1 } else g
    | _, _ => g
  let remember (used : Bool) (s : State) : State := s.onRx n (fun g =>
    { measure g with recent := ({ own with used := used } :: g.recent.filter (fun e => e.seq != r.seq)).take 8192 })
  if late then (remember seen.used s).onRx n (fun g => { g with late := g.late + 1 })
  else if seen.used then (remember true s).onRx n (fun g => { g with dupDropped := g.dupDropped + 1 })
  else ((remember true s).usePacket n r before).takeContent n r

/-- A packet that the classifier gives to a flow (R132 to R134). -/
def State.flowPacket (n : Nat) (legB : Bool) (p : List Byte) (s : State) : State :=
  let f := s.rxFlow n
  match f.cfg.kind, parseRtp f.cfg.kind p with
  | 0, _ => s
  | _, none => s.onRx n (fun f => { f with seqErrors := f.seqErrors + 1 })
  | _, some r =>
    if (f.cfg.payloadType != 0 && r.payloadType != f.cfg.payloadType) || (f.cfg.ssrcCheck && r.ssrc != f.cfg.ssrc) then
      s.onRx n (fun f => { f with seqErrors := f.seqErrors + 1 })
    else
      let wasLost := f.lost
      let s := s.onRx n (fun f =>
        let f := { f with present := true, lost := false }
        if legB then { f with packetsB := f.packetsB + 1 } else { f with packetsA := f.packetsA + 1 })
      let s := if wasLost then s.raise 11 7 n (bytes [flag legB]) else s
      let fresh : Bool := match f.rtp with
        | some t => aheadOf (2 ^ 32) r.timestamp t > 0
        | none => true
      let s := if fresh then s.flowFrame n r.timestamp else s
      s.merge n legB r f.rtp

/-- A received frame that passes the length and FCS checks (R122, R124). -/
def State.goodFrame (n : Nat) (f : List Byte) (s : State) : State :=
  let s := s.onMac n (fun m => { m with rxFrames := m.rxFrames + 1 })
  if fldBe f (vlanOf f).2 2 = 0x8808 then (s.onMac n (Mac.pause s.now f)).releaseHeld n
  else if !(s.mac n).passes f then s.onMac n (fun m => { m with filtered := m.filtered + 1 })
  else
    match parseUdp f with
    | none => s.exception n f
    | some u =>
      if (s.eth.ptp0.mac = n || s.eth.ptp1.mac = n) && (u.dstPort = 319 || u.dstPort = 320) then s
      else
        match s.classify5 n u with
        | none => s.exception n f
        | some (k, e) =>
          let s := s.onEth (fun x => { x with standing := x.standing.upd k {} (fun w => { w with lastHit := s.now }) })
          if e.action = 1 then s.flowPacket e.flow e.legB u.payload
          else if e.action = 2 then s.exception n f
          else s

/-- The FEC codewords that could not be corrected among a frame's, counted where FEC is on (R143; log 145). -/
def Mac.countFec (n : Nat) (m : Mac) : Mac :=
  if m.fec then { m with
    fecUncorrected := m.fecUncorrected + BitVec.ofNat 32 (Config.fecWords n (m.rxFrames.toNat + m.fcsErrors.toNat)) }
  else m

/-- A frame received on a MAC, with its FCS (R122). -/
def ethFrame (n : Nat) (f : List Byte) (s : State) : State :=
  let m := s.mac n
  if n > 63 || m.mode = .off || !m.linkUp || s.group 1 = .dormant then s
  else
  let s := s.onMac n (Mac.countFec n)
  if !m.frameOk f then s.onMac n (fun m => { m with fcsErrors := m.fcsErrors + 1 })
  else s.goodFrame n (f.take (f.length - 4))

def execEthFrameReceived (mac : Nat) (frame : List Byte) (at_ : Nat) (s : State) : Out :=
  .next (ethFrame mac frame (s.advance at_))

end Sys2Proof.Machine
end

