-- ==== Sys2Proof/Machine/Imposition.lean ====
section
/-! DEFINITION. The imposition engine: sheets, page records, orders, page inputs, and the composition of a frame (R262 to
R275). -/

namespace Sys2Proof.Machine

def State.sheet (s : State) (n : Nat) : Sheet := s.imp.sheets.at n {}
def State.onSheet (s : State) (n : Nat) (f : Sheet → Sheet) : State :=
  s.onImp (fun i => { i with sheets := i.sheets.upd n {} f })

/-- A format's active pixels. -/
def rasterPixels (format : Nat) : Nat := (rasterSize format).1 * (rasterSize format).2

/-- The pixel rate of a format in pixels per 1,001 s (R264). -/
def pixelRate1001 (format : Nat) : Nat :=
  let (n, d) := frameRate (format % 16)
  rasterPixels format * n * 1001 / d

/-- The pixel rate charged on the island of a sheet, that sheet left out (R264). -/
def State.islandRate (n : Nat) (s : State) : Nat :=
  s.imp.sheets.foldl (fun a e => if e.1 != n && e.1 / 16 = n / 16 && e.2.enabled then a + pixelRate1001 e.2.format else a) 0

/-! Page records (R265, R266). -/

def parsePage (p : List Byte) : Page :=
  { input := u8 p 0, blend := u8 p 1 % 4, drawn := bit (u8 p 1) 2, keyInvert := bit (u8 p 1) 3, opacity := u16 p 2,
    edge := u8 p 4, srcX := u16 p 8, srcY := u16 p 10, srcW := u16 p 12, srcH := u16 p 14, dstX := s16 p 16,
    dstY := s16 p 18, dstW := u16 p 20, dstH := u16 p 22, keyLow := u16 p 24, keyHigh := u16 p 26 }

def pageBytes (r : Page) : List Byte :=
  bytes [r.input, r.blend + 4 * flag r.drawn + 8 * flag r.keyInvert] ++ leBytes 2 r.opacity ++ bytes [r.edge, 0, 0, 0]
    ++ leBytes 2 r.srcX ++ leBytes 2 r.srcY ++ leBytes 2 r.srcW ++ leBytes 2 r.srcH ++ leInt 2 r.dstX ++ leInt 2 r.dstY
    ++ leBytes 2 r.dstW ++ leBytes 2 r.dstH ++ leBytes 2 r.keyLow ++ leBytes 2 r.keyHigh ++ zeros 4

/-- An axis ratio dst / src lies between 1/16 and 4 (R266). -/
def ratioOk (src dst : Nat) : Bool := src ≤ 16 * dst && dst ≤ 4 * src

/-- A page's crop lies inside its input's configured raster (R266). -/
def State.cropOk (r : Page) (s : State) : Bool :=
  let size := rasterSize (s.imp.inputs.at r.input {}).format
  r.srcX + r.srcW ≤ size.1 && r.srcY + r.srcH ≤ size.2

/-- The checks of a page record (R265, R266). -/
def State.pageOk (p : List Byte) (s : State) : Bool :=
  let r := parsePage p
  r.blend != 3 && u8 p 1 < 16 && r.opacity ≤ 1024 && r.edge ≤ 63 && zeroAt p 5 3 && zeroAt p 28 4
    && r.srcX % 2 = 0 && r.srcW % 2 = 0 && r.dstX % 2 = 0 && r.dstW % 2 = 0
    && 2 ≤ r.srcW && r.srcW ≤ 7680 && 1 ≤ r.srcH && r.srcH ≤ 4320 && 2 ≤ r.dstW && r.dstW ≤ 7680 && 1 ≤ r.dstH && r.dstH ≤ 4320
    && 4 ≤ r.keyLow && r.keyLow ≤ 1019 && r.keyLow < r.keyHigh && r.keyHigh ≤ 1019
    && ratioOk r.srcW r.dstW && ratioOk r.srcH r.dstH && s.cropOk r

/-! Fetch (R267). -/

/-- Whether an order includes a page (R269). -/
def Order.has (o : Order) (p : Nat) : Bool := !o.list || o.pages.contains p

/-- The fetch of a sheet: the larger of each page's active and staged crops, counted where an active or staged order
includes the page and one of its records is drawn (R267; log 80). -/
def Sheet.fetch (h : Sheet) : Nat :=
  (List.range 16).foldl (fun n p =>
    let a := h.pages.at p {}
    let b := match h.stagedPages.get? p with | some x => x.record | none => a
    let named := h.order.has p || (match h.stagedOrder with | some o => o.order.has p | none => false)
    if named && (a.drawn || b.drawn) then n + max (a.srcW * a.srcH) (b.srcW * b.srcH) else n) 0

/-- A sheet's fetch exceeds its limit; a sheet that was never configured has none (R267; log 80). -/
def Sheet.fetchOver (h : Sheet) : Bool := h.format != 0 && h.fetch > 16 * rasterPixels h.format

/-! Sheet configuration (R264, R271, R272). -/

/-- A SHEET_CONFIG that enables a disabled sheet: its store and pixel rate are charged (R264). -/
def State.enableSheet (n format carriage : Nat) (offset : Int) (bg : Int × Int × Int) (s : State) : Res × State :=
  let src := 0x500 + n
  let plates := if (s.lat.stores.get? src).isSome then 0 else 3 * framePlates format
  if s.platesUsed + plates > 32768 || s.islandRate n + pixelRate1001 format > 2000000000 * 1001 then fail stResource s
  else
    let on (h : Sheet) : Sheet :=
      { h with enabled := true, format := format, carriage := carriage, offset := offset, background := bg, staged := none }
    ok ((s.onSheet n on).ensureStore (src, 0xFFFF))

def sheetConfigBody : Body := fun rq s =>
  let p := rq.payload
  let n := u8 p 0
  let on := u8 p 1 = 1
  let offset := s32 p 4
  let code (o : Nat) : Bool := 4 ≤ u16 p o && u16 p o ≤ 1019
  let bg : Int × Int × Int := ((u16 p 8 : Nat), (u16 p 10 : Nat), (u16 p 12 : Nat))
  let h := s.sheet n
  if p.length != 16 || n > 31 || u8 p 1 > 1 || (formatClass (u8 p 2) (u8 p 3)).isNone || offset.natAbs > 41708332
      || !code 8 || !code 10 || !code 12 || !zeroAt p 14 2 then fail stBadParam s
  else if !h.enabled then
    if on then s.enableSheet n (u8 p 2) (u8 p 3) offset bg
    else ok (s.onSheet n (fun h => { h with format := u8 p 2, carriage := u8 p 3, offset := offset, background := bg }))
  else if h.format != u8 p 2 || h.carriage != u8 p 3 then fail stWrongState s
  else
    let c : StagedSheet := { enable := on, offset := offset, background := bg, notBefore := s.now + 100000 }
    ok (s.onSheet n (fun h => { h with staged := some c }))

def execSheetConfig (rq : Request) (s : State) : Out := .next (command 0x7001 sheetConfigBody rq s)

/-- When a staged record or order may swap: the later of T and execution + 100 us (R271, R275). -/
def State.swapTime (p : List Byte) (offS offNs : Nat) (s : State) : Nat := max (timeAt p offS offNs) (s.now + 100000)

def sheetOrderBody : Body := fun rq s =>
  let p := rq.payload
  let n := u8 p 0
  let list := u8 p 1 = 1
  let k := u8 p 2
  let names := (List.range k).map (fun i => u8 p (4 + i))
  if p.length != 36 || n > 31 || u8 p 1 > 1 || u8 p 3 != 0 || !s.timeOk p 20 28 || !zeroAt p 32 4
      || (list && (k = 0 || k > 16 || names.any (fun x => x > 15) || !distinct names
          || (List.range (16 - k)).any (fun i => u8 p (4 + k + i) != 255))) then fail stBadParam s
  else
    let o : Order := { list := list, pages := if list then names else [] }
    let h := s.sheet n
    let hs := handleOf 0x7002 rq :: (match h.stagedOrder with | some x => x.handles | none => [])
    let h' := { h with stagedOrder := some { order := o, notBefore := s.swapTime p 20 28, handles := hs } }
    if h'.fetchOver then fail stResource s
    else if h.enabled then accepted (s.onSheet n (fun _ => h'))
    else accepted ((s.onSheet n (fun h => { h with order := o, stagedOrder := none })).complete (handleOf 0x7002 rq) stOk
      (timeBytes s.now))

def execSheetOrder (rq : Request) (s : State) : Out := .next (command 0x7002 sheetOrderBody rq s)

def pageSetBody : Body := fun rq s =>
  let p := rq.payload
  let n := u8 p 0
  let k := u8 p 1
  if p.length != 52 || n > 31 || k > 15 || !zeroAt p 2 2 || !s.timeOk p 4 12 || !zeroAt p 16 4 || !s.pageOk (p.drop 20) then
    fail stBadParam s
  else
    let h := s.sheet n
    let old := match h.stagedPages.get? k with | some x => x.handles | none => []
    let x : StagedPage := { record := parsePage (p.drop 20), notBefore := s.swapTime p 4 12, handles := handleOf 0x7003 rq :: old }
    let h' := { h with stagedPages := h.stagedPages.put k x }
    if h'.fetchOver then fail stResource s
    else if h.enabled then accepted (s.onSheet n (fun _ => h'))
    else accepted ((s.onSheet n (fun h => { h with pages := h.pages.put k x.record })).complete (handleOf 0x7003 rq) stOk
      (timeBytes s.now ++ zeros 4))

def execPageSet (rq : Request) (s : State) : Out := .next (command 0x7003 pageSetBody rq s)

def pageReadBody : Body := fun rq s =>
  let p := rq.payload
  let h := s.sheet (u8 p 0)
  let active := h.pages.at (u8 p 1) {}
  let r := if u8 p 2 = 1 then (match h.stagedPages.get? (u8 p 1) with | some x => x.record | none => active) else active
  require (p.length = 4 && u8 p 0 ≤ 31 && u8 p 1 ≤ 15 && u8 p 2 ≤ 1 && u8 p 3 = 0) (okWith (pageBytes r) s) s

def execPageRead (rq : Request) (s : State) : Out := .next (command 0x7004 pageReadBody rq s)

def impInputConfigBody : Body := fun rq s =>
  let p := rq.payload
  require (p.length = 4 && (formatClass (u8 p 1) (u8 p 2)).isSome && u8 p 3 = 0)
    (ok (s.onImp (fun i => { i with inputs := i.inputs.put (u8 p 0) { format := u8 p 1, carriage := u8 p 2 } }))) s

def execImpInputConfig (rq : Request) (s : State) : Out := .next (command 0x7005 impInputConfigBody rq s)

/-- Whether sheets compose: not in QUIET or DORMANT (R274). -/
def State.composes (s : State) : Bool := s.power.state = .run && s.group 3 = .run

def sheetStatusBody : Body := fun rq s =>
  let n := u8 rq.payload 0
  let h := s.sheet n
  require (rq.payload.length = 4 && n ≤ 31 && zeroAt rq.payload 1 3)
    (okWith (bytes [n, if !h.enabled then 0 else if s.composes then 1 else 2, h.format, h.drawn] ++ leBytes 4 h.frames.toNat
      ++ leBytes 4 (if h.enabled then pixelRate1001 h.format / 1001 / 1000 else 0) ++ leBytes 4 h.fetch
      ++ leBytes 2 h.idlePages ++ leBytes 2 h.fetchFaults.toNat ++ timeBytes h.lastStart) s) s

def execSheetStatus (rq : Request) (s : State) : Out := .next (command 0x7006 sheetStatusBody rq s)

/-! The frame start (R270 to R273). -/

/-- Staged records and orders swap, those of a disabled sheet at once (R271). -/
def State.swapSheet (n : Nat) (s : State) : State :=
  let h := s.sheet n
  let due (t : Nat) : Bool := t ≤ s.now || !h.enabled
  let pages := h.stagedPages.filter (fun e => due e.2.notBefore)
  let s := s.onSheet n (fun h => { h with
    pages := pages.foldl (fun (t : Tbl Page) e => t.put e.1 e.2.record) h.pages,
    stagedPages := h.stagedPages.filter (fun e => !due e.2.notBefore) })
  let s := each pages (fun e s =>
    each e.2.handles.zipIdx (fun x s => s.complete x.1 stOk (timeBytes s.now ++ bytes [flag (x.2 != 0), 0, 0, 0])) s) s
  match h.stagedOrder with
  | some o =>
    if due o.notBefore then
      each o.handles (fun x s => s.complete x stOk (timeBytes s.now)) (s.onSheet n (fun h =>
        { h with order := o.order, stagedOrder := none }))
    else s
  | none => s

/-- A staged SHEET_CONFIG at a frame start: disabling and the offset apply now, the background once its time has come
(R271, R272). -/
def State.swapConfig (n : Nat) (s : State) : State :=
  match (s.sheet n).staged with
  | none => s
  | some c =>
    let bg := c.notBefore ≤ s.now
    let s := s.onSheet n (fun h => { h with
      enabled := c.enable, offset := c.offset, background := if bg then c.background else h.background,
      staged := if bg || !c.enable then none else h.staged })
    if c.enable then s else s.freeStores

/-- The newest completely written frame of a page's source, read for this sheet frame (R67, R263). -/
def State.readPage (input : Nat) (s : State) : State :=
  let d := 0x700 + input
  let x := s.dest d
  match s.lat.stores.get? x.current.source with
  | none => s
  | some st =>
    let wait := if isFlow x.current.source then (s.rxFlow (x.current.source - 0x100)).cfg.skewUs * 1000 else 0
    match (st.frames.zip (st.frames.drop 1)).find? (fun q => q.2.done && q.1.start + wait ≤ s.now) with
    | none => s
    | some (_, f) => s.onDest d (fun x => x.read f s.now)

/-- Whether some part of a page lies inside the sheet (R266). -/
def Page.onSheet (r : Page) (format : Nat) : Bool :=
  let size := rasterSize format
  r.dstX < size.1 && r.dstY < size.2 && r.dstX + r.dstW > 0 && r.dstY + r.dstH > 0

/-- Whether a page covers a pixel (R268). -/
def Page.covers (r : Page) (x row : Nat) : Bool :=
  r.dstX ≤ x && (x : Int) < r.dstX + r.dstW && r.dstY ≤ row && (row : Int) < r.dstY + r.dstH

/-- α of a page at a pixel, in 1/1,024 (R268). -/
def Page.alpha (r : Page) (x row : Nat) (y : Int) : Int :=
  let d := min (min ((x : Int) - r.dstX) (r.dstX + r.dstW - 1 - x)) (min ((row : Int) - r.dstY) (r.dstY + r.dstH - 1 - row))
  let en : Int := min (d + 1) (r.edge + 1)
  let ed : Int := r.edge + 1
  let kd : Int := if r.blend = 2 then (r.keyHigh : Int) - r.keyLow else 1
  let kn : Int := if r.blend = 2 then
      (let k := clamp 0 kd (y - r.keyLow); if r.keyInvert then kd - k else k) else 1
  Int.fdiv (2 * (r.opacity * en * kn) + ed * kd) (2 * (ed * kd))

/-- One component blended: rounded to the nearest code with ties towards +∞, and clipped (R268). -/
def blendPart (add : Bool) (alpha src dst black : Int) : Int :=
  clamp 4 1019 (Int.fdiv (2 * (1024 * dst + alpha * (src - (if add then black else dst))) + 1024) 2048)

/-- A sheet pixel composed from the drawn pages in order (R268). Its chroma is right where `x` is even. -/
def composePixel (pages : List (Nat × Page)) (bg : Int × Int × Int) (p : PixelIn) : Int × Int × Int :=
  pages.foldl (fun c e =>
    match p.samples.find? (fun q => q.page = e.1) with
    | none => c
    | some q =>
      if !e.2.covers p.x p.row then c
      else
        let a := e.2.alpha p.x p.row q.y
        let add := e.2.blend = 1
        (blendPart add a q.y c.1 64, blendPart add a q.cb c.2.1 512, blendPart add a q.cr c.2.2 512)) bg

/-- A composed pixel; an odd one takes its chroma from the even pixel it is co-sited with, and where that pixel is not
among those composed its chroma is free (R268). -/
def State.composeAt (pages : List (Nat × Page)) (bg : Int × Int × Int) (pixels : List PixelIn) (p : PixelIn) (s : State) :
    (Nat × Nat × Int × Int × Int) × State :=
  let c := composePixel pages bg p
  if p.x % 2 = 0 then ((p.x, p.row, c.1, c.2.1, c.2.2), s)
  else
    match pixels.find? (fun q => q.x + 1 = p.x && q.row = p.row) with
    | some q => let e := composePixel pages bg q; ((p.x, p.row, c.1, e.2.1, e.2.2), s)
    | none =>
      let (cb, s) := s.freeInt
      let (cr, s) := s.freeInt
      ((p.x, p.row, c.1, cb, cr), s)

/-- A sheet composes its next frame (R266 to R273). -/
def State.composeSheet (n : Nat) (pixels : List PixelIn) (poisoned : List Nat) (s : State) : State :=
  let h := s.sheet n
  let order := if h.order.list then h.order.pages else List.range 16
  let pages := (order.map (fun k => (k, h.pages.at k {}))).filter (fun e => e.2.drawn && e.2.onSheet h.format)
  let idle := pages.filter (fun e => (s.dest (0x700 + e.2.input)).plane = 0 || !s.cropOk e.2)
  let live := pages.filter (fun e => !idle.contains e)
  let bad := live.filter (fun e => poisoned.contains e.1)
  let drawn := live.filter (fun e => !bad.contains e)
  let s := each (live.map (fun e => e.2.input)).dedup (fun i s => s.readPage i) s
  let s := match bad with
    | [] => s
    | e :: _ => let (off, s) := s.freeInt; s.fault (0x160 + n) 0x38 (e.1 * 2 ^ 40 + unsigned 40 off)
  let inside := pixels.filter (fun p => p.x < (rasterSize h.format).1 && p.row < (rasterSize h.format).2)
  let (out, s) := inside.foldl (fun (a : List (Nat × Nat × Int × Int × Int) × State) p =>
    let (c, s) := a.2.composeAt drawn h.background inside p
    (a.1 ++ [c], s)) ([], s)
  let s := s.onSheet n (fun h => { h with
    drawn := drawn.length, frames := h.frames + 1, lastStart := s.now, fetchFaults := h.fetchFaults + BitVec.ofNat 16 bad.length,
    idlePages := idle.foldl (fun m e => m ||| 2 ^ e.1) 0 })
  s.writeFrame (0x500 + n) { start := s.now, pixels := out }

/-- A sheet repeats its last frame (R411). -/
def State.repeatSheet (n : Nat) (s : State) : State :=
  let last := match s.lat.stores.get? (0x500 + n) with | some st => (st.frames.head?.map (·.pixels)).getD [] | none => []
  (s.onSheet n (fun h => { h with repeatDue := false, frames := h.frames + 1, lastStart := s.now })).writeFrame (0x500 + n)
    { start := s.now, pixels := last }

/-- A sheet frame start (R270 to R272); a folio pause owes one repeat of the last frame (R411). -/
def sheetFrameStart (n : Nat) (pixels : List PixelIn) (poisoned : List Nat) (s : State) : State :=
  if n > 31 || !(s.sheet n).enabled || !s.composes || s.underTest [10] n then s
  else if (s.sheet n).repeatDue then s.repeatSheet n
  else
    let s := (s.swapConfig n).swapSheet n
    if (s.sheet n).enabled then s.composeSheet n pixels poisoned else s

def execSheetFrameStart (sheet at_ : Nat) (pixels : List PixelIn) (poisoned : List Nat) (s : State) : Out :=
  .next (sheetFrameStart sheet pixels poisoned (s.advance at_))

end Sys2Proof.Machine
end

