-- ==== Sys2Proof/Machine/TimeOps.lean ====
section
/-! DEFINITION. The reference selector: eligibility, selection, states, steps, slew and history (R309 to R318). -/

namespace Sys2Proof.Machine

def State.cand (s : State) (i : Nat) : Candidate := s.ref.candidates.at i {}
def State.onCand (s : State) (i : Nat) (f : Candidate → Candidate) : State :=
  s.onRef (fun r => { r with candidates := r.candidates.upd i {} f })

/-- A candidate's current quality (R309). -/
def State.candQuality (i : Nat) (s : State) : Nat :=
  if i = 2 then s.ref.ptp0.clockClass else if i = 3 then s.ref.ptp1.clockClass
  else if i = 4 then (s.cand 4).liveQuality else (s.cand i).configQuality

/-- Eligible: qualified, enabled, and of quality no worse than quality_limit (R310). -/
def State.eligible (i : Nat) (s : State) : Bool :=
  let c := s.cand i
  c.present && c.qualified && c.priority != 0 && s.candQuality i ≤ s.ref.qualityLimit

/-- The eligible candidate of lowest quality value, then priority value, then index (R311). -/
def State.best (s : State) : Option Nat :=
  let key (i : Nat) : Nat := s.candQuality i * 65536 + (s.cand i).priority * 256 + i
  ((List.range 8).filter (fun i => s.eligible i)).foldl (fun b i =>
    match b with
    | some j => if key i < key j then some i else b
    | none => some i) none

/-- Whether the device runs its selector: not in BLANK or RETIRED, not while it follows its active twin, not in
DORMANT (R330). -/
def State.selectorOn (s : State) : Bool :=
  s.life.lifecycle != .blank && s.life.lifecycle != .retired && s.twin.role != .standby && s.power.state != .dormant

/-- History: the average has been updated for 10 s of LOCKED since the last reset (R313). -/
def State.hasHistory (s : State) : Bool := s.ref.lockedUpdates ≥ 160

/-- The average of the history (R317). -/
def State.historyBase (s : State) : Int :=
  if s.ref.history.isEmpty then 0 else Int.fdiv s.ref.history.sum s.ref.history.length

/-- Offset of the increment for a frequency in ppb (R307). -/
def ppbInc (ppb : Int) : Int := Int.fdiv (ppb * nominalInc) 1000000000

/-- The time-base frequency against the XO in ppb, to the nearest (R331). -/
def State.freqPpb (s : State) : Int :=
  Int.fdiv (2 * ((s.tb.inc : Int) - nominalInc) * 1000000000 + nominalInc) (2 * nominalInc)

/-- The target increment follows the servo's frequency and the slew, within nominal ±100 ppm (R316, R318). -/
def State.aim (s : State) : State :=
  s.onRef (fun r =>
    let slew : Int := if !r.slewing then 0 else if r.remainingNs > 0 then -(ppbInc r.slope) else ppbInc r.slope
    { r with target := (nominalInc + clamp (ppbInc (-100000)) (ppbInc 100000) (r.base + slew)).toNat })

/-- The selector enters a state, with its event (R332). -/
def State.setRef (st : RefState) (s : State) : State :=
  let old := s.ref.state
  if old = st then s
  else
    (s.onRef (fun r => { r with state := st, stateSince := s.now })).raise 7 1 st.code
      (bytes [old.code, match s.ref.selected with | some i => i | none => 255])

/-- REF_LOST from source 0x241 with the last selected candidate (R313). -/
def State.refLost (s : State) : State := s.fault 0x241 0x71 s.ref.lastSelected

/-- Whether an instant is passed over by a step from `a` to `b` (R315). -/
def passed (a b t : Nat) : Bool := a < t && t ≤ b

/-- A handle that will report LATE (R315). -/
def Handle.markIf (p : Bool) (h : Handle) : Handle := if p then { h with late := true } else h

/-- Armed actions whose instant a step from `a` to `b` passes over carry LATE when they end; their rows then come at
once, as their instants have passed (R315). -/
def State.markPassed (a b : Nat) (s : State) : State :=
  let hit (t : Nat) : Bool := passed a b t
  let hitIndex (domB : Bool) (i : Nat) : Bool := passed a b (indexTime domB i)
  let s := s.onPorts (fun p => { p with timed := p.timed.map (fun t => if hit (t.due * 1000) then { t with late := true } else t) })
  let s := s.onLat (fun l => { l with pending := l.pending.map (fun f =>
    match f.t with | some t => if hit t then { f with late := true } else f | none => f) })
  let s := s.onEth (fun e => { e with macs := e.macs.map (fun _ m =>
    { m with launches := m.launches.map (fun x => { x with handle := x.handle.markIf (hit x.due) }) }) })
  let s := s.onHier (fun h => { h with
    snaps := h.snaps.map (fun x => { x with handle := x.handle.markIf (hit x.t) })
    cuts := h.cuts.map (fun c =>
      { c with handle := c.handle.markIf (hitIndex (s.proc c.process).domainB c.cutIndex) }) })
  let s := s.onAudio (fun x => { x with
    starts := x.starts.map (fun q => { q with handle := q.handle.markIf (match q.startNs with | some t => hit t | none => false) })
    sets := x.sets.map (fun _ q => { q with handle := q.handle.map (Handle.markIf (match q.armed with | some t => hit t | none => false)) }) })
  let s := s.onImp (fun i => { i with sheets := i.sheets.map (fun _ h => { h with
    stagedPages := h.stagedPages.map (fun _ x => { x with handles := x.handles.map (Handle.markIf (hit x.notBefore)) })
    stagedOrder := h.stagedOrder.map (fun o => { o with handles := o.handles.map (Handle.markIf (hit o.notBefore)) }) }) })
  let s := s.onChord (fun c => { c with processes := c.processes.map (fun _ q => { q with
    placements := q.placements.map (fun x => { x with
      startHandle := x.startHandle.map (Handle.markIf (hitIndex q.domainB x.startIndex))
      stopHandle := x.stopHandle.map (Handle.markIf (match x.stopIndex with | some i => hitIndex q.domainB i | none => false)) }) }) })
  s.onTwin (fun w => { w with swapHandle := w.swapHandle.map (Handle.markIf (match w.swapAt with | some t => hit t | none => false)) })

/-- A step of the time base to a reading in units of 2^-40 ns (R315). -/
def State.stepTo (t40 : Nat) (s : State) : State :=
  let a := s.now
  let d : Int := Int.tdiv ((t40 : Int) - s.tb.t40) nsUnits
  let s := s.markPassed a (t40 / nsUnits)
  let s := s.onTb (fun b => { b with t40 := t40 })
  let s := s.raise 7 5 0 (leInt 8 (Int.tdiv d sec) ++ leInt 4 (Int.tmod d sec))
  s.fault 0x240 0x70 (unsigned 48 (clamp (-(2 ^ 47)) (2 ^ 47 - 1) d))

/-- Entry to ACQUIRING with a selected candidate (R313, R315, R316): a step where it is allowed, else a slew. -/
def State.acquire (i : Nat) (mayStep : Bool) (s : State) : State :=
  let c := s.cand i
  let s := s.onRef (fun r => { r with
    selected := some i, lastSelected := i, goodUpdates := 0, base := if s.hasHistory then s.historyBase else (s.tb.inc : Int) - nominalInc })
  let s := s.setRef .acquiring
  let s := if mayStep && s.ref.stepFirst && !s.ref.everLocked then
      let s := if c.phaseNs = 0 then s else s.stepTo ((s.tb.t40 : Int) - c.phaseNs * nsUnits).toNat
      let s := if i = 2 then s.onRef (fun r => { r with ptp0 := { r.ptp0 with steps := r.ptp0.steps + 1 } })
        else if i = 3 then s.onRef (fun r => { r with ptp1 := { r.ptp1 with steps := r.ptp1.steps + 1 } }) else s
      (s.onCand i (fun c => { c with phaseNs := 0 })).onRef (fun r => { r with slewing := false, remainingNs := 0 })
    else s.onRef (fun r => { r with slewing := c.phaseNs.natAbs > 2, slewStart := s.now, remainingNs := c.phaseNs })
  s.aim

/-- The selector evaluated anew (R311, R313). -/
def State.reselect (mayStep : Bool) (s : State) : State :=
  if !s.selectorOn then s
  else
    let quality := match s.ref.selected with | some i => s.candQuality i | none => 248
    match s.best with
    | some i =>
      if s.ref.selected = some i then s
      else
        (match s.ref.selected with
         | some j =>
           (s.acquire i mayStep).raise 7 2 i (bytes [j] ++ leInt 4 (s.cand i).phaseNs)
         | none => s.acquire i mayStep)
    | none =>
      if s.ref.selected.isNone then s
      else
        let s := s.onRef (fun r => { r with selected := none, slewing := false, remainingNs := 0, heldQuality := quality })
        let s := if s.hasHistory then (s.onRef (fun r => { r with base := s.historyBase })).setRef .holdover
          else (s.onRef (fun r => { r with base := ppbInc r.trimPpb })).setRef .freeRun
        s.aim.refLost

def State.ptp (s : State) (port : Nat) : PtpInst := if port = 0 then s.ref.ptp0 else s.ref.ptp1
def State.onPtp (s : State) (port : Nat) (f : PtpInst → PtpInst) : State :=
  s.onRef (fun r => if port = 0 then { r with ptp0 := f r.ptp0 } else { r with ptp1 := f r.ptp1 })

/-- A candidate is absent: presence, qualification and eligibility are lost at once (R310). -/
def State.candidateGone (i : Nat) (s : State) : State :=
  let c := s.cand i
  if !c.present then s
  else
    let s := s.onCand i (fun c => { c with present := false, qualified := false, losses := c.losses + 1 })
    let s := if i = 2 then s.onPtp 0 (fun p => { p with selected := false })
      else if i = 3 then s.onPtp 1 (fun p => { p with selected := false }) else s
    let s := if c.qualified then s.raise 7 3 i (bytes [0]) else s
    s.reselect true

/-- The quality that the device advertises (R312). -/
def State.advertised (s : State) : Nat :=
  match s.ref.state with
  | .locked => (match s.ref.selected with | some i => s.candQuality i | none => 248)
  | .holdover => sat 255 (s.ref.heldQuality + 1)
  | _ => 248

/-- I47 on the fallback oscillator without a good OCXO: LOST, the fallback counted at nominal (R313, R327). -/
def State.fallbackLost (s : State) : State :=
  let s := s.onRef (fun r => { r with selected := none, slewing := false, remainingNs := 0, base := 0 })
  if s.ref.state = .lost then s.aim else (s.setRef .lost).aim.refLost

/-! Captures (R322). -/

/-- A time capture of an enabled edge; a full FIFO counts it in lost (R322). -/
def State.captureEdge (source t frac : Nat) (s : State) : State :=
  if !bit s.ref.captureMask source then s
  else if s.ref.captures.length ≥ 64 then s.onRef (fun r => { r with capturesLost := sat 255 (r.capturesLost + 1) })
  else s.onRef (fun r => { r with captures := r.captures ++ [{ source := source, t := t, frac := frac }] })

/-- A phase error reduced modulo the phase period into −P/2 to P/2 (R314). -/
def reducePhase (period : Option Nat) (e : Int) : Int :=
  match period with
  | none => e
  | some p => if p = 0 then e else
    let r := e % (p : Int)
    if 2 * r > p then r - p else r

end Sys2Proof.Machine
end

