-- ==== Sys2Proof/Machine/Time.lean ====
section
/-! DEFINITION. Class 0x9, candidates, PTP, time over Voxad, captures and the clock monitor (R306 to R332), and the edges
of TRIG_IN (R219). -/

namespace Sys2Proof.Machine

/-! Commands (R331). -/

def timeReadBody : Body := fun rq s =>
  require rq.payload.isEmpty
    (okWith (timeBytes s.now ++ leBytes 2 (s.tb.t40 % nsUnits / 2 ^ 24) ++ bytes [s.ref.state.code, 0]) s) s

def execTimeRead (rq : Request) (s : State) : Out := .next (command 0x9001 timeReadBody rq s)

def timeSetBody : Body := fun rq s =>
  let p := rq.payload
  if p.length != 16 || !nsOk p 8 || !zeroAt p 12 4 then fail stBadParam s
  else if (s.ref.state = .acquiring || s.ref.state = .locked)
      && (s.ref.selected = some 2 || s.ref.selected = some 3 || s.ref.selected = some 4) then fail stWrongState s
  else ok (s.stepTo (timeAt p 0 8 * nsUnits))

def execTimeSet (rq : Request) (s : State) : Out := .next (command 0x9002 timeSetBody rq s)

def refConfigBody : Body := fun rq s =>
  let p := rq.payload
  let i := u8 p 0
  let lane := u16 p 4
  if p.length != 16 || i > 7 || u8 p 3 > 1 || (i != 5 && u8 p 3 != 0) || (if i = 7 then lane > 255 else lane != 0)
      || !zeroAt p 6 2 || !zeroAt p 12 4 then fail stBadParam s
  else if i = 7 && u8 p 1 != 0 && (s.lane lane).role != .sdi && (s.lane lane).role != .eth then fail stWrongState s
  else
    let moved := i = 7 && (s.cand 7).lane != lane
    let s := if moved then s.candidateGone 7 else s
    let s := s.onCand i (fun c =>
      { c with priority := u8 p 1, configQuality := if 2 ≤ i && i ≤ 4 then c.configQuality else u8 p 2,
               tenm := u8 p 3 = 1, lane := lane, asymPs := s32 p 8 })
    ok (s.reselect true)

def execRefConfig (rq : Request) (s : State) : Out := .next (command 0x9003 refConfigBody rq s)

def refGlobalBody : Body := fun rq s =>
  let p := rq.payload
  let good := p.length = 12 && 5 ≤ u16 p 0 && u16 p 0 ≤ 5000 && u8 p 2 ≤ 60 && u8 p 3 < 4 && 60 ≤ u32 p 4 && u32 p 4 ≤ 604800
    && 1 ≤ u8 p 8 && u8 p 8 ≤ 100 && zeroAt p 10 2
  let set (r : Time) : Time :=
    { r with slope := u16 p 0, qualS := u8 p 2, stepFirst := bit (u8 p 3) 0, ocxoEnable := bit (u8 p 3) 1,
             holdoverMaxS := u32 p 4, freqLimitPpm := u8 p 8, qualityLimit := u8 p 9 }
  require good (ok ((s.onRef set).aim.reselect true)) s

def execRefGlobal (rq : Request) (s : State) : Out := .next (command 0x9004 refGlobalBody rq s)

/-- A good OCXO (R326). -/
def State.ocxoGood (s : State) : Bool := s.ref.ocxoFitted && (s.ref.clocks.at 1 {}).good

/-- A candidate's record of REF_STATUS (R331). -/
def State.candRecord (i : Nat) (s : State) : List Byte :=
  let c := s.cand i
  bytes [i, flag c.present + 2 * flag c.qualified + 4 * flag (s.eligible i), s.candQuality i, c.priority]
    ++ leInt 4 c.phaseNs ++ leInt 4 c.freqPpb ++ leBytes 4 c.losses.toNat

def refStatusBody : Body := fun rq s =>
  require rq.payload.isEmpty
    (okWith (bytes [match s.ref.selected with | some i => i | none => 255, s.ref.state.code, s.advertised,
        flag s.ref.slewing + 2 * flag s.hasHistory + 4 * flag s.ocxoGood]
      ++ leInt 4 s.ref.remainingNs ++ leBytes 4 ((s.now - s.ref.stateSince) / sec) ++ leInt 4 s.freqPpb
      ++ (List.range 8).flatMap (fun i => s.candRecord i)) s) s

def execRefStatus (rq : Request) (s : State) : Out := .next (command 0x9005 refStatusBody rq s)

def ptpConfigBody : Body := fun rq s =>
  let p := rq.payload
  require (p.length = 4 && u8 p 0 ≤ 1 && u8 p 1 ≤ 127 && u8 p 2 ≤ 1 && 2 ≤ u8 p 3 && u8 p 3 ≤ 10)
    (ok (s.onPtp (u8 p 0) (fun i => { i with domain := u8 p 1, hybrid := u8 p 2 = 1, announceTimeout := u8 p 3 }))) s

def execPtpConfig (rq : Request) (s : State) : Out := .next (command 0x9006 ptpConfigBody rq s)

def ptpStatusBody : Body := fun rq s =>
  let i := s.ptp (u8 rq.payload 0)
  require (rq.payload.length = 4 && u8 rq.payload 0 ≤ 1 && zeroAt rq.payload 1 3)
    (okWith (leBytes 8 i.gm ++ bytes [i.clockClass, i.accuracy] ++ leBytes 2 i.variance ++ leInt 4 i.offsetNs
      ++ leBytes 4 i.pathNs ++ leInt 2 i.utcOffset ++ leBytes 2 i.steps.toNat ++ leBytes 4 i.syncRx.toNat
      ++ leBytes 4 i.announceRx.toNat) s) s

def execPtpStatus (rq : Request) (s : State) : Out := .next (command 0x9007 ptpStatusBody rq s)

def freqTrimBody : Body := fun rq s =>
  let v := s32 rq.payload 0
  require (rq.payload.length = 4 && v.natAbs ≤ 100000)
    (let s := s.onRef (fun r => { r with trimPpb := v, base := if r.state = .freeRun then ppbInc v else r.base })
     ok s.aim) s

def execFreqTrim (rq : Request) (s : State) : Out := .next (command 0x9008 freqTrimBody rq s)

def captureConfigBody : Body := fun rq s =>
  require (rq.payload.length = 4 && u8 rq.payload 0 < 32 && zeroAt rq.payload 1 3)
    (ok (s.onRef (fun r => { r with captureMask := u8 rq.payload 0 }))) s

def execCaptureConfig (rq : Request) (s : State) : Out := .next (command 0x9009 captureConfigBody rq s)

def captureBytes (c : Capture) : List Byte :=
  bytes [c.source, 0] ++ leBytes 2 c.frac ++ leBytes 4 (c.t % sec) ++ leBytes 8 (c.t / sec)

def captureReadBody : Body := fun rq s =>
  let n := u8 rq.payload 0
  require (rq.payload.length = 4 && 1 ≤ n && n ≤ 64 && zeroAt rq.payload 1 3)
    (let l := s.ref.captures.take n
     okWith (bytes [l.length, s.ref.capturesLost, 0, 0] ++ l.flatMap captureBytes)
       (s.onRef (fun r => { r with captures := r.captures.drop n }))) s

def execCaptureRead (rq : Request) (s : State) : Out := .next (command 0x900A captureReadBody rq s)

/-- Frequency of an island's clock in Hz (R11). -/
def islandHz (n : Nat) : Nat :=
  if n ≤ 31 then 781250000 else if n ≤ 35 then 1600000000 else if n ≤ 37 then 1000000000 else if n = 38 then 742500000
  else if n = 39 then 1000000000 else if n ≤ 43 then 1200000000 else if n ≤ 45 then 1000000000
  else if n = 46 then 1250000000 else 500000000

/-- Frequency of a CLKMON_OUT source in Hz (R329); none for a code that the rule has not. -/
def State.clkmonHz (src : Nat) (s : State) : Option Nat :=
  if src = 0 then some 0 else if src = 1 then some 25000000 else if src = 2 then some 10000000
  else if src = 3 then some 100000000
  else if 0x10 ≤ src && src ≤ 0x3F then some (islandHz (src - 0x10))
  else if src = 0x40 then some 1 else if src = 0x41 then some 48000 else if src = 0x42 then some 96000
  else if 0x50 ≤ src && src ≤ 0x6F then some (Config.pllVHz (s.octantFamily (src - 0x50)))
  else none

def clkmonSetBody : Body := fun rq s =>
  let p := rq.payload
  let src := u8 p 0
  let d := u16 p 2 + 1
  let good := match s.clkmonHz src with
    | none => false
    | some hz => hz ≤ 250000000 * d && (src < 0x40 || src > 0x42 || d = 1)
  require (p.length = 4 && u8 p 1 = 0 && good)
    (ok (s.onRef (fun r => { r with clkmonSource := src, clkmonDiv := u16 p 2 }))) s

def execClkmonSet (rq : Request) (s : State) : Out := .next (command 0x900B clkmonSetBody rq s)

def clockStatusBody : Body := fun rq s =>
  let good (c : Nat) : Bool := (s.ref.clocks.at c {}).good
  let bad := (List.range 11).foldl (fun m n => if good (0x10 + n) then m else m + 2 ^ n) 0
  require rq.payload.isEmpty
    (okWith (bytes [flag (good 0) + 2 * flag s.ocxoGood + 4 * flag (good 2) + 8 * flag s.ref.xoUnmonitored, s.ref.clkmonSource]
      ++ leBytes 2 s.ref.clkmonDiv ++ leBytes 6 s.ref.onFallback ++ leBytes 2 bad ++ leBytes 4 s.ref.failures.toNat) s) s

def execClockStatus (rq : Request) (s : State) : Out := .next (command 0x900C clockStatusBody rq s)

def tcConfigBody : Body := fun rq s =>
  let p := rq.payload
  require (p.length = 12 && (s32 p 0).natAbs ≤ 86399 && u32 p 4 ≤ 86399 && u8 p 8 ≤ 1 && u8 p 9 = 0)
    (ok (s.onRef (fun r => { r with localOffset := s32 p 0, jamS := u32 p 4, utcMode := u8 p 8, utcManual := s16 p 10 }))) s

def execTcConfig (rq : Request) (s : State) : Out := .next (command 0x900D tcConfigBody rq s)

/-! The servo and the candidates (R310 to R317). -/

/-- A servo update: the measured frequency error, in parts per 10^12, is taken out of the increment; the remaining phase
error slews; none where the selector is off (R330); 16 updates within ±0.05 ppm reach LOCKED, and history is updated in LOCKED (R313, R316, R317). -/
def servoUpdate (phaseNs freqErr : Int) (s : State) : State :=
  match s.ref.selected with
  | none => s
  | some i =>
    if !s.selectorOn || (s.ref.state != .acquiring && s.ref.state != .locked) then s
    else
      let good := freqErr.natAbs ≤ 50000
      let wasSlewing := s.ref.slewing
      let start := s.ref.slewStart
      let s := s.onCand i (fun c => { c with phaseNs := phaseNs })
      let s := s.onRef (fun r => { r with
        base := r.base - Int.fdiv (freqErr * nominalInc) 1000000000000, remainingNs := phaseNs,
        slewing := (r.slewing || phaseNs.natAbs > 2) && phaseNs.natAbs > 2,
        slewStart := if r.slewing then r.slewStart else s.now,
        goodUpdates := if good then sat 16 (r.goodUpdates + 1) else 0 })
      let s := if wasSlewing && !s.ref.slewing then s.raise 7 4 i (leBytes 4 ((s.now - start) / 1000000)) else s
      let s := if s.ref.state = .locked then
          s.onRef (fun r => { r with
            lockedUpdates := r.lockedUpdates + 1,
            history := if (r.lockedUpdates + 1) % 16 = 0 then (r.base :: r.history).take 60 else r.history })
        else if s.ref.goodUpdates ≥ 16 then (s.onRef (fun r => { r with everLocked := true })).setRef .locked
        else s
      s.aim

def execServoUpdate (at_ : Nat) (phaseNs freqErrorPptr : Int) (s : State) : Out :=
  .next (servoUpdate phaseNs freqErrorPptr (s.advance at_))

/-- A candidate becomes present (R310). -/
def execCandidatePresent (index at_ : Nat) (phasePeriodNs : Option Nat) (offsetNs freqPpb : Int) (s : State) : Out :=
  let s := s.advance at_
  .next (if index > 7 || (s.cand index).present then s
    else s.onCand index (fun c => { c with
      present := true, presentSince := s.now, phasePeriod := phasePeriodNs, phaseNs := reducePhase phasePeriodNs offsetNs,
      freqPpb := freqPpb }))

def execCandidateAbsent (index at_ : Nat) (s : State) : Out := .next ((s.advance at_).candidateGone index)

/-- A candidate has been present for qual_s within the frequency limit (R310). -/
def candidateQualified (i : Nat) (offsetNs freqPpb : Int) (s : State) : State :=
  let c := s.cand i
  if i > 7 || !c.present || c.qualified || s.now < c.presentSince + s.ref.qualS * sec
      || freqPpb.natAbs > s.ref.freqLimitPpm * 1000 then s
  else
    let s := s.onCand i (fun c =>
      { c with qualified := true, phaseNs := reducePhase c.phasePeriod offsetNs, freqPpb := freqPpb })
    (s.raise 7 3 i (bytes [1])).reselect true

def execCandidateQualified (index at_ : Nat) (offsetNs freqPpb : Int) (s : State) : Out :=
  .next (candidateQualified index offsetNs freqPpb (s.advance at_))

/-- holdover_max_s elapsed in HOLDOVER (R313). -/
def holdoverExpiry (s : State) : State :=
  if s.ref.state != .holdover || s.now < s.ref.stateSince + s.ref.holdoverMaxS * sec then s
  else (s.setRef .lost).refLost

def execHoldoverExpiry (at_ : Nat) (s : State) : Out := .next (holdoverExpiry (s.advance at_))

/-- A phase event of REFA, REFB, PPS or DARS (R314, R322). -/
def refSyncEdge (i at_ frac assigned : Nat) (s : State) : State :=
  let s := if (s.cand i).present then s.onCand i (fun c =>
      { c with phaseNs := reducePhase c.phasePeriod ((at_ : Int) - assigned - Int.fdiv c.asymPs 1000) })
    else s
  if i ≤ 1 then s.captureEdge i at_ frac else s

def execRefSyncEdge (index at_ frac : Nat) (assigned : Nat) (s : State) : Out :=
  .next (if index = 0 || index = 1 || index = 5 || index = 6 then refSyncEdge index at_ frac assigned (s.advance at_) else s)

/-- A rising edge on PPS_IN: the start of a second by candidate 5 (R309, R322). -/
def execPpsEdge (at_ frac : Nat) (s : State) : Out :=
  .next ((refSyncEdge 5 at_ frac ((at_ + sec / 2) / sec * sec) (s.advance at_)).captureEdge 2 at_ frac)

/-- An edge on TRIG_IN: captures, and a rising one fixes the start index of armed AES_STARTs (R219, R322). -/
def execTrigInEdge (rising : Bool) (at_ : Nat) (s : State) : Out :=
  let s := (s.advance at_).captureEdge (if rising then 3 else 4) at_ 0
  .next (if !rising then s else s.onAudio (fun a => { a with starts := a.starts.map (fun x =>
    if x.trigger then x.fix (at_ + 250000) else x) }))

/-! PTP (R321). -/

/-- IEEE 1588 data set comparison of two grandmasters: the first is better (log 86). -/
def betterMaster (a b : PtpInst) : Bool :=
  let key (p : PtpInst) : List Nat := [p.prio1, p.clockClass, p.accuracy, p.variance, p.prio2, p.gm]
  decide (List.Lex (· < ·) (key a) (key b))

/-- The MAC that PTP0 or PTP1 uses (R140). -/
def State.ptpPort (port : Nat) (s : State) : PtpPort := if port = 0 then s.eth.ptp0 else s.eth.ptp1

/-- A Delay_Req of an instance (R321; its layout is IEEE 1588's, PRESUMED, log 156): in one-step mode it carries the instant at which
it leaves, with a correction below a nanosecond that is free, in two-step mode neither (R140). -/
def delayReqMessage (i : PtpInst) (identity : BitVec 80) (oneStep : Bool) (seq now frac : Nat) : List Byte :=
  bytes [1, 2] ++ beBytes 2 44 ++ bytes [i.domain, 0, 4 * flag i.hybrid, 0]
    ++ beBytes 8 (if oneStep then frac % 65536 else 0) ++ zeros 4 ++ beBytes 10 identity.toNat ++ beBytes 2 seq ++ bytes [1, 0x7F]
    ++ (if oneStep then beBytes 6 (now / sec) ++ beBytes 4 (now % sec) else zeros 10)

/-- A PTP instance answers a Sync with a Delay_Req: multicast, or in hybrid mode to the master itself; it is an express frame that
no pause holds, and its transmit timestamp is kept (R138 to R140, R321). -/
def State.sendDelayReq (port : Nat) (mac : List Byte) (ip : Nat) (s : State) : State :=
  let q := s.ptpPort port
  let i := s.ptp port
  if q.mac > 63 || !(s.mac q.mac).linkUp then s
  else
    let (f, s) := s.freeInt
    let (id, s) := s.freeByte
    let seq := (i.reqSeq + 1) % 65536
    let path : TxPath := { ttl := 1, srcPort := 319, dstPort := 319, srcIp := (Config.ptpAddress port).toNat,
                           dstMac := if i.hybrid then mac else bytes [1, 0, 0x5E, 0, 1, 0x81],
                           dstIp := if i.hybrid then ip else 0xE0000181 }
    (s.sendFrame q.mac (udpFrame path (s.mac q.mac).station id
      (delayReqMessage i (Config.ptpIdentity port) q.oneStep seq s.now (unsigned 16 f)))).onPtp port
        (fun p => { p with reqSeq := seq, t3 := s.now })

/-- A Sync, Announce or Delay_Resp of a PTP instance (R321); a Delay_Resp that answers another Delay_Req is ignored. -/
def ptpMessage (port : Nat) (msg : PtpMsg) (s : State) : State :=
  let i := s.ptp port
  match msg with
  | .announce gm clockClass accuracy variance prio1 prio2 utcOffset leap61 =>
    let n := { i with gm := gm, clockClass := clockClass, accuracy := accuracy, variance := variance, prio1 := prio1,
                      prio2 := prio2, utcOffset := utcOffset, utcValid := true, leap61 := leap61, selected := true }
    let take := !i.selected || i.gm = gm || betterMaster n i
    let s := s.onPtp port (fun p => { (if take then n else p) with announceRx := p.announceRx + 1 })
    let s := s.reselect true
    let mine := s.ref.selected = some (2 + port)
    let s := if mine && take then s.onRef (fun r => { r with leapPending := leap61 }) else s
    if mine && take && leap61 && !i.leap61 then s.raise 7 8 0 (bytes [1] ++ leInt 2 utcOffset) else s
  | .sync t1 t2 mac ip =>
    (s.onPtp port (fun p => { p with t1 := t1, t2 := t2, syncRx := p.syncRx + 1 })).sendDelayReq port mac ip
  | .delayResp seq t4 =>
    if seq != i.reqSeq then s
    else
    let a := (i.t2 : Int) - i.t1
    let b := (t4 : Int) - i.t3
    let asym := (s.ptpPort port).asymPs
    let off := Int.fdiv (a - b) 2 - Int.fdiv asym 1000
    let s := s.onPtp port (fun p => { p with offsetNs := off, pathNs := (Int.fdiv (a + b) 2).toNat })
    if (s.cand (2 + port)).present then s.onCand (2 + port) (fun c => { c with phaseNs := off }) else s

def execPtpMessage (port : Nat) (msg : PtpMsg) (at_ : Nat) (s : State) : Out :=
  .next (if port > 1 then s else ptpMessage port msg (s.advance at_))

/-! Time over Voxad (R319, R320). -/

/-- A time message (R319). -/
def State.timeMessage (kind seq t frac : Nat) (s : State) : List Byte :=
  let leap := s.ref.leapPending
  bytes [kind, s.advertised] ++ leBytes 2 seq ++ timeBytes t ++ leBytes 2 frac
    ++ bytes [flag leap + 4 * flag s.utcKnown + 8 * flag (s.ref.state = .holdover || s.ref.state = .lost), s.hier.tier]
    ++ leInt 2 s.utc ++ zeros 18

/-- The instant of a time message (R319). -/
def messageTime (m : List Byte) : Nat := instant (u64 m 4) (u32 m 12 % 2 ^ 30)

/-- The parent end of a link's time exchange: a child's link, or the active twin's (R320). -/
def State.timeParent (n : Nat) (s : State) : Bool :=
  (s.link n).role = .child || ((s.link n).role = .twin && s.twin.role = .active)

/-- The child end of a link's time exchange (R320). -/
def State.timeChild (n : Nat) (s : State) : Bool :=
  (s.link n).role = .parent || ((s.link n).role = .twin && s.twin.role = .standby)

/-- Whether a VC3 message is of a kind; any other is discarded and counted (R319). -/
def isTime (kind : Nat) (m : List Byte) : Bool := m.length = 40 && u8 m 0 = kind

def State.vc3Bad (n : Nat) (s : State) : State := s.onLink n (fun l => { l with vc3Unknown := l.vc3Unknown + 1 })

/-- A TIME_SYNC gives the child's t1 and t2, and the parent's quality and UTC (R319, R320). -/
def timeSync (n : Nat) (m : List Byte) (arrival : Nat) (s : State) : State :=
  if !isTime 1 m then s.vc3Bad n
  else if !s.timeChild n then s
  else
    let s := s.onLink n (fun l => { l with seqSync := u16 m 2, syncT1 := messageTime m, syncT2 := arrival })
    if (s.link n).role != .parent || s.hier.primary != n then s
    else
      let s := s.onCand 4 (fun c => { c with liveQuality := u8 m 1 })
      let s := s.onRef (fun r => { r with utcOffset := s16 m 20, utcValid := bit (u8 m 18) 2 })
      let leap := bit (u8 m 18) 0
      let due := leap && !s.ref.leapPending
      let s := if s.ref.selected != some 4 then s
        else
          let s := s.onRef (fun r => { r with leapPending := leap })
          if due then s.raise 7 8 0 (bytes [1] ++ leInt 2 (s16 m 20)) else s
      s.reselect true

def execTimeSync (link : Nat) (message : List Byte) (arrivalNs : Nat) (s : State) : Out :=
  .next (s.receiveBlocks link 3 1 (timeSync link message arrivalNs))

/-- A DELAY_REQ is answered with its arrival time (R319, R320). -/
def delayReq (n : Nat) (m : List Byte) (arrival frac : Nat) (s : State) : State :=
  if !isTime 2 m then s.vc3Bad n
  else if !s.timeParent n then s
  else s.putLink n 3 (s.timeMessage 3 (u16 m 2) arrival frac)

def execDelayReq (link : Nat) (message : List Byte) (arrivalNs arrivalFrac : Nat) (s : State) : Out :=
  .next (s.receiveBlocks link 3 1 (delayReq link message arrivalNs arrivalFrac))

/-- A DELAY_RESP completes the child's offset (R320). -/
def delayResp (n : Nat) (m : List Byte) (s : State) : State :=
  if !isTime 3 m then s.vc3Bad n
  else
    let l := s.link n
    if !s.timeChild n || u16 m 2 != l.seqReq then s
    else
      let off := Int.fdiv (((l.syncT2 : Int) - l.syncT1) - ((messageTime m : Int) - l.reqT3)) 2
      if l.role = .twin then (s.onRef (fun r => { r with remainingNs := off, slewing := off.natAbs > 2 })).aim
      else if s.hier.primary = n && (s.cand 4).present then
        s.onCand 4 (fun c => { c with phaseNs := off - Int.fdiv c.asymPs 1000 })
      else s

def execDelayResp (link : Nat) (message : List Byte) (s : State) : Out :=
  .next (s.receiveBlocks link 3 1 (delayResp link message))

/-- Every 1 ms the parent end launches TIME_SYNC (R320). -/
def execTimeSyncSend (link at_ : Nat) (s : State) : Out :=
  let s := s.advance at_
  .next (if (s.link link).state != .up || !s.timeParent link then s
    else
      let q := ((s.link link).seqSync + 1) % 65536
      (s.onLink link (fun l => { l with seqSync := q })).putLink link 3
        (s.timeMessage 1 q s.now (s.tb.t40 % nsUnits / 2 ^ 24)))

/-- Every 1 ms the child end sends DELAY_REQ (R320). -/
def execDelayReqSend (link at_ : Nat) (s : State) : Out :=
  let s := s.advance at_
  .next (if (s.link link).state != .up || !s.timeChild link then s
    else
      let q := ((s.link link).seqReq + 1) % 65536
      (s.onLink link (fun l => { l with seqReq := q, reqT3 := s.now })).putLink link 3 (s.timeMessage 2 q 0 0))

/-! The clock monitor (R326 to R328). Clocks: 0 XO, 1 OCXO, 2 fallback, 0x10 + n the PLL of CLOCK_STATUS bit n, 0x20 + o
PLL_V of octant o. -/

/-- The islands that a PLL feeds (R324). -/
def pllIslands (clock : Nat) : Nat :=
  if clock = 0x10 then 2 ^ 47 - 2 ^ 32
  else if clock = 0x11 then 2 ^ 47
  else if 0x13 ≤ clock && clock ≤ 0x1A then 15 * 2 ^ (4 * (clock - 0x13))
  else 0

/-- The PLLs that take a clock as reference and feed islands (R324). -/
def islandPlls : List Nat := [0x10, 0x11, 0x13, 0x14, 0x15, 0x16, 0x17, 0x18, 0x19, 0x1A]

/-- Whether a window's count is accepted (R326). -/
def countOk (clock count : Nat) : Bool :=
  if clock = 0 then 225 ≤ count && count ≤ 275
  else if clock = 1 then 99 ≤ count && count ≤ 101
  else if clock = 2 then 900 ≤ count && count ≤ 1100
  else if clock = 0x11 then 310 ≤ count && count ≤ 315
  else Config.pllCount clock * 995 / 1000 ≤ count && count ≤ cdiv (Config.pllCount clock * 1005) 1000

def State.clockMon (s : State) (c : Nat) : ClockMon := s.ref.clocks.at c {}

/-- CLOCK_FALLBACK reaches every port that has a ring enabled, whatever its ring_mask, and asserts EVENT_N (R327). -/
def State.raiseFallback (clock islands : Nat) (s : State) : State :=
  let s := s.onPorts (fun q => { q with eventCount := q.eventCount + 1 })
  let e : EventEntry := { category := 7, urgent := true, packet := s.noticePacket 7 6 clock (leBytes 8 islands) 0 0 }
  let s := if s.ports.cpa.evtRingEn then s.deliver .cpa e else s
  let s := if s.ports.cpb.evtRingEn then s.deliver .cpb e else s
  s.raiseOnLinks 7 6 clock (leBytes 8 islands)

/-- Islands switch to the fallback oscillator (R327). -/
def State.toFallback (clock islands : Nat) (s : State) : State :=
  let new := islands &&& (2 ^ 48 - 1 - s.ref.onFallback)
  let s := s.onRef (fun r => { r with onFallback := r.onFallback ||| islands })
  if new = 0 then s else s.raiseFallback clock new

/-- The islands whose clock and its PLL are stable return (R328). -/
def State.fromFallback (clock : Nat) (s : State) : State :=
  let source (p : Nat) : Bool := (s.clockMon 0).good || (p = 0x10 && s.ref.ocxoEnable && s.ocxoGood)
  let fit := (islandPlls.filter (fun p => (s.clockMon p).good && source p)).foldl (fun m p => m ||| pllIslands p) 0
  let back := s.ref.onFallback &&& fit
  if back = 0 then s
  else (s.onRef (fun r => { r with onFallback := r.onFallback - back })).raise 7 7 clock (leBytes 8 back)

/-- Whether I47 counts the fallback oscillator (R313). -/
def State.i47Fallback (s : State) : Bool := bit s.ref.onFallback 47 && !(s.ref.ocxoEnable && s.ocxoGood)

/-- A monitor window ends: a failure, or one more accepted window (R326 to R328). -/
def clockWindow (c count : Nat) (s : State) : State :=
  if c = 0 && s.ref.xoUnmonitored then s
  else
    let m := s.clockMon c
    let set (f : ClockMon → ClockMon) (s : State) : State := s.onRef (fun r => { r with clocks := r.clocks.upd c {} f })
    if countOk c count then
      let s := if c = 1 then s.onRef (fun r => { r with ocxoFitted := true }) else s
      let s := set (fun m => { m with stable := sat 16 (m.stable + 1), good := m.good || m.stable + 1 ≥ 16 }) s
      if m.good || !(s.clockMon c).good then s
      else
        let s := if c = 2 then s.onRef (fun r => { r with xoUnmonitored := false }) else s
        s.fromFallback c
    else
      let s := set (fun m => { m with good := false, stable := 0 }) (s.onRef (fun r => { r with failures := r.failures + 1 }))
      let s := if c ≥ 0x20 then s.fault (8 * (c - 0x20)) 0x11 (c - 0x20) else s.fault 0x242 0x72 c
      if !m.good then s
      else
        let s := if c = 0 then
            s.toFallback 0 (islandPlls.foldl (fun a p => a ||| pllIslands p) 0)
          else if c = 2 then s.onRef (fun r => { r with xoUnmonitored := !(r.ocxoEnable && s.ocxoGood) })
          else if c ≥ 0x10 && pllIslands c != 0 then s.toFallback c (pllIslands c)
          else s
        if s.i47Fallback && (c = 0 || c = 1 || c = 0x11) then s.fallbackLost else s

def execClockWindow (clock count at_ : Nat) (s : State) : Out :=
  .next (if clock ≤ 2 || (0x10 ≤ clock && clock ≤ 0x1A) || (0x20 ≤ clock && clock ≤ 0x3F) then clockWindow clock count (s.advance at_)
    else s)

end Sys2Proof.Machine
end

