-- ==== Sys2Proof/Machine/Twins.lean ====
section
/-! DEFINITION. Twins and fail-over (R333 to R349): pairing and the configuration copy, mirrored commands, proof digests,
health reports, yield and take-over. -/

namespace Sys2Proof.Machine

/-! Pairing (R336, R337). -/

/-- A STATE_COPY segment on the twin link, as a transaction (log 90). -/
def State.sendCopy (segment : List Byte) (s : State) : State :=
  let (pkt, s) := s.ownPacket 0xA012 0 segment
  s.openTxn s.twin.link { txid := 0, vc := 2, packet := pkt }

/-- A STATE_COPY segment that asks for no answer (log 90). -/
def State.tellTwin (segment : List Byte) (s : State) : State :=
  let (pkt, s) := s.ownPacket 0xA012 0 segment
  s.putPacket s.twin.link 2 0 2 0 8 pkt

/-- What R30 and R117 compare of every lane: role, rates and bonds; the twin link's own lanes are left out. -/
def State.laneSignature (s : State) : List Byte :=
  let own := (s.link s.twin.link).members
  ((List.range 256).flatMap (fun n =>
    let l := s.lane n
    if own.contains n then [0xFF, 0, 0, 0]
    else bytes [l.role.code, l.rxRates, l.txFormat, l.rxBond + 16 * l.txBond]))
    ++ (List.range 32).map (fun o => BitVec.ofNat 8 (flag (s.lanes.family.at o false)))
    ++ (match s.lanes.inUse with | some t => t.bytes.readN 0 32 | none => zeros 32)

/-- The signatures of two devices agree on every lane that neither uses for the twin link (R30). -/
def sameLanes (a b : List Byte) : Bool :=
  (List.range 256).all (fun n =>
    u8 a (4 * n) = 255 || u8 b (4 * n) = 255 || (a.drop (4 * n)).take 4 = (b.drop (4 * n)).take 4)
    && a.drop 1024 = b.drop 1024

/-- The twin link is UP with at least 38.75 Gb/s (R336). -/
def State.twinUp (s : State) : Bool := s.twin.link < 64 && (s.link s.twin.link).state = .up
def State.twinWide (s : State) : Bool := (s.link s.twin.link).payload ≥ 38750000

/-- Step 1 on the initiator has passed: the peer is asked (R337). -/
def State.startPair (h : Option Handle) (s : State) : State :=
  (s.onTwin (fun t => { t with pairState := 1, pairHandle := h, copiedBytes := 0, copyTotal := 0 })).sendCopy
    (bytes [0, s.life.lifecycle.code, 0, 0] ++ leBytes 4 s.folioVersion ++ leBytes 2 s.node ++ zeros 2 ++ s.laneSignature)

/-- The completion payload of TWIN_PAIR (R348). -/
def State.pairPayload (reason : Nat) (s : State) : List Byte := leBytes 8 s.twin.copiedBytes ++ bytes [reason, 0, 0, 0]

/-- Why the peer cannot pair, 0 where it can (R30, R337, R348; log 96). -/
def State.pairRefusal (p : List Byte) (s : State) : Nat :=
  if s.twin.role != .solo || !s.twin.enable || s.drives then 4
  else if u8 p 1 != s.life.lifecycle.code || !s.inField then 1
  else if !sameLanes (p.drop 12) s.laneSignature then 2
  else if u32 p 4 != s.folioVersion then 3
  else 0

/-- The configuration of class 0x9 discarded; what is measured stays (R330, R337). -/
def Time.discard (r : Time) : Time :=
  let old (p : PtpInst) : PtpInst := { p with domain := 127, hybrid := false, announceTimeout := 3 }
  { r with
    candidates := r.candidates.map (fun _ c => { c with priority := 0, configQuality := 248, tenm := false, lane := 0, asymPs := 0 })
    slope := 100, qualS := 5, stepFirst := true, ocxoEnable := false, holdoverMaxS := 86400, freqLimitPpm := 50
    qualityLimit := 255, trimPpb := 0, ptp0 := old r.ptp0, ptp1 := old r.ptp1, captureMask := 0, clkmonSource := 0
    clkmonDiv := 0, localOffset := 0, jamS := 0, utcMode := 0, utcManual := 0 }

/-- The configuration of classes 0x1 to 0x9, 0xB and 0xC discarded, the twin link and its lanes excepted (R337). -/
def State.discardConfig (s : State) : State :=
  let keep := (s.link s.twin.link).members
  let tl := s.twin.link
  let s := each s.vox.links (fun e s => if e.1 = tl || e.2.role = .off then s else s.linkOff e.1 1 1) s
  let s := s.onLanes (fun l => { l with lanes := l.lanes.filter (fun e => keep.contains e.1), family := [] })
  let s := s.onLat (fun l => { keepDue := l.keepDue, keepLast := l.keepLast })
  let s := ((((s.onEth (fun _ => {})).onAudio (fun _ => {})).onChord (fun _ => {})).onImp (fun _ => {}))
  let s := s.onMem (fun m => { m with tables := [], plates := [], generations := [], cache := [], channels := [], scrubHours := 8 })
  let s := (s.onRef Time.discard).onFaults (fun f => { f with severities := [] })
  let s := s.onPower (fun p => { p with groups := p.groups.map (fun _ g => { g with budget := 0 }), idleMs := 1000,
                                        octantMask := 4294967295, wakeFlags := 15 })
  let s := s.onTwin (fun t => { t with log := [] })
  s.onBoot (fun b => { b with inForce := b.inForce.filter (fun e => e.1 = 0xA001 || (e.1 = 0x3001 && u8 e.2 0 = tl)) })

/-- The allocated general plates, whose contents step 4 copies (R337). -/
def State.allocatedPlates (s : State) : List Nat :=
  (s.mem.plates.filter (fun e => e.2.state = .allocated)).map (·.1)

/-- PROC_PLACE copied with the earliest start still allowed; every other setting as it was (log 91). -/
def State.refreshed (e : Nat × List Byte) (s : State) : List Byte :=
  if e.1 = 0x6007 then
    let domB := (s.proc (u16 e.2 0)).domainB
    let n := (s.proc (u16 e.2 0)).n
    e.2.take 8 ++ leBytes 8 (boundaryAt domB n (s.now + 10000000))
  else e.2

/-- The segments of step 3, the copy marker last (R337; log 90). -/
def State.configSegments (s : State) : List (List Byte) :=
  let st := s.lat.standing
  let plate (e : Nat × Plate) : List Byte :=
    leBytes 4 e.1 ++ bytes [match e.2.state with | .free => 0 | .zeroing => 1 | .allocated => 2, e.2.mode,
      (s.generation e.1).toNat, 0] ++ leBytes 4 e.2.mapCount
  let chunk (kind size : Nat) (l : List (List Byte)) : List (List Byte) :=
    (List.range (cdiv l.length size)).map (fun i =>
      bytes [kind, flag (i = 0), 0, 0] ++ ((l.drop (i * size)).take size).flatten)
  s.twin.log.map (fun e => bytes [1, 0] ++ leBytes 2 e.1 ++ s.refreshed e)
    ++ [bytes [2, st.rate] ++ leBytes 2 st.modified ++ leBytes 4 st.id ++ leBytes 4 st.crc ++ timeBytes st.t]
    ++ chunk 3 300 (List.map (fun e => entryBytes e.1 e.2) st.entries)
    ++ chunk 4 300 (List.map plate s.mem.plates)
    ++ chunk 5 300 (List.map (fun e => leBytes 4 e.1 ++ pteBytes (some e.2)) s.mem.tables)
    ++ List.map (fun e => bytes [11, 0] ++ leBytes 2 e.1 ++ leBytes 4 e.2.seq ++ leBytes 4 e.2.packet
      ++ leBytes 8 (match e.2.lastFrame with | some f => f + 1 | none => 0) ++ leBytes 8 e.2.picture) s.eth.tx
    ++ [bytes [6, s.mem.bootGeneration.toNat] ++ leBytes 2 s.hier.sysTag]

/-- Step 3: the active copies its configuration, and mirrors from the marker on (R337, R343). -/
def State.sendConfig (s : State) : State :=
  let plates := s.allocatedPlates
  let s := each s.configSegments (fun g s => s.sendCopy g) s
  s.onTwin (fun t => { t with
    mirrored := true, settled := false, pairState := 1, fitLost := false, diverged := 0, copiedBytes := 0,
    copyTotal := plates.length * plateBytes, copyPlates := plates })

/-- Step 4: the next piece of the plates' contents, or the end of the copy (R337). -/
def State.sendContent (s : State) : State :=
  let pos := s.twin.copiedBytes
  if pos ≥ s.twin.copyTotal then
    (s.onTwin (fun t => { t with pairState := 2, settleFrom := s.now })).sendCopy (bytes [8, 0, 0, 0] ++ leBytes 8 pos)
  else
    let plate := s.twin.copyPlates.getD (pos / plateBytes) 0
    let off := pos % plateBytes
    let n := min 4000 (plateBytes - off)
    let (data, s) := s.dramRead (plate * plateBytes + off) n
    s.sendCopy (bytes [7, 0, 0, 0] ++ leBytes 4 plate ++ leBytes 4 off ++ data)

/-- The answer to a STATE_COPY segment at the active or initiating twin (R337). -/
def State.copyAnswered (segment : List Byte) (status : Nat) (p : List Byte) (s : State) : State :=
  let kind := u8 segment 0
  if kind = 0 then
    if s.twin.pairState != 1 || s.twin.role != .solo then s
    else if status = stOk then
      ((s.onTwin (fun t => { t with act := true, tDrop := 0 })).setTwinRole .active 0).sendConfig
    else
      let reason := if status = stBadParam && !p.isEmpty then u8 p 0 else 4
      let s := if reason = 2 then s.fault 0x250 0x82 0 else s
      (s.onTwin (fun t => { t with pairState := 0, pairHandle := none })).completeOpt s.twin.pairHandle stBadParam
        (s.pairPayload reason)
  else if s.twin.role != .active || status != stOk then s
  else if kind = 6 then s.sendContent
  else if kind = 7 && s.twin.pairState = 1 then
    (s.onTwin (fun t => { t with copiedBytes := t.copiedBytes + (segment.length - 12) })).sendContent
  else s

/-- One STATE_COPY segment other than a setting, as the standby or its candidate applies it (R337; log 90). -/
def State.applyCopy (p : List Byte) (s : State) : Res × State :=
  let k := u8 p 0
  let standby := s.twin.role = .standby
  if k = 0 then
    let why := s.pairRefusal p
    if why != 0 then
      ({ status := stBadParam, payload := bytes [why] }, if why = 2 then s.fault 0x250 0x82 0 else s)
    else
      let s := s.onTwin (fun t => { t with act := false, pairState := 1, settled := false, mirrored := false,
                                           fitLost := false, diverged := 0, tDrop := 0 })
      ok ((s.discardConfig.onKeep (fun q => { q with nodeId := u16 p 8 })).setTwinRole .standby 0)
  else if !standby then fail stWrongState s
  else if k = 2 then
    ok (s.onLat (fun l => { l with standing := { id := u32 p 4, rate := u8 p 1, modified := u16 p 2, crc := u32 p 8,
                                                 t := instant (u64 p 12) (u32 p 20) } }))
  else if k = 3 then
    let es := (records p 4 12 ((p.length - 4) / 12)).map parseEntry
    ok (s.onLat (fun l => { l with standing := { l.standing with
      entries := es.foldl (fun t e => t.put e.1 e.2) (if u8 p 1 = 1 then [] else l.standing.entries) } }))
  else if k = 4 then
    ok (each (records p 4 12 ((p.length - 4) / 12)) (fun r s => s.onMem (fun m => { m with
      plates := m.plates.put (u32 r 0) { state := if u8 r 4 = 0 then .free else if u8 r 4 = 1 then .zeroing else .allocated,
                                         mode := u8 r 5, mapCount := u32 r 8 }
      generations := m.generations.put (u32 r 0) (BitVec.ofNat 8 (u8 r 6)) })) s)
  else if k = 5 then
    ok (each (records p 4 12 ((p.length - 4) / 12)) (fun r s => s.onMem (fun m => { m with
      tables := m.tables.put (u32 r 0) {
        writable := bit (u32 r 4) 1, pinned := bit (u32 r 4) 2, rt := bit (u32 r 4) 3, remote := bit (u32 r 4) 4
        generation := BitVec.ofNat 8 (u8 r 5), node := u16 r 6 % 16384, plate := u32 r 8 % 2 ^ 21 } })) s)
  else if k = 6 then
    ok (((s.onTwin (fun t => { t with mirrored := true, settled := false, pairState := 1, fitLost := false,
                                      diverged := 0, copiedBytes := 0 })).onHier (fun h => { h with sysTag := u16 p 2 })).onMem
      (fun m => { m with bootGeneration := BitVec.ofNat 8 (u8 p 1) }))
  else if k = 7 then
    ok ((s.dramWrite (u32 p 4 * plateBytes + u32 p 8) (p.drop 12)).onTwin
      (fun t => { t with copiedBytes := t.copiedBytes + (p.length - 12) }))
  else if k = 11 then
    ok (s.onTx (u16 p 2) (fun f => { f with
      seq := u32 p 4, packet := u32 p 8, lastFrame := if u64 p 12 = 0 then none else some (u64 p 12 - 1), picture := u64 p 20 }))
  else if k = 8 then ok (s.onTwin (fun t => { t with pairState := 2, settleFrom := s.now }))
  else if k = 9 then ok ((if u8 p 1 = 1 then s.fault 0x250 0x82 0 else s).splitPair 0)
  else if k = 10 then ok (s.onTwin (fun t => { t with fitLost := true, diverged := t.diverged + 1 }))
  else fail stBadParam s

/-- Step 5: settle_ms after step 4 the pair is settled on this device (R337). -/
def settled (s : State) : State :=
  if s.twin.pairState != 2 || s.now < s.twin.settleFrom + s.twin.settleMs * 1000000 then s
  else
    let s := s.onTwin (fun t => { t with settled := true, pairState := 3, own := [], units := [] })
    let s := (s.raise 8 2 s.twin.link (leBytes 8 s.twin.copiedBytes)).raise 8 3 s.twin.link []
    if s.twin.role = .active then
      (s.onTwin (fun t => { t with pairHandle := none })).completeOpt s.twin.pairHandle stOk (s.pairPayload 0)
    else s

def execSettled (at_ : Nat) (s : State) : Out := .next (settled (s.advance at_))

/-- Step 1 of pairing on the initiator (R337). -/
def State.mayPair (s : State) : Bool :=
  s.twin.role = .solo && s.drives && s.twin.enable && s.twin.pairState = 0 && s.twinUp

def twinPairBody : Body := fun rq s =>
  if !rq.payload.isEmpty then fail stBadParam s
  else if !s.mayPair then fail stWrongState s
  else if !s.twinWide then fail stResource s
  else accepted (s.startPair (some (handleOf 0xA002 rq)))

def execTwinPair (rq : Request) (s : State) : Out := .next (command 0xA002 twinPairBody rq s)

/-- The device at position 0 starts the pairing by itself (R337). -/
def autoPair (s : State) : State :=
  if s.twin.autoPair && !s.twin.position && s.boot.phase = 0xFF && s.inField && s.mayPair && s.twinWide then s.startPair none
  else s

def execAutoPair (at_ : Nat) (s : State) : Out := .next (autoPair (s.advance at_))

/-- Pairing resumes from step 3 once the twin link is UP again (R343). -/
def State.resumePair (link : Nat) (s : State) : State :=
  if s.twin.role = .active && link = s.twin.link && s.twin.pairState = 1 && !s.twin.mirrored && s.twinUp then s.sendConfig
  else s

/-! Configuration (R348). -/

/-- The pair dissolves on the active: both become SOLO (R348). -/
def State.dissolve (s : State) : State :=
  let h := s.twin.pairHandle
  (((s.tellTwin [9, 0, 0, 0]).onTwin (fun t => { t with pairHandle := none })).splitPair 0).completeOpt h stBadParam
    (s.pairPayload 4)

def twinConfigBody : Body := fun rq s =>
  let p := rq.payload
  let link := u8 p 2
  if p.length != 8 || u8 p 0 > 1 || u8 p 1 > 1 || (link > 63 && link != 255) || !zeroAt p 3 1 || u16 p 4 < 500
      || u16 p 4 > 60000 || u16 p 6 < 100 || u16 p 6 > 1000 then fail stBadParam s
  else if u8 p 0 = 1 && (link = 255 || (s.link link).role != .twin) then fail stWrongState s
  else
    let s := s.onTwin (fun t => { t with
      enable := u8 p 0 = 1, autoPair := bit (u8 p 1) 0, link := if t.role = .solo then link else t.link,
      settleMs := u16 p 4, mirrorLeadUs := u16 p 6 })
    ok (if u8 p 0 = 0 && s.twin.role = .active then s.dissolve else s)

def execTwinConfig (rq : Request) (s : State) : Out := .next (command 0xA001 twinConfigBody rq s)

/-! Swap (R344, R348). -/

/-- fit from the latest report (R342). -/
def State.peerFit (s : State) : Bool :=
  match s.twin.report with
  | some r => bit (u8 r.bytes 8) 1
  | none => false

def twinSwapBody : Body := fun rq s =>
  let p := rq.payload
  let t := timeAt p 0 8
  if p.length != 16 || !nsOk p 8 || !zeroAt p 12 4 then fail stBadParam s
  else if s.twin.role != .active || !s.twin.mirrored || !s.twinUp || !s.peerFit || s.twin.fitLost || s.twin.swapHandle.isSome then
    fail stWrongState s
  else if t < s.now + 1000000 then fail stLate s
  else accepted (s.onTwin (fun w => { w with swapAt := some t, swapHandle := some (handleOf 0xA003 rq) }))

def execTwinSwap (rq : Request) (s : State) : Out := .next (command 0xA003 twinSwapBody rq s)

/-- The swap instant: the active drops TWIN_ACT; the command completes at t_drop + 1 us (R344, R348; log 94). -/
def twinSwapDue (s : State) : State :=
  match s.twin.swapHandle with
  | none => s
  | some h =>
    let s := if s.twin.role = .active && s.twin.swapAt.isSome then
        let s := s.twinDrop (nextUs s.now) 3
        s.advance (s.twin.tDrop + 1000)
      else s
    (s.onTwin (fun w => { w with swapAt := none, swapHandle := none })).complete h stOk []

def execTwinSwapDue (at_ : Nat) (s : State) : Out := .next (twinSwapDue (s.advance at_))

/-! Status (R348). -/

/-- copy_progress in 0.01 % (R348). -/
def Twin.progress (t : Twin) : Nat :=
  if t.pairState ≥ 2 then 10000 else if t.copyTotal = 0 then 0 else t.copiedBytes * 10000 / t.copyTotal

def twinStatusBody : Body := fun rq s =>
  let t := s.twin
  require rq.payload.isEmpty
    (okWith (bytes [t.role.code + 4 * flag t.position + 8 * flag t.act + 16 * flag t.peerPin + 32 * flag t.mirrored
        + 64 * flag t.settled + 128 * flag s.peerFit, t.link, t.pairState, t.cause]
      ++ leBytes 4 t.takeovers.toNat ++ timeBytes t.tDrop ++ leBytes 4 t.mirroredCmds.toNat ++ leBytes 2 t.progress ++ zeros 2) s) s

def execTwinStatus (rq : Request) (s : State) : Out := .next (command 0xA004 twinStatusBody rq s)

def twinHealthBody : Body := fun rq s =>
  if !rq.payload.isEmpty then fail stBadParam s
  else
    match s.twin.report with
    | some r => okWith r.bytes s
    | none => fail stWrongState s

def execTwinHealth (rq : Request) (s : State) : Out := .next (command 0xA005 twinHealthBody rq s)

/-! Mirrored commands (R339). -/

def execMirrorStatusReceived (opcode tag status : Nat) (s : State) : Out :=
  .next (if s.twin.role = .active then s.mirrorStatus opcode tag status else s)

/-! Proof digests (R340, R341). -/

/-- Lines of a frame on one link of a raster (R97; log 97). -/
def rasterLines (format carriage : Nat) : Nat :=
  let n := match format / 16 with | 1 => 525 | 2 => 625 | 3 => 750 | 7 => 2250 | 8 => 4500 | _ => 1125
  if carriage % 4 = 0 then n else n / 2

/-- The lines since the epoch that an SDI output has completed at an instant. -/
def linesAt (format carriage t : Nat) : Nat :=
  let (n, d) := frameRate (format % 16)
  t * n * rasterLines format carriage / (d * sec)

/-- One digest record (R341). -/
def digestBytes (r : DigestRec) : List Byte :=
  leBytes 2 r.dest ++ bytes [r.kind, 0] ++ leBytes 4 r.index ++ leBytes 4 r.crc

/-- The digests of the SDI lines completed in the last 100 us; the words at the drivers are not held, so each CRC is
free (R340; log 97). -/
def State.sdiDigests (s : State) : List DigestRec × State :=
  let outs := s.lanes.lanes.filter (fun e => e.2.role = .sdi && e.2.txFormat != 0)
  let units := outs.flatMap (fun e =>
    let l := e.2
    let n := rasterLines l.txFormat l.txCarriage
    let a := linesAt l.txFormat l.txCarriage (s.now - 100000)
    let b := linesAt l.txFormat l.txCarriage s.now
    (List.range (b - a)).map (fun i => (e.1, (a + i) / n % 2 ^ 20 * 4096 + ((a + i) % n + 1))))
  units.foldl (fun q u =>
    let (v, s) := q.2.freeInt
    (q.1 ++ [{ dest := u.1, kind := 0, index := u.2, crc := unsigned 32 v }], s)) ([], s)

/-- Every 100 us the active sends its digests (R341). -/
def digestsSend (s : State) : State :=
  if s.twin.role != .active || !s.twin.mirrored || !s.twinUp then s
  else
    let (sdi, s) := s.sdiDigests
    let all := s.twin.own.filter (·.done) ++ sdi
    let s := s.onTwin (fun t => { t with own := t.own.filter (fun r => !r.done) })
    each (List.range (cdiv all.length 340)) (fun i s =>
      let l := (all.drop (340 * i)).take 340
      let (pkt, s) := s.ownPacket 0xA010 0 (leBytes 2 l.length ++ zeros 2 ++ l.flatMap digestBytes)
      s.putPacket s.twin.link 2 0 2 0 8 pkt) s

def execDigestsSend (at_ : Nat) (s : State) : Out := .next (digestsSend (s.advance at_))

/-- One compared unit: matches end a run of mismatches, and the sixteenth in a run is reported (R341, R342). -/
def State.compareUnit (r : DigestRec) (own : Nat) (s : State) : State :=
  let k := r.kind * 65536 + r.dest
  let s := s.onTwin (fun t => { t with compared := t.compared + 1, own := t.own.filter (fun x => !(x.dest = r.dest && x.kind = r.kind && x.index = r.index)) })
  if own = r.crc then s.onTwin (fun t => { t with units := t.units.put k { mismatches := 0 } })
  else
    let n := (s.twin.units.at k {}).mismatches
    let s := s.onTwin (fun t => { t with
      units := t.units.put k { mismatches := sat 16 (n + 1) }
      sdiMismatch := if r.kind = 0 then t.sdiMismatch + 1 else t.sdiMismatch
      audioMismatch := if r.kind = 1 then t.audioMismatch + 1 else t.audioMismatch
      flowMismatch := if r.kind = 2 then t.flowMismatch + 1 else t.flowMismatch
      firstDest := if t.firstDest = 65535 then r.dest else t.firstDest })
    if n + 1 = 16 then
      ((s.onTwin (fun t => { t with fitLost := true })).raise 8 6 r.dest (bytes [r.kind] ++ leBytes 4 r.index)).fault 0x250 0x81
        (r.dest * 2 ^ 32 + r.index)
    else s

def parseDigest (p : List Byte) : DigestRec := { dest := u16 p 0, kind := u8 p 2, index := u32 p 4, crc := u32 p 8 }

/-- A record compared with the standby's own digest of the same output, kind and index (R341). -/
def State.compareDigest (r : DigestRec) (s : State) : State :=
  if r.kind = 0 && s.underTest [1, 2] r.dest then s.onTwin (fun t => { t with missed := t.missed + 1 })
  else if r.kind = 0 then
    let (v, s) := s.freeInt
    s.compareUnit r (unsigned 32 v)
  else
    match s.twin.own.find? (fun x => x.dest = r.dest && x.kind = r.kind && x.index = r.index && x.done) with
    | some x => s.compareUnit r x.crc
    | none => s

/-- Digest comparison runs only while the pair is settled and mirrored (R341). -/
def digests (rq : Request) (s : State) : State :=
  if !onTwinLink rq s || s.twin.role != .standby || !s.twin.settled || !s.twin.mirrored then s
  else each (records rq.payload 4 12 (u16 rq.payload 0)) (fun r s => s.compareDigest (parseDigest r)) s

def execDigests (rq : Request) (s : State) : Out := .next (digests rq s)

/-- A unit without a record within 2 ms of its completion (R341). -/
def execDigestMissed (dest kind index at_ : Nat) (s : State) : Out :=
  let s := s.advance at_
  .next (if s.twin.role = .standby && s.twin.settled && s.twin.mirrored then
    s.onTwin (fun t => { t with missed := t.missed + 1, own := t.own.filter (fun x => !(x.dest = dest && x.kind = kind && x.index = index)) })
  else s)

/-! Health (R342). -/

/-- fit of the standby (R342). -/
def State.fit (s : State) : Bool :=
  s.twin.settled && s.twin.mirrored && !s.twin.fitLost && s.topSeverity < 4

def State.healthReport (s : State) : List Byte :=
  let t := s.twin
  leBytes 4 t.healthSeq.toNat ++ leBytes 4 (s.now / sec)
    ++ bytes [flag t.settled + 2 * flag s.fit + 4 * flag (t.mirrored && s.twinUp), s.topSeverity] ++ leBytes 2 t.firstDest
    ++ leBytes 4 t.sdiMismatch.toNat ++ leBytes 4 t.audioMismatch.toNat ++ leBytes 4 t.flowMismatch.toNat
    ++ leBytes 4 t.compared.toNat ++ leBytes 4 t.missed.toNat ++ leBytes 2 t.proofFailed.toNat ++ leBytes 2 t.eccFound.toNat
    ++ leBytes 2 t.diverged.toNat ++ leBytes 2 t.linkErrors.toNat ++ zeros 8

/-- At each whole second the standby reports, and the counts of the second start again (R342). -/
def healthSend (s : State) : State :=
  if s.twin.role != .standby then s
  else
    let s := s.onTwin (fun t => { t with healthSeq := t.healthSeq + 1 })
    let (pkt, s) := s.ownPacket 0xA011 0 s.healthReport
    let s := if s.twinUp then s.putPacket s.twin.link 1 0 2 0 8 pkt else s
    s.onTwin (fun t => { t with sdiMismatch := 0, audioMismatch := 0, flowMismatch := 0, compared := 0, missed := 0,
                                firstDest := 65535, proofFailed := 0, eccFound := 0, linkErrors := 0 })

def execHealthSend (at_ : Nat) (s : State) : Out := .next (healthSend (s.advance at_))

/-- The active keeps the latest report (R342). -/
def health (rq : Request) (s : State) : State :=
  if !onTwinLink rq s || s.twin.role != .active || rq.payload.length != 48 then s
  else s.onTwin (fun t => { t with report := some { bytes := rq.payload, t := s.now }, lateRaised := false })

def execHealth (rq : Request) (s : State) : Out := .next (health rq s)

/-- 3 s without a report: once in a gap (R342; log 94). -/
def healthLate (s : State) : State :=
  let quiet : Bool := match s.twin.report with | some r => r.t + 3 * sec ≤ s.now | none => true
  if s.twin.role != .active || s.twin.lateRaised || !quiet then s
  else
    (s.onTwin (fun t => { t with lateRaised := true })).raise 8 8 0
      (leBytes 4 (match s.twin.report with | some r => u32 r.bytes 0 | none => 0))

def execHealthLate (at_ : Nat) (s : State) : Out := .next (healthLate (s.advance at_))

/-! Take-over and contention (R335, R345, R346). -/

/-- A new active APEX sends PREPARE and decisions of every open run again, with their tags and REPLAY (R199). -/
def State.resendRuns (s : State) : State :=
  if !s.hier.apexRole then s
  else
    let s := s.onHier (fun h => { h with sysFormes := h.sysFormes.map (fun _ f => { f with replayed := true }) })
    each s.hier.sysFormes (fun e s =>
    if e.2.state = 3 then
      each e.2.nodes (fun n s =>
        if n.2.answer = 255 && !n.2.prepare.isEmpty then s.originate none 1 0 n.1 0 (asReplay n.2.prepare) else s) s
    else if e.2.decision != 0 then
      each e.2.nodes (fun n s =>
        if n.2.decisionAnswer = 255 && n.1 != s.node then
          s.originate none 1 0 n.1 0 (asReplay
            (packet (if n.2.committed then 0x302A else 0x302B) e.2.tag 0 0 n.1 s.selfOriginator 0 (leBytes 4 e.1)))
        else s) s
    else s) s

/-- The standby takes over (R345): ACTIVE at t_drop + 1 us, unless its own highest fault is SAFE. -/
def takeOver (s : State) : State :=
  let t := s.now / 1000 * 1000
  let s := s.onTwin (fun w => { w with tDrop := t })
  if s.topSeverity = 5 then s
  else
    let s := s.advance (t + 1000)
    let (v, s) := s.freeInt
    let cause := if s.twinUp then 1 + unsigned 32 v % 3 else 4
    let s := (s.onTwin (fun w => { w with act := true, cause := cause, takeovers := w.takeovers + 1, retrainDue := true,
                                          report := none, lateRaised := false })).setTwinRole .active cause
    let s := s.raise 8 4 0 (bytes [cause, flag s.twin.settled] ++ timeBytes t)
    let s := (s.onRef (fun r => { r with slewing := false, remainingNs := 0 })).aim
    each s.mem.channels (fun e s => s.dmaKick e.1) (s.reselect false).resendRuns

/-- A change on TWIN_PEER (R334, R345): its fall lets a STANDBY take over and a SOLO device drive. -/
def twinPeerChange (level : Bool) (s : State) : State :=
  let fell := s.twin.peerPin && !level
  let s := s.onTwin (fun t => { t with peerPin := level })
  if !fell then s
  else
    match s.twin.role with
    | .standby => takeOver s
    | .solo => if s.boot.phase = 0xFF && s.power.state != .dormant then s.onTwin (fun t => { t with act := true }) else s
    | .active => s

def execTwinPeerChange (level : Bool) (at_ : Nat) (s : State) : Out := .next (twinPeerChange level (s.advance at_))

/-- Contention (R335): both devices report it; position 1 stops driving at the next whole microsecond. -/
def contention (s : State) : State :=
  if !s.twin.act || !s.twin.peerPin then s
  else
    let pos := flag s.twin.position
    let s := ((s.onTwin (fun t => { t with fitLost := true })).raise 8 9 pos []).fault 0x250 0x80 pos
    if !s.twin.position then s
    else if s.twin.role = .active then s.twinDrop (nextUs s.now) 5
    else s.onTwin (fun t => { t with act := false, tDrop := nextUs s.now, cause := 5 })

def execContention (at_ : Nat) (s : State) : Out := .next (contention (s.advance at_))

end Sys2Proof.Machine
end

