-- ==== Sys2Proof/Machine/Faults.lean ====
section
/-! DEFINITION. The fault collector, the safe state, FAULT_N and the snapshot banks as read (R350 to R367). -/

namespace Sys2Proof.Machine

/-- A fault message reaches the collector (R350, R351, R353). -/
def execFaultMessage (source kind detail at_ count : Nat) (s : State) : Out :=
  .next ((s.advance at_).faultMsg (source % 4096) (kind % 256) detail (max 1 (sat 65535 count)))

/-- The event of a log entry of severity WARN or above (R353, R366). -/
def State.entryEvent (e : FaultMsg) (s : State) : State :=
  if e.severity < 2 then s
  else s.raise (if e.severity = 2 then 2 else 3) e.kind e.source
    (bytes [e.severity, 0] ++ leBytes 2 e.count ++ leBytes 8 e.detail ++ leBytes 4 e.seq)

/-- SAFE_ENTERED, where it is owed: as the entry of its fault is written, or as the next one is where that record was
discarded (R355, R366; log 100). -/
def State.safeEntered (e : FaultMsg) (s : State) : State :=
  let f := s.faults
  if f.safeEvent && (e.source = f.safeBy || !f.queue.any (fun q => q.source = f.safeBy)) then
    (s.onFaults (fun f => { f with safeEvent := false })).raise 3 0x100 f.safeBy []
  else s

/-- An entry written to the fault log under the next sequence number (R359). -/
def State.logFault (e : FaultMsg) (s : State) : State :=
  let e := { e with seq := s.faults.nextSeq.toNat, overflow := s.faults.overflowFlag }
  let s := s.onFaults (fun f => { f with log := (e :: f.log).take 256, nextSeq := f.nextSeq + 1, overflowFlag := false })
  (s.safeEntered e).entryEvent e

/-- The control core takes the next entry of the collector queue (R359). -/
def faultLogEntry (s : State) : State :=
  match s.faults.queue with
  | [] => s
  | e :: r => if s.i36On then (s.onFaults (fun f => { f with queue := r })).logFault e else s

def execFaultLogEntry (s : State) : Out := .next (faultLogEntry s)

/-- A parity error in the collector (R361): the first is the self-fault, further ones count. -/
def selfParity (register : Nat) (s : State) : State :=
  let counted := s.onFaults (fun f => { f with counts := f.counts.upd 0x2FF 0 (fun c => (c + 1) % 2 ^ 32) })
  if !s.i36On then s
  else if s.faults.selfFault then
    counted.onFaults (fun f => { f with log := f.log.map (fun e =>
      if e.kind = 0xFF && e.source = 0x2FF then { e with count := sat 65535 (e.count + 1) } else e) })
  else
    let entered := s.faults.safe
    let s := counted.onFaults (fun f => { f with
      selfFault := true, safe := true, safeBy := if entered then f.safeBy else 0x2FF, safeEvent := false, queue := [],
      yielded := true })
    let s := s.assertFaultN
    let s := s.logFault { source := 0x2FF, kind := 0xFF, detail := register % 2 ^ 48, t := s.now, severity := 5 }
    let s := if entered then s else s.raise 3 0x100 0x2FF []
    if s.twin.role = .active then s.twinDrop (nextUs s.now) 2 else s

def execSelfParity (register at_ : Nat) (s : State) : Out := .next (selfParity register (s.advance at_))

/-- The end of the 20 us (R358): PULSE releases FAULT_N, HOLD where a release waits. -/
def faultNRelease (s : State) : State :=
  let f := s.faults
  if f.forced || f.selfFault || (f.holdMode && !f.releaseDue) || s.now < f.lastAssert + 20000 then s
  else s.onFaults (fun f => { f with pinLow := false, releaseDue := false })

def execFaultNRelease (at_ : Nat) (s : State) : Out := .next (faultNRelease (s.advance at_))

/-! Commands (R365). -/

/-- A log entry's 32 bytes (R365). -/
def logBytes (e : FaultMsg) : List Byte :=
  leBytes 4 e.seq ++ leBytes 2 e.source ++ bytes [e.kind, e.severity] ++ leBytes 2 e.count ++ leBytes 2 (flag e.overflow)
    ++ leBytes 8 e.detail ++ timeBytes e.t

def faultReadBody : Body := fun rq s =>
  let p := rq.payload
  let l := (s.faults.log.reverse.filter (fun e => u32 p 0 ≤ e.seq)).take (u8 p 4)
  let next := match l.getLast? with | some e => (e.seq + 1) % 2 ^ 32 | none => s.faults.nextSeq.toNat
  require (p.length = 8 && 1 ≤ u8 p 4 && u8 p 4 ≤ 16 && zeroAt p 5 3)
    (okWith (bytes [l.length, 0, 0, 0] ++ leBytes 4 next ++ l.flatMap logBytes) s) s

def execFaultRead (rq : Request) (s : State) : Out := .next (command 0xB001 faultReadBody rq s)

/-- A range of source IDs (R365). -/
def sourceRange (first count most : Nat) : Bool := 1 ≤ count && count ≤ most && first + count ≤ 4096

def faultSeveritySetBody : Body := fun rq s =>
  let p := rq.payload
  let range := (List.range (u16 p 2)).map (fun i => u16 p 0 + i)
  require (p.length = 8 && sourceRange (u16 p 0) (u16 p 2) 4096 && 1 ≤ u8 p 4 && u8 p 4 ≤ 5 && zeroAt p 5 3
      && range.all (fun n => defaultSeverity n != 0 && n != 0x2FF))
    (ok (s.onFaults (fun f => { f with severities := range.foldl (fun t n => t.put n (u8 p 4)) f.severities }))) s

def execFaultSeveritySet (rq : Request) (s : State) : Out := .next (command 0xB002 faultSeveritySetBody rq s)

/-- A fault counter record (R365). -/
def State.counterRecord (n : Nat) (s : State) : List Byte :=
  if defaultSeverity n = 0 then leBytes 2 n ++ zeros 6
  else leBytes 2 n ++ bytes [s.severity n, flag (s.faults.active.get? n).isSome] ++ leBytes 4 (s.faults.counts.at n 0)

def faultCountersBody : Body := fun rq s =>
  let p := rq.payload
  require (p.length = 4 && sourceRange (u16 p 0) (u16 p 2) 500)
    (okWith (leBytes 2 (u16 p 2) ++ zeros 2 ++ (List.range (u16 p 2)).flatMap (fun i => s.counterRecord (u16 p 0 + i))) s) s

def execFaultCounters (rq : Request) (s : State) : Out := .next (command 0xB003 faultCountersBody rq s)

def faultAckBody : Body := fun rq s =>
  let p := rq.payload
  let first := u16 p 0
  let n := u16 p 2
  require (p.length = 4 && sourceRange first n 4096)
    (ok (s.onFaults (fun f => { f with active := f.active.filter (fun e => e.1 < first || first + n ≤ e.1) }))) s

def execFaultAck (rq : Request) (s : State) : Out := .next (command 0xB004 faultAckBody rq s)

def safeClearBody : Body := fun rq s =>
  if !rq.payload.isEmpty then fail stBadParam s
  else if s.faults.selfFault || s.faults.active.any (fun e => e.2 = 5) then fail stWrongState s
  else if !s.faults.safe then ok s
  else
    let held (d : Nat) (x : Dest) : Dest := { x with safeHold := x.safeHold || d ≤ 0xFF }
    ok (((s.onFaults (fun f => { f with safe := false })).onLat (fun l => { l with dests := l.dests.map held })).raise 3 0x101 0 [])

def execSafeClear (rq : Request) (s : State) : Out := .next (command 0xB005 safeClearBody rq s)

/-- FAULT_N after a change of mode or a release (R358): a pin that nothing holds is released once its 20 us have passed. -/
def settlePin (now : Nat) (f : Faults) : Faults :=
  if f.pinLow && !f.forced && !f.selfFault && (!f.holdMode || f.releaseDue) && f.lastAssert + 20000 ≤ now then
    { f with pinLow := false, releaseDue := false }
  else f

def faultNControlBody : Body := fun rq s =>
  let p := rq.payload
  let op := u8 p 1
  if p.length != 4 || u8 p 0 > 1 || op > 2 || u8 p 2 < 1 || u8 p 2 > 5 || !zeroAt p 3 1 then fail stBadParam s
  else if op = 1 && s.faults.selfFault then fail stWrongState s
  else
    ok (s.onFaults (fun f =>
      let g : Faults := { f with
        holdMode := u8 p 0 = 1
        minSeverity := u8 p 2
        forced := if op = 2 then true else if op = 1 then false else f.forced
        pinLow := f.pinLow || op = 2
        releaseDue := f.releaseDue || (op = 1 && f.pinLow) }
      settlePin s.now g))

def execFaultNControl (rq : Request) (s : State) : Out := .next (command 0xB006 faultNControlBody rq s)

def faultStatusBody : Body := fun rq s =>
  let f := s.faults
  require rq.payload.isEmpty
    (okWith (bytes [s.topSeverity, flag f.safe + 2 * flag f.selfFault + 4 * flag f.pinLow + 8 * flag f.holdMode
        + 16 * flag f.forced, f.queue.length, f.minSeverity]
      ++ leBytes 4 f.overflow.toNat ++ leBytes 4 f.nextSeq.toNat ++ leBytes 2 f.active.length ++ zeros 2) s) s

def execFaultStatus (rq : Request) (s : State) : Out := .next (command 0xB007 faultStatusBody rq s)

/-- FAULT_INJECT (R362); which collector register a parity injection corrupts is free (log 101). -/
def faultInjectBody : Body := fun rq s =>
  let p := rq.payload
  if p.length != 12 || u16 p 0 > 4095 || u8 p 3 > 1 || u64 p 4 ≥ 2 ^ 48 then fail stBadParam s
  else if u8 p 3 = 1 then
    let (r, s) := s.freeInt
    ok (selfParity (unsigned 16 r) s)
  else ok (s.fault (u16 p 0) (u8 p 2) (u64 p 4))

def execFaultInject (rq : Request) (s : State) : Out := .next (command 0xB008 faultInjectBody rq s)

/-- The bytes of a snapshot bank (R363). -/
def SnapBank.bytes (b : SnapBank) (fromKeep : Bool) : List Byte :=
  let sizes := b.groups.map List.length
  let dir := (List.range 10).flatMap (fun i =>
    let n := sizes.getD i 0
    if n = 0 then zeros 8 else leBytes 4 (112 + (sizes.take i).sum) ++ leBytes 4 n)
  leBytes 4 b.id ++ leBytes 2 b.set ++ leBytes 2 (1 + 2 * flag fromKeep) ++ timeBytes b.t
    ++ leBytes 4 (112 + sizes.sum) ++ zeros 8 ++ dir ++ b.groups.flatten

def snapshotReadBody : Body := fun rq s =>
  let p := rq.payload
  let n := u16 p 8
  if p.length != 12 || u8 p 0 > 1 || !zeroAt p 1 3 || n < 1 || n > 4000 || !zeroAt p 10 2 then fail stBadParam s
  else
    match (if u8 p 0 = 0 then s.hier.shadow else s.keep.snapshot) with
    | none => fail stWrongState s
    | some b =>
      let d := b.bytes (u8 p 0 = 1)
      if u32 p 4 + n > d.length then fail stBadParam s else okWith ((d.drop (u32 p 4)).take n) s

def execSnapshotRead (rq : Request) (s : State) : Out := .next (command 0xB009 snapshotReadBody rq s)

/-! The KA sticky registers and the watchdog (R364, R424). -/

/-- A fault held in KA's sticky registers, at most 4 (R364). -/
def State.stick (source kind detail : Nat) (s : State) : State :=
  let m : FaultMsg := { source := source, kind := kind, detail := detail % 2 ^ 48, t := s.now }
  s.onFaults (fun f => { f with sticky := (f.sticky ++ [m]).take 4 })

/-- A reset armed; where causes meet, the lower code counts (R424). -/
def State.armReset (t cause : Nat) (s : State) : State :=
  s.onBoot (fun b => { b with
    resetDue := match b.resetDue with | some u => some (min t u) | none => some t
    resetDueCause := if b.resetDue.isSome then min b.resetDueCause cause else cause })

/-- The control core's watchdog expires (R424). -/
def execWatchdog (pc at_ : Nat) (s : State) : Out :=
  let s := s.advance at_
  .next ((s.stick 0x2F0 0xF0 pc).armReset (s.now + 1000000) 5)

end Sys2Proof.Machine
end

