-- ==== Sys2Proof/Machine/Power.lean ====
section
/-! DEFINITION. Power states, wake-up, rails and temperature (R368 to R383). -/

namespace Sys2Proof.Machine

/-! Estimates. -/

/-- The hottest sensor reading (R382), 0 before the first. -/
def State.tempMax (s : State) : Int := s.power.temps.foldl max (s.power.temps.headD 0)

/-- The estimate of the DORMANT load of KA in uA (R377). -/
def State.kaEstimate (s : State) : Nat :=
  let tj := s.tempMax
  let base : Nat := if tj ≤ 50 then 7000 else 7000 + ((tj - 50) * 4000 / 55).toNat
  let armed := ((List.range 32).filter (fun o => bit s.power.octantMask o)).length * 8
  base + 50 * armed + (if bit s.power.wakeFlags 4 then 5000 else 0)

/-- The package estimate in mW (R26): the lanes by R116, and a free rest, whose terms the spec does not give (log 104). -/
def State.packageMw (s : State) : Nat × State :=
  let (v, s) := s.freeInt
  ((List.range 256).foldl (fun n l => n + (s.lanePower l).1) 0 / 100 + unsigned 18 v, s)

/-! DORMANT (R373). -/

/-- A folio store or transfer is in progress (R373). -/
def State.folioMoves (s : State) : Bool :=
  s.life.store.isSome || s.life.receiving.isSome || !s.hier.relay.active.isEmpty

/-- Something is armed (R373, code 7). -/
def State.somethingArmed (s : State) : Bool :=
  !s.ports.timed.isEmpty || !s.hier.snaps.isEmpty || !s.audio.starts.isEmpty || s.audio.sets.any (fun q => q.2.armed.isSome)
    || s.chord.processes.any (fun p => p.2.placements.any (fun x => x.startHandle.isSome || x.stopHandle.isSome))

/-- The first condition of R373 that keeps the device out of DORMANT, 0 where none does. -/
def State.dormantBlock (s : State) : Nat :=
  if !s.inField || !(List.range 5).all (fun g => s.idleLong g) then 1
  else if (List.range 5).any (fun g => (s.power.groups.at g {}).budget < dormantDelay g) then 2
  else if s.twin.role != .solo then 3
  else if s.hier.apexRole then 4
  else if s.lat.pending.any (fun f => f.t.isSome) then 5
  else if s.mem.channels.any (fun c => 48 ≤ c.1 && !c.2.jobs.isEmpty) then 6
  else if s.somethingArmed then 7
  else if !s.proof.runs.isEmpty || s.folioMoves then 8
  else if (s.ports.cpa.linkUp && !s.ports.cpa.aspmL1) || (s.ports.cpb.linkUp && !s.ports.cpb.aspmL1) then 9
  else if s.kaEstimate > 27000 then 10
  else 0

/-- Links and MACs of lanes that go DORMANT (R30, R158, R164): LINK_DOWN with reason 3, cause LOCAL_DORMANT; lock is lost. -/
def State.lanesDormant (s : State) : State :=
  let s := each s.vox.links (fun e s =>
    if e.2.state = .off || e.2.state = .down then s else s.linkLeave e.1 .down 10 (some 3)) s
  let s := each s.eth.macs (fun e s => s.macDown e.1 2) s
  each s.lanes.lanes (fun e s => s.onLane e.1 (fun l => { l with rx := l.rx.unlocked, align := .los })) s

/-- The states that R372 chooses, taken; then the device's own (R373). With nothing in its way the entry into DORMANT
begins; where only the KA estimate stands in its way, KA_BUDGET says so once (R377). -/
def State.choosePower (s : State) : State :=
  if s.boot.phase != 0xFF || !s.inField || s.power.state = .dormant then s
  else
    let s := s.trackGroups
    let s := each (List.range 5) (fun g s =>
      let st := s.chosenState g
      let s := if g = 0 && st = .dormant && s.group 0 != .dormant then s.lanesDormant else s
      -- MACS in DORMANT is off, and its links with it (R142, R370)
      let s := if g = 1 && st = .dormant && s.group 1 != .dormant then each s.eth.macs (fun e s => s.macDown e.1 2) s else s
      s.setGroup g st) s
    let s := s.settleDevice
    let b := s.dormantBlock
    if b = 0 then
      if s.power.entryStep = 0 && s.power.wakingStep = 0 then s.onPower (fun p => { p with entryStep := 1, kaRaised := false }) else s
    else if b = 10 then
      if s.power.kaRaised then s
      else (s.onPower (fun p => { p with kaRaised := true })).raise 9 4 0 (leBytes 4 s.kaEstimate)
    else s.onPower (fun p => { p with kaRaised := false })

/-- The time base while the device is DORMANT (R330): HOLDOVER with history, else FREE_RUN; PTP and Voxad candidates
are absent. -/
def State.dormantTime (s : State) : State :=
  let held := match s.ref.selected with | some i => s.candQuality i | none => s.ref.heldQuality
  let gone (c : Candidate) : Candidate :=
    if c.present then { c with present := false, qualified := false, losses := c.losses + 1 } else c
  let s := s.onRef (fun r => { r with
    selected := none, slewing := false, remainingNs := 0, heldQuality := held
    candidates := r.candidates.map (fun i c => if 2 ≤ i && i ≤ 4 then gone c else c) })
  if s.ref.state = .lost then s
  else if s.hasHistory then ((s.onRef (fun r => { r with base := s.historyBase })).setRef .holdover).aim
  else ((s.onRef (fun r => { r with base := ppbInc r.trimPpb })).setRef .freeRun).aim

/-- A step of the entry into DORMANT (R376), in which TWIN_ACT is low and FAULT_N released (R444). An entry whose conditions
end stops at its step (log 105). -/
def dormantEntryStep (s : State) : State :=
  let step := s.power.entryStep
  if step = 0 then s
  else if s.dormantBlock != 0 then
    s.onPower (fun p => { p with entryStep := 0, wakingStep := if step ≥ 3 then 1 else 0 })
  else if step = 1 then
    let s := if s.lat.keepDue.isSome then keepWrite s else s
    (s.onKeep (fun k => { k with context := true })).onPower (fun p => { p with entryStep := 2 })
  else if step = 2 then
    (((s.lanesDormant.onPcie .cpa (fun p => { p with linkL1 := p.linkUp })).onPcie .cpb
      (fun p => { p with linkL1 := p.linkUp })).onPower (fun p => { p with entryStep := 3 }))
  else
    let s := if s.lat.keepDue.isSome then keepWrite s else s
    let old := s.power.state
    let s := each (List.range 5) (fun g s => s.setGroup g .dormant) s
    let s := (s.onMem (fun m => { m with cache := [] })).dormantTime
    let s := (s.onTwin (fun t => { t with act := false })).onFaults (fun f => { f with pinLow := false, releaseDue := false })
    (s.onPower (fun p => { p with state := .dormant, entryStep := 0, gated := [] })).raise 9 1 2 (bytes [old.code])

def execDormantEntryStep (at_ : Nat) (s : State) : Out := .next (dormantEntryStep (s.advance at_))

/-! Domains (R368, R369). -/

/-- The group of a domain: 0 to 4, or 5 the core (R368, R382). -/
def domainGroup (d : Nat) : Nat :=
  if d ≤ 287 then 0 else if d ≤ 296 then 1 else if d ≤ 328 then 2 else if d ≤ 330 then 3 else if d ≤ 334 then 4 else 5

/-- Whether a domain has service to give (R369; log 106). -/
def State.hasService (d : Nat) (s : State) : Bool :=
  if d ≤ 255 then (s.lane d).role != .none && !((s.lane d).role = .sdi && !(s.lane d).rxEnable && !(s.lane d).txOn)
  else if d ≤ 287 then (List.range 8).any (fun i => (s.lane (8 * (d - 256) + i)).role != .none)
  else if d = 288 then s.eth.macs.any (fun m => m.2.mode != .off)
  else if d ≤ 296 then (List.range 8).any (fun i => (s.mac (8 * (d - 289) + i)).mode != .off)
  else if d ≤ 328 then s.chord.processes.any (fun p => p.2.placements.any (fun x => x.engine = d - 297))
  else if d ≤ 330 then (List.range 16).any (fun i => (s.imp.sheets.at (16 * (d - 329) + i) {}).enabled)
  else true

/-- A request that reaches a gated island starts its wake and proceeds when the island is in RUN; one that arrives while the
device is DORMANT or wakes is held at its crossing until the wake is over (R17, R369, R375). -/
def islandWakeRequest (d : Nat) (s : State) : State :=
  let g := domainGroup d
  if d > 339 || s.power.off || !s.inField then s
  else if s.power.state = .dormant then
    s.onPower (fun p => { p with heldRequests := if p.heldRequests.contains d then p.heldRequests else p.heldRequests ++ [d] })
  else
    let s := if s.hasService d || s.power.gated.contains d then s
      else s.onPower (fun p => { p with gated := p.gated ++ [d] })
    if g = 5 then s
    else ((s.onGroup g (fun q => { q with idleSince := if s.groupBusy g then none else some s.now })).setGroup g .run).settleDevice

/-- A step of the wake from DORMANT (R375). -/
def wakeStep (s : State) : State :=
  let n := s.power.wakingStep
  if n = 0 then s
  else
    let s := s.onPower (fun p => { p with wakingStep := n + 1 })
    if n = 2 then
      let stuck := s.faults.sticky
      let s := s.onFaults (fun f => { f with pinLow := f.pinLow || f.forced })
      (each stuck (fun m s => s.classify m) (s.onFaults (fun f => { f with sticky := [] }))).takeHeld
    else if n = 3 then
      (((s.onKeep (fun k => { k with context := false })).onPcie .cpa (fun p => { p with linkL1 := false })).onPcie .cpb
        (fun p => { p with linkL1 := false }))
    else if n = 5 then (if s.power.state = .dormant then reloadStanding s else s)
    else if n = 6 then s.wakeLocal
    else if n ≥ 8 then
      let old := s.power.state
      let s := s.onPower (fun p => { p with wakingStep := 0, state := if old = .dormant then .run else old })
      let s := if old = .dormant then s.raise 9 1 0 (bytes [2]) else s
      let s := s.onTwin (fun t => { t with act := t.act || (t.role = .solo && !t.peerPin) })
      let s := each (List.range 5) (fun g s => (s.onGroup g (fun q => { q with idleSince := none })).setGroup g .run) s
      let s := s.raise 9 3 s.power.lastWake (leBytes 2 s.power.lastWakeLane ++ leBytes 8 s.power.lastWakeS)
      let s := s.onAudio (fun a => { a with
        inputs := a.inputs.map (fun _ p => { p with fifo := 8, pairSlip := false, swapped := false })
        outputs := a.outputs.map (fun _ p => { p with fifo := 8, pairSlip := false, swapped := false }) })
      let held := s.power.heldRequests
      let s := each held islandWakeRequest (s.onPower (fun p => { p with heldRequests := [] }))
      (s.trackGroups.choosePower).reselect false
    else s

def execWakeStep (at_ : Nat) (s : State) : Out := .next (wakeStep (s.advance at_))

/-- WAKE_N held low (R379). -/
def execWakeNLow (at_ : Nat) (s : State) : Out :=
  .next (((s.advance at_).onPower (fun p => { p with wakeNLow := true })).wake 2 0)

/-- A group has been idle for idle_ms (R371). -/
def execGroupIdleExpiry (group at_ : Nat) (s : State) : Out :=
  let s := s.advance at_
  .next (if s.idleLong group then s.choosePower else s)

/-! Domains (R368, R369). -/

/-- Whether a domain is on. -/
def State.domainOn (d : Nat) (s : State) : Bool :=
  let g := domainGroup d
  if s.power.state = .dormant || s.power.off then false
  else if g = 5 then true
  else if !s.inField then false
  else s.group g != .dormant && (s.hasService d || s.power.gated.contains d)

def execIslandWakeRequest (domain : Nat) (s : State) : Out := .next (islandWakeRequest domain s)

/-! Commands (R382). -/

def powerBudgetSetBody : Body := fun rq s =>
  let p := rq.payload
  require (p.length = 24 && 100 ≤ u16 p 20 && u16 p 20 ≤ 60000 && zeroAt p 22 2)
    (ok ((each (List.range 5) (fun g s => s.onGroup g (fun q => { q with budget := u32 p (4 * g) })) s).onPower
      (fun q => { q with idleMs := u16 p 20 })).choosePower) s

def execPowerBudgetSet (rq : Request) (s : State) : Out := .next (command 0xC001 powerBudgetSetBody rq s)

def powerStatusBody : Body := fun rq s =>
  if !rq.payload.isEmpty then fail stBadParam s
  else
    let p := s.power
    let groups := (List.range 5).foldl (fun n g => n + (s.group g).code * 4 ^ g) 0
    let off := ((List.range 340).filter (fun d => !s.domainOn d)).length
    let block := s.dormantBlock
    let (mw, s) := s.packageMw
    okWith (bytes [p.state.code, block] ++ leBytes 2 off ++ leBytes 2 groups ++ zeros 2 ++ leBytes 4 mw
      ++ leBytes 4 s.kaEstimate ++ leBytes 4 p.wakes.toNat ++ bytes [p.lastWake] ++ leInt 1 s.tempMax
      ++ leBytes 2 p.lastWakeLane ++ leBytes 8 p.lastWakeS) s

def execPowerStatus (rq : Request) (s : State) : Out := .next (command 0xC002 powerStatusBody rq s)

def wakeConfigBody : Body := fun rq s =>
  let p := rq.payload
  require (p.length = 8 && u8 p 4 < 32 && zeroAt p 5 3)
    (ok (s.onPower (fun q => { q with octantMask := u32 p 0, wakeFlags := u8 p 4 })).choosePower) s

def execWakeConfig (rq : Request) (s : State) : Out := .next (command 0xC003 wakeConfigBody rq s)

def domainStatusBody : Body := fun rq s =>
  let p := rq.payload
  let first := u16 p 0
  let n := u16 p 2
  require (p.length = 4 && 1 ≤ n && first + n ≤ 340)
    (okWith (leBytes 2 n ++ zeros 2 ++ (List.range n).flatMap (fun i =>
      leBytes 2 (first + i) ++ bytes [domainGroup (first + i), flag (s.domainOn (first + i))])) s) s

def execDomainStatus (rq : Request) (s : State) : Out := .next (command 0xC004 domainStatusBody rq s)

/-- RAIL_STATUS (R382): a rail's current, and its voltage before its monitor has reported, are free (log 107). -/
def railStatusBody : Body := fun rq s =>
  if !rq.payload.isEmpty then fail stBadParam s
  else
    let r := (List.range 7).foldl (fun (q : List Byte × State) i =>
      let (v, s) := q.2.freeInt
      let (c, s) := s.freeInt
      let m := s.power.rails.get? i
      let mv := match m with | some m => m.mv | none => unsigned 16 v
      (q.1 ++ bytes [i, flag (match m with | some m => m.under | none => false)] ++ leBytes 2 mv ++ leBytes 4 (unsigned 32 c), s))
      ([], s)
    okWith r.1 r.2

def execRailStatus (rq : Request) (s : State) : Out := .next (command 0xC005 railStatusBody rq s)

/-! Rails and temperature (R380, R432). -/

/-- The undervoltage thresholds in mV (R432). -/
def railThreshold (i : Nat) : Nat := [700, 840, 1120, 1030, 1620, 1620, 680].getD i 0

/-- A fault of the power manager: to the collector, or, while I36 is off, to KA's sticky registers (R364). -/
def State.kaFault (kind detail : Nat) (s : State) : State :=
  if s.i36On then s.fault 0x260 kind detail else s.stick 0x260 kind detail

/-- A rail monitor reports (R380); the threshold has 10 mV of hysteresis upwards (R432). -/
def rail (i mv : Nat) (s : State) : State :=
  if i > 6 then s
  else
    let was := (s.power.rails.at i {}).under
    let now := mv < railThreshold i || (was && mv < railThreshold i + 10)
    let s := s.onPower (fun p => { p with rails := p.rails.put i { under := now, mv := mv } })
    if now && !was then s.kaFault 0x91 i else s

def execRail (index millivolts at_ : Nat) (s : State) : Out := .next (rail index millivolts (s.advance at_))

/-- The 16 sensors are read (R380). -/
def tempRead (readings : List Int) (s : State) : State :=
  let l := readings.take 16
  let s := s.onPower (fun p => { p with temps := l })
  each (List.range l.length) (fun i s => if l.getD i 0 > 105 then s.kaFault 0x92 i else s) s

def execTempRead (readings : List Int) (at_ : Nat) (s : State) : Out := .next ((tempRead readings (s.advance at_)).choosePower)

end Sys2Proof.Machine
end

