-- ==== Sys2Proof/Machine/Proof.lean ====
section
/-! DEFINITION. Proof runs and live tests (R384 to R393). -/

namespace Sys2Proof.Machine

/-! Tests (R387). -/

/-- The unit numbers of a test of a run (R387). -/
def testUnit (test u : Nat) : Bool :=
  match test with
  | 1 | 2 => u ≤ 255
  | 3 => u ≤ 1
  | 4 => u ≤ 7 || (0x10 ≤ u && u ≤ 0x2F)
  | 5 => u ≤ 6
  | 6 => u ≤ 15
  | 7 => u ≤ 31 || u = 0x40 || u = 0x41 || (0x80 ≤ u && u ≤ 0x9F)
  | 8 => u < endGeneral
  | 9 => u ≤ 31
  | 10 => u ≤ 31
  | _ => false

/-- Added power of a unit under a test, in mW (R387). -/
def testPower (test : Nat) : Nat := [0, 300, 350, 50, 150, 10, 0, 500, 800, 900, 1100].getD test 0

/-- Whether a unit is idle (R385); PLL_V feeds the SDI lanes of its octant (R324). -/
def State.unitIdle (test u : Nat) (s : State) : Bool :=
  let dark (first n : Nat) : Bool := (List.range n).all (fun i => (s.lane (first + i)).role = .none)
  let noEngine : Bool := !s.chord.processes.any (fun p => p.2.placements.any (fun x => x.engine = u))
  let sheetOff (i : Nat) : Bool := !(s.imp.sheets.at i {}).enabled
  let taken (t : Tbl Entry) : Bool := t.any (fun e => e.2.source = u)
  match test with
  | 1 | 2 =>
    let l := s.lane u
    l.role = .none || (l.role = .sdi && l.txMode = 0 && !taken s.lat.standing.entries
      && !s.lat.pending.any (fun f => taken f.entries))
  | 3 => s.ref.selected != some u
  | 4 => if u < 8 then dark (32 * u) 32 else (List.range 8).all (fun i => (s.lane (8 * (u - 16) + i)).role != .sdi)
  | 5 | 6 => true
  | 7 =>
    if u ≤ 31 then noEngine
    else if u = 0x40 then (List.range 16).all sheetOff
    else if u = 0x41 then (List.range 16).all (fun i => sheetOff (16 + i))
    else true
  | 8 =>
    if u < firstGeneral then !s.lat.stores.any (fun x => x.2.plates.contains u) else (s.mem.plates.get? u).isNone
  | 9 => noEngine
  | _ => sheetOff u

/-- Whether a run may target a unit (R386). -/
def State.mayTest (force : Bool) (test u : Nat) (s : State) : Bool :=
  if s.life.lifecycle = .field then s.twin.role = .standby || s.unitIdle test u else force || s.unitIdle test u

/-- The domain that a test needs awake (R17, R387), if it is one that sleeps. -/
def testDomain (test u : Nat) : Option Nat :=
  match test with
  | 1 | 2 => some u
  | 4 => if u < 8 then none else some (256 + (u - 16))
  | 7 => if u ≤ 31 then some (297 + u) else if u = 0x40 then some 329 else if u = 0x41 then some 330 else none
  | 8 => some 331
  | 9 => some (297 + u)
  | 10 => some (329 + u / 16)
  | _ => none

/-! Runs (R388, R389). -/

/-- The six counts and first_seq of a run (R393). -/
def ProofRunSt.map (r : ProofRunSt) : List Byte :=
  leBytes 2 r.id ++ leBytes 2 r.total ++ leBytes 2 r.passed ++ leBytes 2 r.failed ++ leBytes 2 r.aborted
    ++ leBytes 2 r.skipped ++ leBytes 4 r.firstSeq

/-- A result written to the ring of 1,024 under the next seq (R391). -/
def State.writeResult (r : ProofRec) (s : State) : State :=
  s.onProof (fun p => { p with
    results := ({ r with seq := p.nextSeq.toNat, t := s.now } :: p.results).take 1024, nextSeq := p.nextSeq + 1 })

/-- PROOF_FAIL and its event (R391, R393): 1 STEP_FAILED, 3 LIVE_FAILED. -/
def State.proofFailed (code run test unit seq : Nat) (s : State) : State :=
  ((s.onTwin (fun t => { t with proofFailed := t.proofFailed + 1 })).raise 14 code run
    (bytes [test] ++ leBytes 2 unit ++ leBytes 4 seq)).fault 0x280 0xA8 (test + unit * 256)

def State.onRun (f : ProofRunSt → ProofRunSt) (s : State) : State :=
  s.onProof (fun p => { p with runs := match p.runs with | [] => [] | r :: l => f r :: l })

/-- The running run offers its steps from now on (R389). -/
def State.offerRun (s : State) : State :=
  s.onRun (fun r => { r with steps := r.steps.map (fun x => { x with since := s.now }), firstSeq := s.proof.nextSeq.toNat })

/-- The head of the list is the running run; once its last step has ended it completes, and the next begins (R389, R393). -/
def State.checkRunEnd : Nat → State → State
  | 0, s => s
  | n + 1, s =>
    match s.proof.runs with
    | [] => s
    | r :: l =>
      if !r.steps.isEmpty then s
      else
        let s := (s.onProof (fun p => { p with runs := l })).raise 14 2 r.id r.map
        State.checkRunEnd n ((s.complete r.handle stOk r.map).offerRun)

def State.runsEnd (s : State) : State := s.checkRunEnd s.proof.runs.length

/-- The matrix returns to service once no memory test runs (R302, R387). -/
def State.matrixAfter (s : State) : State :=
  if s.mem.matrixWhy = .proof && !s.proof.runs.any (fun r => r.steps.any (fun x => (x.test = 7 || x.test = 8) && x.started.isSome))
  then s.matrixService else s

/-- A step ends: its unit is restored, and its result is counted and written (R388, R391). -/
def State.endStep (x : ProofStep) (result coverage cause durationUs detail : Nat) (s : State) : State :=
  match s.proof.runs with
  | [] => s
  | r :: _ =>
    let seq := s.proof.nextSeq.toNat
    let s := s.onRun (fun r => { r with
      steps := r.steps.erase x
      passed := r.passed + flag (result = 0)
      failed := r.failed + flag (result = 1)
      aborted := r.aborted + flag (result = 2)
      skipped := r.skipped + flag (result = 3) })
    let s := s.writeResult { runId := r.id, test := x.test, result := result, unit := x.unit, coverage := coverage,
                             cause := cause, durationUs := durationUs, detail := detail % 2 ^ 48 }
    let s := if result = 1 then s.proofFailed 1 r.id x.test x.unit seq else s
    s.matrixAfter.runsEnd

/-- Added power of the running steps, in mW (R389, R393). -/
def State.addedMw (s : State) : Nat :=
  s.proof.runs.foldl (fun n r => r.steps.foldl (fun n x => if x.started.isSome then n + testPower x.test else n) n) 0

/-- Lanes under test (R389, R393). -/
def State.lanesTested (s : State) : Nat :=
  s.proof.runs.foldl (fun n r => (r.steps.filter (fun x => x.started.isSome && (x.test = 1 || x.test = 2))).length + n) 0

/-- Whether a step may start with the running ones (R26, R389). -/
def State.stepFits (mw : Nat) (x : ProofStep) (s : State) : Bool :=
  (!(x.test = 1 || x.test = 2) || s.lanesTested < 16) && s.addedMw + testPower x.test ≤ 12000
    && mw + s.addedMw + testPower x.test ≤ 240000

/-- The next step to start: in list order, the first that fits; none beyond one that has waited 100 ms (R389). -/
def State.nextStep (mw : Nat) (s : State) : List ProofStep → Option ProofStep
  | [] => none
  | x :: l =>
    if x.started.isSome then State.nextStep mw s l
    else if s.stepFits mw x then some x
    else if x.since + 100000000 ≤ s.now then none
    else State.nextStep mw s l

/-- A step marked as started. -/
def startFirst (x : ProofStep) (t : Nat) : List ProofStep → List ProofStep
  | [] => []
  | y :: l => if y = x then { x with started := some t } :: l else y :: startFirst x t l

/-- A step starts: its domain wakes, its unit is saved, and a memory test puts the matrix in ordered mode; a lane without a
valid class is skipped (R17, R387, R388). -/
def proofStepStart (s : State) : State :=
  match s.proof.runs with
  | [] => s
  | r :: _ =>
    if s.faults.safe || s.power.state = .dormant || s.power.off || s.boot.phase != 0xFF then s
    else
      let (mw, s) := s.packageMw
      match s.nextStep mw r.steps with
      | none => s
      | some x =>
        if (x.test = 1 || x.test = 2) && !(List.range 10).any (fun k => s.classValid x.unit k) then
          s.endStep x 3 0 5 0 0
        else
          let s := match testDomain x.test x.unit with | some d => islandWakeRequest d s | none => s
          let s := s.onRun (fun r => { r with steps := startFirst x s.now r.steps })
          if (x.test = 7 || x.test = 8) && s.mem.matrixWhy = .none then s.matrixOrdered .proof else s

def execProofStepStart (at_ : Nat) (s : State) : Out := .next (proofStepStart (s.advance at_))

/-- The started step of a test on a unit. -/
def State.runningStep (test unit : Nat) (s : State) : Option ProofStep :=
  match s.proof.runs with
  | [] => none
  | r :: _ => r.steps.find? (fun x => x.test = test && x.unit = unit && x.started.isSome)

/-- A step finishes (R388, R391). -/
def proofStepDone (test unit : Nat) (seen : ProofSeen) (s : State) : State :=
  match s.runningStep test unit with
  | none => s
  | some x => s.endStep x (if seen.passed then 0 else 1) seen.coverage 0 seen.durationUs seen.detail

def execProofStepDone (test unit : Nat) (seen : ProofSeen) (at_ : Nat) (s : State) : Out :=
  .next (proofStepDone test unit seen (s.advance at_))

/-- The time that a step has run, in us. -/
def State.stepUs (x : ProofStep) (s : State) : Nat := match x.started with | some t => (s.now - t) / 1000 | none => 0

/-- A step is aborted (R388): by the safe state, by a take-over, or by a service that needs its unit. -/
def proofStepAbort (test unit : Nat) (s : State) : State :=
  match s.runningStep test unit with
  | none => s
  | some x =>
    let cause := if s.faults.safe then 4 else if s.twin.role = .active && s.twin.retrainDue then 3 else 1
    s.endStep x 2 0 cause (s.stepUs x) 0

def execProofStepAbort (test unit at_ : Nat) (s : State) : Out := .next (proofStepAbort test unit (s.advance at_))

/-! Live tests (R390). -/

/-- Slices of one pass of a live test (R387). -/
def liveSlices (test : Nat) : Nat := if test = 16 then 64 else if test = 17 then 32 else 128

def liveUnit (test u : Nat) : Bool := (test = 16 && u ≤ 1) || (test = 17 && u = 0) || (test = 18 && u ≤ 7)

/-- One slice of a live test; the last slice of a pass writes its result (R390, R391). -/
def liveSlice (test unit : Nat) (seen : ProofSeen) (s : State) : State :=
  if !liveUnit test unit || !bit s.proof.liveMask (test - 16) || s.power.state = .dormant || s.power.off || !s.inField
      || s.boot.phase != 0xFF then s
  else
    let k := test * 256 + unit
    let n := s.proof.slices.at k 0 + 1
    let bad : Bool := !seen.passed || s.proof.liveFailed.contains k
    if n < liveSlices test then
      s.onProof (fun p => { p with
        slices := p.slices.put k n
        liveFailed := if seen.passed || p.liveFailed.contains k then p.liveFailed else p.liveFailed ++ [k] })
    else
      let seq := s.proof.nextSeq.toNat
      let s := s.onProof (fun p => { p with slices := p.slices.del k, liveFailed := p.liveFailed.erase k })
      let s := s.writeResult { runId := 0, test := test, result := flag bad, unit := unit, coverage := seen.coverage,
                               durationUs := seen.durationUs, detail := seen.detail % 2 ^ 48 }
      if bad then s.proofFailed 3 0 test unit seq else s

def execLiveSlice (test unit : Nat) (seen : ProofSeen) (at_ : Nat) (s : State) : Out :=
  .next (liveSlice test unit seen (s.advance at_))

/-! Commands (R393). -/

def parseItem (p : List Byte) : ProofItem := { test := u8 p 0, first := u16 p 2, units := u16 p 4 }

/-- The steps of a list, in list order, units ascending (R388, R389). -/
def itemSteps (l : List ProofItem) : List ProofStep :=
  l.flatMap (fun i => (List.range i.units).map (fun k => { test := i.test, unit := i.first + k }))

/-- A run's number: 1 to 65,535, since 0 marks a live pass (R391). -/
def nextRunId (n : Nat) : Nat := if n ≥ 65535 then 1 else n + 1

def proofRunBody : Body := fun rq s =>
  let p := rq.payload
  let n := u8 p 1
  let force := bit (u8 p 2) 0
  let rs := records p 4 8 n
  let l := rs.map parseItem
  if p.length < 4 || u8 p 0 > 1 || n = 0 || n > 32 || p.length != 4 + 8 * n || u8 p 2 > 1 || !zeroAt p 3 1
      || !rs.all (fun r => zeroAt r 1 1 && zeroAt r 6 2) || l.any (fun i => i.units = 0) then fail stBadParam s
  else if l.any (fun i => !(List.range i.units).all (fun k => testUnit i.test (i.first + k)))
      || (force && s.life.lifecycle = .field) then fail stBadParam s
  else if u8 p 0 = 1 then
    if s.twin.role != .active || !s.twinUp then fail stWrongState s
    else
      let tag := twinTag rq.port rq.tag
      let orig := match rq.port with | .link _ => rq.originator | _ => s.node
      let pkt := packet 0xD001 tag 8 0 0 orig 0 (0 :: p.drop 1)
      accepted ((s.openTxn s.twin.link { txid := 0, vc := 1, packet := pkt }).onProof
        (fun q => { q with forwarded := q.forwarded ++ [(tag, handleOf 0xD001 rq)] }))
  else if l.any (fun i => !(List.range i.units).all (fun k => s.mayTest force i.test (i.first + k))) then fail stWrongState s
  else if s.proof.runs.length ≥ 5 then fail stBusy s
  else
    let steps := itemSteps l
    let r : ProofRunSt := { id := s.proof.nextRun, steps := steps, total := steps.length, handle := handleOf 0xD001 rq, force := force }
    let first := s.proof.runs.isEmpty
    let s := s.onProof (fun q => { q with runs := q.runs ++ [r], nextRun := nextRunId q.nextRun })
    accepted (if first then s.offerRun else s)

def execProofRun (rq : Request) (s : State) : Out := .next (command 0xD001 proofRunBody rq s)

/-- PROOF_CANCEL (R388): a queued run ends with every step aborted; of the running one, every step. -/
def proofCancelBody : Body := fun rq s =>
  let p := rq.payload
  if p.length != 4 || !zeroAt p 2 2 then fail stBadParam s
  else
    match s.proof.runs.find? (fun r => r.id = u16 p 0) with
    | none => fail stWrongState s
    | some r =>
      let s := s.onProof (fun q => { q with runs := q.runs.map (fun x => if x.id = r.id then
        { x with steps := [], aborted := x.aborted + x.steps.length } else x) })
      let s := each r.steps (fun x s => s.writeResult { runId := r.id, test := x.test, result := 2, unit := x.unit, cause := 2,
                                                        durationUs := s.stepUs x }) s
      let head := s.proof.runs.head?.any (fun x => x.id = r.id)
      let r' : ProofRunSt := { r with steps := [], aborted := r.aborted + r.steps.length }
      if head then ok s.matrixAfter.runsEnd
      else
        ok (((s.onProof (fun q => { q with runs := q.runs.filter (fun x => x.id != r.id) })).raise 14 2 r.id r'.map).complete
          r.handle stOk r'.map)

def execProofCancel (rq : Request) (s : State) : Out := .next (command 0xD002 proofCancelBody rq s)

/-- A result's 32 bytes (R391). -/
def resultBytes (r : ProofRec) : List Byte :=
  leBytes 4 r.seq ++ leBytes 2 r.runId ++ bytes [r.test, r.result] ++ leBytes 2 r.unit ++ bytes [r.coverage, r.cause]
    ++ leBytes 4 r.durationUs ++ leBytes 8 r.detail ++ leBytes 4 (r.t / sec) ++ leBytes 4 (r.t % sec)

def proofResultsBody : Body := fun rq s =>
  let p := rq.payload
  let l := (s.proof.results.reverse.filter (fun e => u32 p 0 ≤ e.seq)).take (u8 p 4)
  let next := match l.getLast? with | some e => (e.seq + 1) % 2 ^ 32 | none => s.proof.nextSeq.toNat
  require (p.length = 8 && 1 ≤ u8 p 4 && u8 p 4 ≤ 120 && zeroAt p 5 3)
    (okWith (bytes [l.length, 0, 0, 0] ++ leBytes 4 next ++ l.flatMap resultBytes) s) s

def execProofResults (rq : Request) (s : State) : Out := .next (command 0xD003 proofResultsBody rq s)

/-- The formats that slice_format may name (R390). -/
def sliceFormatOk (f : Nat) : Bool := 1 ≤ f / 16 && f / 16 ≤ 6 && 1 ≤ f % 16 && f % 16 ≤ 5 && formatKnown f

def proofLiveBody : Body := fun rq s =>
  let p := rq.payload
  require (p.length = 4 && u8 p 0 < 8 && sliceFormatOk (u8 p 1) && 16 ≤ u8 p 2 && zeroAt p 3 1)
    (ok (s.onProof (fun q => { q with
      liveMask := u8 p 0
      sliceFormat := u8 p 1
      sliceEvery := u8 p 2
      slices := q.slices.filter (fun e => bit (u8 p 0) (e.1 / 256 - 16))
      liveFailed := q.liveFailed.filter (fun k => bit (u8 p 0) (k / 256 - 16)) }))) s

def execProofLive (rq : Request) (s : State) : Out := .next (command 0xD004 proofLiveBody rq s)

def proofStatusBody : Body := fun rq s =>
  if !rq.payload.isEmpty then fail stBadParam s
  else
    let runs := s.proof.runs
    let steps := runs.foldl (fun n r => n + (r.steps.filter (fun x => x.started.isSome)).length) 0
    okWith (bytes [runs.length, steps, s.lanesTested, s.proof.liveMask] ++ leBytes 4 s.addedMw
      ++ leBytes 2 (match runs with | r :: _ => r.id | [] => 0) ++ zeros 2) s

def execProofStatus (rq : Request) (s : State) : Out := .next (command 0xD005 proofStatusBody rq s)

end Sys2Proof.Machine
end

