-- ==== Sys2Proof/Machine/Life.lean ====
section
/-! DEFINITION. The life cycle, the device secret and the key slots (R394 to R403, R415). -/

namespace Sys2Proof.Machine

open Sys2Proof.Crypto

/-! The secret and its roots (R397, R398). -/

/-- The serial number as the KDF's contexts carry it (R398). -/
def serialBytes : List Byte := leBytes 8 Config.serial.toNat

/-- A key derived from the device secret (R398). -/
def fromSecret (label : String) (context : List Byte) (bits : Nat) : List Byte :=
  kdf (leBytes 48 Config.deviceSecret.toNat) (ascii label) context bits

/-- The root of the current life-cycle state (R398). -/
def State.root (s : State) : List Byte := fromSecret "SKW ROOT" (leBytes 1 s.life.lifecycle.code ++ serialBytes) 384

/-- K_store, which only the folio engine holds (R398). -/
def storeKey : List Byte := fromSecret "FOLIO STORE" serialBytes 256

/-! Key slots (R399 to R403). -/

def State.keySlot (s : State) (n : Nat) : KeySlot := s.life.slots.at n {}
def State.onSlot (n : Nat) (f : KeySlot → KeySlot) (s : State) : State :=
  s.onLife (fun l => { l with slots := l.slots.upd n {} f })

/-- The bit of lc_mask that a life-cycle state needs (R400). -/
def KeySlot.inState (k : KeySlot) (c : Lifecycle) : Bool := bit k.lcMask c.code

/-- One use of a slot for a usage bit (R401): status 0, or the refusal; a use that passes decrements a counted slot, and the
last one raises KEY_EXHAUSTED. -/
def State.useSlot (n usage : Nat) (s : State) : Nat × State :=
  let k := s.keySlot n
  if k.kind = 0 || k.bad || !bit k.usage usage then (stBadParam, s)
  else if !k.inState s.life.lifecycle then (stLifecycle, s)
  else if k.volatile || k.uses = 0xFFFFFFFF then (0, s)
  else if k.uses = 0 then (stWrongState, s)
  else
    let s := s.onSlot n (fun k => { k with uses := k.uses - 1 })
    (0, if k.uses = 1 then s.raise 13 7 n (leBytes 4 k.label) else s)

/-- The key check value (R400). -/
def KeySlot.kcv (k : KeySlot) : List Byte :=
  if k.kind = 0 then zeros 8 else if k.kind = 3 then (sha384 k.key).take 8 else (hmac k.key (ascii "KCV")).take 8

/-- The bytes of a key of a type (R400, R415). -/
def keyBytes (kind : Nat) : Nat := if kind = 1 then 32 else if kind = 2 then 48 else 97

/-- The attribute block that a request carries (R400). -/
def parseAttr (p : List Byte) : KeySlot :=
  { kind := u8 p 0, usage := u8 p 1 % 32, volatile := bit (u8 p 1) 5, lcMask := u8 p 2, uses := u32 p 4, label := u32 p 8 }

/-- The usages that a type may carry (R400). -/
def usageAllowed (kind : Nat) : Nat := if kind = 1 then 0b01011 else if kind = 2 then 0b11000 else 0b00100

/-- Whether an attribute block may be written (R400). -/
def attrOk (p : List Byte) : Bool :=
  1 ≤ u8 p 0 && u8 p 0 ≤ 3 && u8 p 1 < 64 && (u8 p 1 % 32) &&& usageAllowed (u8 p 0) = u8 p 1 % 32
    && u8 p 2 < 16 && u8 p 2 % 2 = 0 && zeroAt p 3 1

/-- The slots that KEY_LOAD and KEY_IMPORT write (R399). -/
def mayWrite (n : Nat) : Bool := n = 1 || (16 ≤ n && n ≤ 63)

def keyInfoBody : Body := fun rq s =>
  let p := rq.payload
  let n := u8 p 0
  let k := s.keySlot n
  require (p.length = 4 && n ≤ 63 && zeroAt p 1 3)
    (okWith (bytes [n, k.kind, k.usage + 32 * flag k.volatile, k.lcMask] ++ leBytes 4 k.uses ++ k.kcv ++ leBytes 4 k.label
      ++ zeros 4) s) s

def execKeyInfo (rq : Request) (s : State) : Out := .next (command 0xE010 keyInfoBody rq s)

def keyLoadBody : Body := fun rq s =>
  let p := rq.payload
  let a := p.drop 4
  require (16 ≤ p.length && mayWrite (u8 p 0) && zeroAt p 1 3 && attrOk a && p.length = 16 + keyBytes (u8 a 0))
    (ok (s.onSlot (u8 p 0) (fun _ => { parseAttr a with key := p.drop 16 }))) s

def execKeyLoad (rq : Request) (s : State) : Out := .next (command 0xE011 keyLoadBody rq s)

def keyImportBody : Body := fun rq s =>
  let p := rq.payload
  let a := (p.drop 4).take 12
  if p.length < 44 || !mayWrite (u8 p 0) || u8 p 1 > 63 || !zeroAt p 2 2 || !attrOk a || p.length != 44 + keyBytes (u8 a 0) then
    fail stBadParam s
  else
    let (st, s) := s.useSlot (u8 p 1) 1
    if st != 0 then fail st s
    else
      match gcmOpen (s.keySlot (u8 p 1)).key ((p.drop 16).take 12) a (p.drop 44) ((p.drop 28).take 16) with
      | none => fail stBadParam s
      | some k => ok (s.onSlot (u8 p 0) (fun _ => { parseAttr a with key := k }))

def execKeyImport (rq : Request) (s : State) : Out := .next (command 0xE012 keyImportBody rq s)

def keyDeriveBody : Body := fun rq s =>
  let p := rq.payload
  let a := (p.drop 4).take 12
  let n := u8 p 0
  let src := u8 p 1
  let label := (p.drop 16).take (u8 p 2)
  let context := p.drop (16 + u8 p 2)
  if p.length < 16 || n < 16 || n > 63 || (src > 63 && src != 255) || u8 p 2 > 64 || u8 p 3 > 64
      || p.length != 16 + u8 p 2 + u8 p 3 || !attrOk a || u8 a 0 = 3 then fail stBadParam s
  else
    let (st, s) := if src = 255 then (0, s) else s.useSlot src 3
    if st != 0 then fail st s
    else
      let input := if src = 255 then s.root else (s.keySlot src).key
      let k : KeySlot := { parseAttr a with key := kdf input label context (8 * keyBytes (u8 a 0)) }
      okWith k.kcv (s.onSlot n (fun _ => k))

def execKeyDerive (rq : Request) (s : State) : Out := .next (command 0xE013 keyDeriveBody rq s)

/-- KEY_USE (R401, R415): the IV of ENC is drawn afresh; there is no additional data. -/
def keyUseBody : Body := fun rq s =>
  let p := rq.payload
  let n := u8 p 0
  let op := u8 p 1
  let len := u16 p 2
  let head := if op = 1 then 32 else 4
  let data := p.drop head
  let usage := [0, 1, 4, 2].getD op 0
  if p.length < 4 || n > 63 || (3 ≤ n && n ≤ 15) || op > 3 || len = 0 || len > 3900 || p.length != head + len
      || (op = 3 && len != 144) then fail stBadParam s
  else
    let (st, s) := s.useSlot n usage
    if st != 0 then fail st s
    else
      let k := (s.keySlot n).key
      if op = 0 then
        let (iv, s) := State.freeBytes 12 s
        let r := gcmSeal k iv [] data
        okWith (iv ++ r.2 ++ r.1) s
      else if op = 1 then
        match gcmOpen k ((p.drop 4).take 12) [] data ((p.drop 16).take 16) with
        | none => fail stBadParam s
        | some plain => okWith plain s
      else if op = 2 then okWith (hmac k data) s
      else okWith (bytes [flag (verify k (data.take 48) (data.drop 48))]) s

def execKeyUse (rq : Request) (s : State) : Out := .next (command 0xE014 keyUseBody rq s)

def keyClearBody : Body := fun rq s =>
  let p := rq.payload
  require (p.length = 4 && mayWrite (u8 p 0) && zeroAt p 1 3)
    (ok (s.onLife (fun l => { l with slots := l.slots.del (u8 p 0) }))) s

def execKeyClear (rq : Request) (s : State) : Out := .next (command 0xE015 keyClearBody rq s)

/-! The life cycle (R394, R395). -/

/-- The nonce in force (R395). -/
def State.nonce (s : State) : Nat := (Config.nonce s.life.nonceSeq).toNat

def lcStatusBody : Body := fun rq s =>
  require rq.payload.isEmpty
    (okWith (bytes [s.life.lifecycle.code, s.life.serviceEntries, 0, 0] ++ leBytes 4 s.nonce
      ++ bytes [flag s.life.secretOk, 0, 0, 0]) s) s

def execLcStatus (rq : Request) (s : State) : Out := .next (command 0xE001 lcStatusBody rq s)

/-- The state that an authorised change leads to, or the refusal (R394). -/
def State.lcChange (code : Nat) (s : State) : Lifecycle ⊕ Nat :=
  match s.life.lifecycle, code with
  | .factory, 2 => .inl .field
  | .service, 2 => .inl .field
  | .field, 3 => if s.life.serviceEntries < 8 then .inl .service else .inr stResource
  | .factory, 4 | .field, 4 | .service, 4 => .inl .retired
  | _, _ => .inr stWrongState

/-- LC_TRANSITION (R394, R395): the record is verified with K02, a new nonce is drawn, and the fuses begin to burn. -/
def lcTransitionBody : Body := fun rq s =>
  let p := rq.payload
  let drawn (r : Res × State) : Res × State := (r.1, r.2.onLife (fun l => { l with nonceSeq := l.nonceSeq + 1 }))
  if p.length != 112 || !zeroAt p 10 2 || u64 p 0 != Config.serial.toNat || u8 p 8 != s.life.lifecycle.code
      || u32 p 12 != s.nonce then drawn (fail stBadParam s)
  else
    let (st, s) := s.useSlot 2 2
    if st != 0 || !verify (s.keySlot 2).key (sha384 (p.take 16)) (p.drop 16) then drawn (fail stBadParam s)
    else if s.life.nextLifecycle.isSome then drawn (fail stWrongState s)
    else
      match s.lcChange (u8 p 9) with
      | .inr st => drawn (fail st s)
      | .inl c => drawn (ok (s.onLife (fun l => { l with nextLifecycle := some c })))

def execLcTransition (rq : Request) (s : State) : Out := .next (command 0xE002 lcTransitionBody rq s)

/-- A public key that LC_PROVISION puts into K00 or K02 (R399; log 112). -/
def authorityKey (k : List Byte) : KeySlot := { kind := 3, usage := 4, lcMask := 14, uses := 0xFFFFFFFF, key := k }

/-- LC_PROVISION (R394, R397): the hashes of the two keys are fused with the helper data, where the array enrols. -/
def lcProvisionBody (enrolled : Bool) : Body := fun rq s =>
  let p := rq.payload
  let a := p.take 97
  let b := (p.drop 97).take 97
  if p.length != 196 || !zeroAt p 194 2 then fail stBadParam s
  else if s.life.nextLifecycle.isSome then fail stLifecycle s
  else if !enrolled then fail stResource s
  else
    ok (((s.onLife (fun l => { l with nextLifecycle := some .factory, k00Hash := sha384 a, k02Hash := sha384 b })).onSlot 0
      (fun _ => authorityKey a)).onSlot 2 (fun _ => authorityKey b))

def execLcProvision (rq : Request) (enrolled : Bool) (s : State) : Out :=
  .next (command 0xE003 (lcProvisionBody enrolled) rq s)

end Sys2Proof.Machine
end

