-- ==== Sys2Proof/Machine/Folio.lean ====
section
/-! DEFINITION. Folios: staging, storing, the relay's arrival, activation and its pauses (R197, R198, R404 to R416). -/

namespace Sys2Proof.Machine

open Sys2Proof.Crypto

/-- The most bytes of a folio (R404). -/
def folioMax : Nat := 33554304

/-- A folio slot by its code: 0 A, 1 B, 2 golden (R416). -/
def State.folioSlot (n : Nat) (s : State) : FolioSlot := if n = 0 then s.life.a else if n = 1 then s.life.b else s.life.golden

def State.onFolio (n : Nat) (f : FolioSlot → FolioSlot) (s : State) : State :=
  s.onLife (fun l => if n = 0 then { l with a := f l.a } else if n = 1 then { l with b := f l.b } else { l with golden := f l.golden })

/-- The security epoch of a version (R404). -/
def epochOf (version : Nat) : Nat := version / 2 ^ 24

/-- The slot that a store writes: the one of A and B that does not run (R407, R408). -/
def State.storeTarget (s : State) : Nat := if s.life.running = 0 then 1 else 0

/-! Checking and storing (R406). -/

/-- Step 1 of R406: magic, format, reserved fields and length (R404). -/
def folioFormatOk (p : List Byte) (length : Nat) : Bool :=
  160 ≤ length && length ≤ folioMax && u32 p 0 = 0x9256F011 && u16 p 4 = 1 && u8 p 6 < 2 && u8 p 7 < 64
    && (u8 p 6 = 1 || u8 p 7 = 0) && u32 p 12 = length && u32 p 16 + 160 = length && zeroAt p 20 4 && zeroAt p 52 12

/-- Steps 1 to 4 of R406 over a staged folio: the failed step or 0, and the plaintext. -/
def State.checkFolio (p : List Byte) (length : Nat) (s : State) : Nat × List Byte × State :=
  if !folioFormatOk p length then (1, [], s)
  else
    let (st, s) := s.useSlot 0 2
    if st != 0 || !verify (s.keySlot 0).key (sha384 (p.take (length - 96))) (p.drop (length - 96)) then (2, [], s)
    else if epochOf (u32 p 8) < s.life.rollback then (3, [], s)
    else
      let (st, s) := s.useSlot 1 1
      if st != 0 then (4, [], s)
      else
        match gcmOpen (s.keySlot 1).key ((p.drop 24).take 12) (p.take 24) ((p.drop 64).take (length - 160)) ((p.drop 36).take 16) with
        | none => (4, [], s)
        | some plain => (0, plain, s)

/-- A store begins (R406): the checks, then WRITING and INTENT for the target slot, which takes the ciphertext under
K_store (R407, R413). Its end is FOLIO_STORE_DONE's. -/
def State.startStore (length : Nat) (h : Handle) (fromLink : Option Nat) (s : State) : State :=
  let p := Memory.readN s.life.staging 0 length
  let version := u32 p 8
  let slot := s.storeTarget
  let (reason, plain, s) := s.checkFolio p length
  let job : StoreJob := { length := length, slot := slot, reason := reason, version := version, handle := h, fromLink := fromLink }
  let s := s.onLife (fun l => { l with store := some job, receiving := none })
  if reason != 0 then s
  else
    let (iv, s) := State.freeBytes 12 s
    let sealed_ := gcmSeal storeKey iv [] plain
    (((s.journalSlot slot .writing version).journalIntent (slotRegion slot)).onFolio slot (fun _ =>
      { state := .writing, version := version, length := length, digest := sha384 (p.take (length - 96)),
        media := bit (u8 p 6) 0, affected := u8 p 7, iv := iv, tag := sealed_.2,
        content := Memory.writeN [] 0 sealed_.1 })).judgeHold

/-- The status of a failed step (R406). -/
def reasonResult (reason : Nat) : Nat :=
  if reason = 0 then stOk else if reason = 3 then stWrongState else if reason = 5 then stResource else stBadParam

/-- The relay begins (R198): offers to the joined child links, in ascending number; the active's standby has its own
(R414; log 115). -/
def State.startRelay (version : Nat) (s : State) : State :=
  let kids := (s.vox.links.filter (fun e => e.2.role = .child && s.childJoined e.1)).map (·.1)
  let r : Relay := { version := version, children := kids.length, active := [], queue := kids }
  let s := (s.onHier (fun h => { h with relay := r })).relayNext s.hier.relayFanout
  if s.twin.role = .active && s.twin.link < 64 && (s.link s.twin.link).state = .up then s.sendOffer s.twin.link else s

/-- The store ends (R406): step 5 as the flash answers, then step 6, or the rejection. -/
def folioStoreDone (flashOk : Bool) (s : State) : State :=
  match s.life.store with
  | none => s
  | some j =>
    if j.golden then s
    else
      let s := (s.onLife (fun l => { l with store := none })).judgeHold
      let reason := if j.reason != 0 then j.reason else if flashOk then 0 else 5
      let s := if j.reason = 0 then s.journalDone (slotRegion j.slot) else s
      let payload := bytes [reason, j.slot, 0, 0] ++ leBytes 4 j.version
      if reason != 0 then
        (((s.raise 13 2 j.version (bytes [reason])).fault 0x271 0xA1 j.version)).complete j.handle (reasonResult reason) payload
      else
        let s := (s.journalSlot j.slot .valid j.version).onFolio j.slot (fun f => { f with state := .valid })
        let s := s.onLife (fun l => { l with transport := j.length, stagingVersion := j.version })
        ((s.raise 13 1 j.version (bytes [j.slot])).complete j.handle stOk payload).startRelay j.version

def execFolioStoreDone (flashOk : Bool) (s : State) : Out := .next (folioStoreDone flashOk s)

/-- Bytes put into staging; the transport form held there is gone (R407). -/
def State.stage (offset : Nat) (data : List Byte) (s : State) : State :=
  s.onLife (fun l => { l with staging := Memory.writeN l.staging offset data, transport := 0, stagingVersion := 0 })

def folioLoadBody : Body := fun rq s =>
  let p := rq.payload
  let n := u16 p 4
  require (8 ≤ p.length && 1 ≤ n && n ≤ 4000 && p.length = 8 + n && zeroAt p 6 2 && u32 p 0 + n ≤ folioMax)
    (ok ((s.stage (u32 p 0) (p.drop 8)).onLife (fun l => { l with receiving := none }))) s

def execFolioLoad (rq : Request) (s : State) : Out := .next (command 0xE020 folioLoadBody rq s)

/-- Whether an activation of the slot that a store would write is armed (R407). -/
def State.targetArmed (s : State) : Bool := s.life.activation.any (fun a => a.slot = s.storeTarget)

def folioStoreBody : Body := fun rq s =>
  if rq.payload.length != 4 then fail stBadParam s
  else if s.life.store.isSome then fail stBusy s
  else if s.targetArmed then fail stWrongState s
  else accepted (s.startStore (u32 rq.payload 0) (handleOf 0xE021 rq) none)

def execFolioStore (rq : Request) (s : State) : Out := .next (command 0xE021 folioStoreBody rq s)

/-! The relay's arrival (R197). -/

/-- The link that a request arrives on, 255 for a local port. -/
def linkOf (rq : Request) : Nat := match rq.port with | .link n => n | _ => 255

/-- Whether a slot holds a folio (R197). -/
def FolioSlot.holds (f : FolioSlot) (version : Nat) (digest8 : List Byte) : Bool :=
  f.state = .valid && f.version = version && f.digest.take 8 = digest8

def folioOfferBody : Body := fun rq s =>
  let p := rq.payload
  let version := u32 p 0
  let d := (p.drop 8).take 8
  let reply (want resume : Nat) : List Byte := bytes [want, 0, 0, 0] ++ leBytes 4 resume
  let l := s.life
  if p.length != 16 then fail stBadParam s
  else if l.a.holds version d || l.b.holds version d then okWith (reply 0 0) s
  else if epochOf version < l.rollback then okWith (reply 3 0) s
  else if l.store.isSome || (match l.receiving with
      | some n => n != linkOf rq && (s.link n).state = .up
      | none => false) then okWith (reply 2 0) s
  else
    let resume := if l.receiving.isSome && l.receiveVersion = version && l.receiveLength = u32 p 4 then l.stagingLength else 0
    okWith (reply 1 resume) (s.onLife (fun l => { l with
      receiving := some (linkOf rq)
      receiveVersion := version
      receiveLength := u32 p 4
      stagingLength := resume
      staging := if resume = 0 then [] else l.staging
      transport := 0
      stagingVersion := 0 }))

def execFolioOffer (rq : Request) (s : State) : Out := .next (command 0x3040 folioOfferBody rq s)

/-- Whether a request belongs to the transfer that this device receives (R197). -/
def State.receives (rq : Request) (version : Nat) (s : State) : Bool :=
  s.life.receiving = some (linkOf rq) && s.life.receiveVersion = version

def folioSegmentBody : Body := fun rq s =>
  let p := rq.payload
  let n := u16 p 8
  let off := u32 p 4
  if p.length < 12 || n = 0 || n > 4000 || p.length != 12 + n || !zeroAt p 10 2 || off + n > folioMax then fail stBadParam s
  else if !s.receives rq (u32 p 0) || off > s.life.stagingLength then fail stWrongState s
  else if off + n > s.life.receiveLength then fail stBadParam s
  else ok ((s.stage off (p.drop 12)).onLife (fun l => { l with stagingLength := max l.stagingLength (off + n) }))

def execFolioSegment (rq : Request) (s : State) : Out := .next (command 0x3041 folioSegmentBody rq s)

def folioEndBody : Body := fun rq s =>
  if rq.payload.length != 4 then fail stBadParam s
  else if s.life.store.isSome then fail stBusy s
  else if !s.receives rq (u32 rq.payload 0) || s.life.stagingLength != s.life.receiveLength || s.targetArmed then fail stWrongState s
  else accepted (s.startStore s.life.receiveLength (handleOf 0x3042 rq) s.life.receiving)

def execFolioEnd (rq : Request) (s : State) : Out := .next (command 0x3042 folioEndBody rq s)

/-! Activation (R409 to R411). -/

/-- FOLIO_ACTIVATE, and LEGACY_ACTIVATE as its immediate form (R410, R426). -/
def activate (op slot : Nat) (immediate : Bool) (t : Nat) : Body := fun rq s =>
  let f := s.folioSlot slot
  let t := if immediate then cdiv (s.now + 1000000) 1000000 * 1000000 else t
  if f.state != .valid || f.version < s.folioVersion || epochOf f.version < s.life.rollback then fail stWrongState s
  else if s.life.activation.isSome || s.life.paused.isSome then fail stBusy s
  else if !immediate && t < s.now + 100000000 then fail stLate s
  else if !immediate && t > s.now + day then fail stBadParam s
  else if !immediate && s.lat.pending.any (fun p => match p.t with
      | some u => u < t + 50000000 && t < u + 50000000
      | none => false) then fail stBadParam s
  else accepted (s.onLife (fun l => { l with activation := some { slot := slot, t := t, handle := handleOf op rq } }))

def folioActivateBody : Body := fun rq s =>
  let p := rq.payload
  let now_ := bit (u8 p 1) 0
  require (p.length = 16 && u8 p 0 ≤ 1 && u8 p 1 < 2 && zeroAt p 2 2 && (now_ || nsOk p 12))
    (activate 0xE022 (u8 p 0) now_ (timeAt p 4 12) rq s) s

def execFolioActivate (rq : Request) (s : State) : Out := .next (command 0xE022 folioActivateBody rq s)

/-- The media units that the affected field names pause (R411; log 110): one repeat is owed by each output and sheet. -/
def State.pauseMedia (mask : Nat) (s : State) : State :=
  let hit (d : Nat) : Bool := (isSdi d && bit mask 0) || (isFlow d && bit mask 2) || (isTrunkDest d && bit mask 3)
  let s := s.onLat (fun l => { l with dests := l.dests.map (fun d x => if hit d && x.current.source != 0xFFFF then { x with skipDue := true } else x) })
  let s := if bit mask 5 then s.onImp (fun i => { i with sheets := i.sheets.map (fun _ h => if h.enabled then { h with repeatDue := true } else h) }) else s
  let (a, s) := s.freeInt
  let (c, s) := s.freeInt
  s.onLife (fun l => { l with
    mediaMask := mask
    silentUntil := s.now + unsigned 64 a % 1000001
    chordUntil := s.now + unsigned 64 c % 1000001 })

/-- At T (R409, R411): SELECT in TRIAL, the slot runs, HOLD goes out and the pauses begin. -/
def folioActivationDue (s : State) : State :=
  match s.life.activation with
  | none => s
  | some a =>
    let f := s.folioSlot a.slot
    let s := s.journalPut { kind := 4, region := slotRegion a.slot, state := 0, version := f.version }
    let s := s.onLife (fun l => { l with
      activation := none
      paused := some a
      previousSlot := l.running
      selectSlot := a.slot
      selectTrial := true
      running := a.slot
      trialSince := some a.t })
    let s := s.onFaults (fun q => { q with yielded := false })
    (s.holdLinks 2 40000).pauseMedia (if f.media then f.affected else 0)

def execFolioActivationDue (at_ : Nat) (s : State) : Out := .next (folioActivationDue (s.advance at_))

/-- The control pause ends (R411): HOLD 0, timed commands that fell due in it are late, FOLIO_ACTIVATED, the completion. -/
def State.endPause (s : State) : State :=
  match s.life.paused with
  | none => s
  | some a =>
    let s := (s.onLife (fun l => { l with paused := none })).releaseLinks.judgeHold
    let s := s.onPorts (fun p => { p with timed := p.timed.map (fun t => if t.due * 1000 ≤ s.now then { t with late := true } else t) })
    (s.raise 13 3 (s.folioSlot a.slot).version (bytes [a.slot] ++ timeBytes a.t)).complete a.handle stOk []

/-- 60 s after an activation (R409): CONFIRMED, and the anti-rollback counter advances to the epoch. -/
def trialConfirm (s : State) : State :=
  match s.life.trialSince with
  | none => s
  | some t =>
    if s.now < t + 60 * sec || s.faults.yielded || !s.life.selectTrial then s
    else
      let n := s.life.selectSlot
      let v := (s.folioSlot n).version
      let s := s.journalPut { kind := 4, region := slotRegion n, state := 1, version := v }
      let old := s.life.rollback
      let s := s.onLife (fun l => { l with selectTrial := false, trialSince := none, rollback := max l.rollback (epochOf v) })
      if old < epochOf v then s.raise 13 4 (epochOf v) (bytes [old]) else s

def execTrialConfirm (at_ : Nat) (s : State) : Out := .next (trialConfirm (s.advance at_))

def folioStatusBody : Body := fun rq s =>
  let l := s.life
  require rq.payload.isEmpty
    (okWith (bytes [l.running, l.rollback, flag l.activation.isSome, 0] ++ leBytes 4 l.a.version ++ leBytes 4 l.b.version
      ++ leBytes 4 l.golden.version ++ bytes [l.a.state.code, l.b.state.code, l.golden.state.code, flag (!l.selectTrial)]
      ++ leBytes 4 l.recovered.toNat) s) s

def execFolioStatus (rq : Request) (s : State) : Out := .next (command 0xE023 folioStatusBody rq s)

/-! The golden slot (R408). -/

/-- FOLIO_GOLDEN (R408): the running slot is copied to the golden slot under the journal (R413). -/
def folioGoldenBody : Body := fun rq s =>
  if !rq.payload.isEmpty then fail stBadParam s
  else if s.life.store.isSome then fail stBusy s
  else
    let run := s.life.running
    let f := s.folioSlot run
    let s := s.onLife (fun l => { l with store := some { golden := true, slot := 2, version := f.version, handle := handleOf 0xE024 rq } })
    if run > 1 then accepted s
    else
      accepted (((s.journalSlot 2 .writing f.version).journalIntent 4).onFolio 2 (fun _ => { f with state := .writing })).judgeHold

def execFolioGolden (rq : Request) (s : State) : Out := .next (command 0xE024 folioGoldenBody rq s)

/-- The copy ends (R408, R415). -/
def folioGoldenDone (flashOk : Bool) (s : State) : State :=
  match s.life.store with
  | none => s
  | some j =>
    if !j.golden then s
    else
      let s := (s.onLife (fun l => { l with store := none })).judgeHold
      if s.life.running > 1 then s.complete j.handle stOk []
      else
        let s := s.journalDone 4
        if flashOk then
          ((s.journalSlot 2 .valid j.version).onFolio 2 (fun f => { f with state := .valid })).complete j.handle stOk []
        else s.complete j.handle stResource []

def execFolioGoldenDone (flashOk : Bool) (s : State) : Out := .next (folioGoldenDone flashOk s)

end Sys2Proof.Machine
end

