-- ==== Sys2Proof/Machine/Startup.lean ====
section
/-! DEFINITION. Resets, straps, the phases of start-up and the compatibility commands (R417 to R426, R434). The phase RESTORE
and the end of PORTS, which execute commands, stand with the dispatcher. -/

namespace Sys2Proof.Machine

/-! Resets (R418, R424, R425). -/

/-- The fuses, the flash and the key slots that a reset keeps; slots with expiry 1 are gone (R402, R425). -/
def Life.afterReset (l : Life) : Life :=
  { lifecycle := l.lifecycle, serviceEntries := l.serviceEntries, nonceSeq := l.nonceSeq, helperBlown := l.helperBlown,
    k00Hash := l.k00Hash, k02Hash := l.k02Hash, slots := l.slots.filter (fun k => !k.2.volatile), rollback := l.rollback,
    a := l.a, b := l.b, golden := l.golden, selectSlot := l.selectSlot, selectTrial := l.selectTrial,
    previousSlot := l.previousSlot, journal := l.journal, journalBank := l.journalBank, journalSeq := l.journalSeq }

/-- A reset of a cause (R424, R425): HELD, with what every reset keeps. The time base is kept but by a power-on or brown-out
reset of KA, and so are HEARTBEAT (R50) and the sticky faults; where causes meet before a start, the lower code is reported. -/
def State.resetBy (cause : Nat) (s : State) : State :=
  let lost : Bool := cause ≤ 2
  { pending := s.pending
    tb := if lost then {} else s.tb
    ports := { hostOut := s.ports.hostOut, linkOut := s.ports.linkOut, ethOut := s.ports.ethOut, lastOut := s.ports.lastOut,
               freeCtr := s.ports.freeCtr, heartbeat := if lost then 0 else s.ports.heartbeat }
    lanes := { flash := s.lanes.flash, keep := s.lanes.keep }
    hier := { apexRole := s.hier.apexRole }
    twin := { position := s.twin.position, peerPin := s.twin.peerPin }
    faults := { sticky := if lost then [] else s.faults.sticky }
    power := { wakeNLow := s.power.wakeNLow, off := s.power.off }
    life := s.life.afterReset
    keep := { s.keep with context := false }
    boot := { cause := if s.boot.phase = 0 then min cause s.boot.cause else cause, pwrgood := s.boot.pwrgood,
              resetN := s.boot.resetN, bootSrc := s.boot.bootSrc, cluster := s.boot.cluster } }

/-- VDD_KA comes up (R417): KA's power-on reset. -/
def execPowerOn (s : State) : Out :=
  .next (((s.resetBy 1).onPower (fun p => { p with off := false })).onBoot (fun b => { b with cause := 1, pwrgood := false, resetN := false }))

/-- VDD_KA is removed (R434): the device is OFF. -/
def execPowerLoss (s : State) : Out :=
  .next (((s.resetBy 1).onPower (fun p => { p with off := true })).onBoot (fun b => { b with cause := 1, pwrgood := false, resetN := false }))

/-- PWRGOOD falls (R418). -/
def execPwrgoodFall (s : State) : Out :=
  .next (if s.power.off then s else (s.resetBy 3).onBoot (fun b => { b with pwrgood := false }))

/-- RESET_N held low for 1 us (R418). -/
def execResetNLow (s : State) : Out :=
  .next (if s.power.off then s else (s.resetBy 4).onBoot (fun b => { b with resetN := false }))

/-- A KA load above 30 mA in DORMANT (R378): the brown-out reset of KA, which is logged (R364, R424). -/
def execKaBrownout (s : State) : Out :=
  .next (if s.power.state = .dormant && !s.power.off then (s.resetBy 2).stick 0x260 0x90 0 else s)

/-- An armed reset falls due: LEGACY_RESET's, or the watchdog's (R424, R426; log 102). -/
def execLegacyResetDue (at_ : Nat) (s : State) : Out :=
  let s := s.advance at_
  .next (match s.boot.resetDue with
    | some t => if t ≤ s.now then s.resetBy s.boot.resetDueCause else s
    | none => s)

/-- Every key slot and folio slot erased, and the helper data blown (R394). -/
def State.retire (s : State) : State :=
  let erase (slot : Nat) (s : State) : State :=
    (((s.journalIntent (slotRegion slot)).journalDone (slotRegion slot)).journalSlot slot .empty 0).onFolio slot (fun _ => {})
  (each [0, 1, 2] erase s).onLife (fun l => { l with slots := [], helperBlown := true })

/-- The fuse burn of a life-cycle change completes, and the device resets (R394). -/
def execFuseBurnDone (s : State) : Out :=
  .next (match s.life.nextLifecycle with
    | none => s
    | some c =>
      let s := if c = .retired then s.retire else s
      (s.onLife (fun l => { l with
        lifecycle := c
        serviceEntries := l.serviceEntries + flag (c = .service)
        nextLifecycle := none })).resetBy 7)

/-! The phases (R419, R420). -/

/-- The straps are sampled, and start-up begins (R419). -/
def resetRelease (x : Straps) (s : State) : State :=
  if s.power.off || s.boot.phase != 0 then s
  else
    let s := s.onBoot (fun b => { b with phase := 1, pwrgood := true, resetN := true, bootSrc := x.bootSrc, cluster := x.clusterId % 8 })
    (s.onHier (fun h => { h with apexRole := x.role })).onTwin (fun t => { t with position := x.twinPos })

def execResetRelease (straps : Straps) (at_ : Nat) (s : State) : Out := .next (resetRelease straps (s.advance at_))

def State.toPhase (n : Nat) (s : State) : State := s.onBoot (fun b => { b with phase := n })

/-- A phase's end, taken only in that phase. -/
def State.inPhase (n : Nat) (f : State → State) (s : State) : State := if s.boot.phase = n then f s else s

/-- CLOCKS ends (R420): a failed XO starts the device on the fallback oscillator, with REF_STATE LOST. -/
def execPhaseClocks (xoGood : Bool) (at_ : Nat) (s : State) : Out :=
  .next ((s.advance at_).inPhase 1 (fun s => (if xoGood then s else clockWindow 0 0 s).toPhase 3))

/-- FUSES ends (R395, R420): the nonce of this start is drawn; BLANK and RETIRED stop at their limited codes. -/
def execPhaseFuses (at_ : Nat) (s : State) : Out :=
  .next ((s.advance at_).inPhase 3 (fun s =>
    (s.onLife (fun l => { l with nonceSeq := l.nonceSeq + 1 })).toPhase (match s.life.lifecycle with | .blank => 0xF0 | .retired => 0xF1 | _ => 4)))

/-- A key of K00 or K02 checked against its fused hash (R399). -/
def State.checkKey (n : Nat) (hash : List Byte) (s : State) : State :=
  if Crypto.sha384 (s.keySlot n).key = hash then s.onSlot n (fun k => { k with bad := false })
  else (s.onSlot n (fun k => { k with bad := true })).fault 0x270 0xA0 n

/-- ROOT ends (R397, R399, R420): the secret after 1 to 4 readings, or 0xF2 without one. -/
def phaseRoot (readings : Nat) (s : State) : State :=
  let s := s.onKeep (fun k => { k with bootCounter := (k.bootCounter + 1) % 2 ^ 32, volatileBoot := (k.bootCounter + 1) % 2 ^ 32 })
  let s := s.onMem (fun m => { m with bootGeneration := BitVec.ofNat 8 s.keep.bootCounter })
  if readings = 0 || readings > 4 || s.life.helperBlown then (s.fault 0x270 0xA0 64).toPhase 0xF2
  else
    let s := s.onLife (fun l => { l with secretOk := true })
    ((s.checkKey 0 s.life.k00Hash).checkKey 2 s.life.k02Hash).toPhase 5

def execPhaseRoot (readings at_ : Nat) (s : State) : Out := .next ((s.advance at_).inPhase 4 (phaseRoot readings))

/-- The INTENT record without a DONE, if one is open (R413). -/
def openIntent (l : List JournalRec) : Option JournalRec :=
  l.find? (fun r => r.kind = 1 && !l.any (fun d => d.kind = 2 && d.first = r.first && d.bytes = r.bytes && d.seq > r.seq))

/-- JOURNAL ends (R413): an open INTENT's erase is made again, and a slot left WRITING becomes EMPTY. -/
def phaseJournal (s : State) : State :=
  let s := match openIntent s.life.journal with
    | none => s
    | some r =>
      let sectors := r.bytes / 4096
      let s := s.journalPut { r with kind := 2 }
      let s := if r.region = 1 then s.onLanes (fun l => { l with flash := none })
        else if r.region ≥ 2 then s.onFolio (r.region - 2) (fun f => { f with content := [], iv := [], tag := [] }) else s
      (s.onLife (fun l => { l with recovered := l.recovered + BitVec.ofNat 32 sectors })).raise 13 6 r.region (leBytes 2 sectors)
  let s := each [0, 1, 2] (fun n s =>
    if (s.folioSlot n).state = .writing then (s.journalSlot n .empty 0).onFolio n (fun _ => {}) else s) s
  s.toPhase 6

def execPhaseJournal (at_ : Nat) (s : State) : Out := .next ((s.advance at_).inPhase 5 phaseJournal)

/-- The order in which slots are tried (R408, R409, R419; log 117). -/
def State.slotOrder (s : State) : List Nat :=
  let l := s.life
  let other (n : Nat) : Nat := if n = 0 then 1 else 0
  if s.boot.bootSrc then [2, 0, 1]
  else if l.selectSlot > 1 then [0, 1, 2]
  else if l.selectTrial then
    (if l.previousSlot ≤ 2 then [l.previousSlot] else []) ++ [other l.selectSlot, l.selectSlot, 2]
  else [l.selectSlot, other l.selectSlot, 2]

/-- A slot passed over, with its cause (R416). -/
def State.passOver (n cause : Nat) (s : State) : State :=
  s.onLife (fun l => { l with tried := l.tried ++ [n], fallbacks := l.fallbacks ++ [(n, cause)] })

/-- Slots that are not VALID are passed over unread (R408). -/
def State.skipInvalid : List Nat → State → State
  | [], s => s
  | n :: r, s =>
    if s.life.tried.contains n then State.skipInvalid r s
    else if (s.folioSlot n).state = .valid then s
    else State.skipInvalid r (s.passOver n 1)

/-- FOLIO ends (R408, R420): the next slot is read and its tag checked; a failing one is passed over, and the phase repeats.
With no slot left the stacks are still trained. -/
def phaseFolio (tagOk : Bool) (s : State) : State :=
  let trained := (List.range 4).all (fun n => (s.stack n).trained)
  let trial := s.life.selectTrial && !s.boot.bootSrc && s.life.selectSlot ≤ 1 && s.life.fallbacks.isEmpty && s.life.tried.isEmpty
  let s := if trial then s.onLife (fun l => { l with fallbacks := [(l.selectSlot, 3)] }) else s
  let s := s.skipInvalid s.slotOrder
  match s.slotOrder.find? (fun n => !s.life.tried.contains n) with
  | none => (s.onLife (fun l => { l with pendingLoad := 255 })).toPhase (if trained then 0xF3 else 7)
  | some n =>
    if tagOk then (s.onLife (fun l => { l with pendingLoad := n })).toPhase (if trained then 8 else 7)
    else s.passOver n 2

def execPhaseFolio (tagOk : Bool) (at_ : Nat) (s : State) : Out := .next ((s.advance at_).inPhase 6 (phaseFolio tagOk))

/-- DRAM ends (R420): the four stacks are trained, or the device stops at 0xF4. -/
def phaseDram (failed : Option Nat) (s : State) : State :=
  match failed with
  | some k => (s.fault (0x1C2 + k % 4) 0x58 (k % 4)).toPhase 0xF4
  | none =>
    (each (List.range 4) (fun n s => s.onStack n (fun k => { k with trained := true })) s).toPhase
      (if s.life.pendingLoad = 255 then 0xF3 else 8)

def execPhaseDram (failed : Option Nat) (at_ : Nat) (s : State) : Out := .next ((s.advance at_).inPhase 7 (phaseDram failed))

/-- LOAD ends (R420): the slot runs, or its tag fails and the start returns to FOLIO. -/
def phaseLoad (tagOk : Bool) (s : State) : State :=
  if tagOk then (s.onLife (fun l => { l with running := l.pendingLoad })).toPhase 9
  else (s.passOver s.life.pendingLoad 2).toPhase 6

def execPhaseLoad (tagOk : Bool) (at_ : Nat) (s : State) : Out := .next ((s.advance at_).inPhase 8 (phaseLoad tagOk))

/-- LANES ends (R108): the flash copy of the lane table, else the copy in keep memory, else none. -/
def phaseLanes (s : State) : State :=
  let good (t : Option LaneTable) : Bool := t.any (fun t => tableOk t.bytes)
  let l := s.lanes
  let s :=
    if good l.flash then s.onLanes (fun l => { l with inUse := l.flash, source := 0, staging := (l.flash.map (·.bytes)).getD [] })
    else if good l.keep then s.onLanes (fun l => { l with inUse := l.keep, source := 1, staging := (l.keep.map (·.bytes)).getD [] })
    else (s.onLanes (fun l => { l with inUse := none, source := 2, staging := [] })).fault 0 0x10 0
  s.toPhase 10

def execPhaseLanes (at_ : Nat) (s : State) : Out := .next ((s.advance at_).inPhase 9 phaseLanes)

/-- PORTS ends (R408, R420, R422): REMAP 1, the matrix in service mode, SOLO, driving while TWIN_PEER is low, links leave OFF,
and what start-up has to tell. -/
def phasePorts (s : State) : State :=
  let s := (s.onMem (fun m => { m with remap := true, matrixWhy := .none })).toPhase 0xFF
  let s := s.onTwin (fun t => { t with role := .solo, act := !t.peerPin })
  let s := each s.life.fallbacks (fun f s => s.raise 13 5 s.life.running (bytes [f.1, f.2])) s
  let stuck := s.faults.sticky
  let s := (each stuck State.classify (s.onFaults (fun f => { f with sticky := [] }))).takeHeld
  let s := each s.vox.links (fun e s => if e.2.role != .off && e.2.state = .off then s.linkStart e.1 else s) s
  s.trackGroups

def execPhasePorts (at_ : Nat) (s : State) : Out := .next ((s.advance at_).inPhase 11 phasePorts)

/-- A gathered copy of the profile is written, alternately to the two copies (R421). -/
def profileWrite (s : State) : State :=
  match s.boot.profileDue with
  | some d =>
    if d ≤ s.now && s.boot.phase = 0xFF then
      (s.onKeep (fun k => { k with profile := s.boot.inForce, profileValid := true, profileCopy := 1 - k.profileCopy })).onBoot
        (fun b => { b with profileDue := none, profileLast := some s.now })
    else s
  | none => s

def execProfileWrite (at_ : Nat) (s : State) : Out := .next (profileWrite (s.advance at_))

/-- Link training of a PCIe port completes (R423); in BLANK the port stays in Detect (R34). -/
def execPcieLinkUp (side : PcieSide) (s : State) : Out :=
  .next (if s.boot.phase = 0 || s.power.off || s.life.lifecycle = .blank then s
    else s.onPcie side (fun p => { p with linkUp := true, resetLow := false }))

/-! Compatibility commands (R426). -/

def legacyStatusBody : Body := fun rq s =>
  require rq.payload.isEmpty
    (okWith (leBytes 2 0x9256 ++ bytes [s.life.lifecycle.code, s.boot.phase, s.topSeverity, s.boot.cause, 0, 0]
      ++ leBytes 4 s.lat.standing.id ++ leBytes 4 s.ports.heartbeat.toNat) s) s

def execLegacyStatus (rq : Request) (s : State) : Out := .next (command 0xF001 legacyStatusBody rq s)

/-- LEGACY_ROUTE: ROUTE_SET with AUTO, FOLLOW, FREEZE, offset 0 and MIRROR clear (R426). -/
def legacyRouteBody : Body := fun rq s =>
  let p := rq.payload
  let d := u16 p 0
  let src := u16 p 2
  require (p.length = 4 && d ≤ 0xFF && (src ≤ 0xFF || src = 0xFFFF))
    (routeSet d { source := src, plane := 0, follow := true, black := false, offset := 0 } false s) s

def execLegacyRoute (rq : Request) (s : State) : Out := .next (command 0xF002 legacyRouteBody rq s)

/-- LEGACY_RESET: the reset follows 10 ms after the reply (R426). -/
def legacyResetBody : Body := fun rq s => require rq.payload.isEmpty (ok (s.armReset (s.now + 10000000) 6)) s

def execLegacyReset (rq : Request) (s : State) : Out := .next (command 0xF003 legacyResetBody rq s)

def legacyActivateBody : Body := fun rq s =>
  let p := rq.payload
  require (p.length = 4 && u8 p 0 ≤ 1 && zeroAt p 1 3) (activate 0xF004 (u8 p 0) true 0 rq s) s

def execLegacyActivate (rq : Request) (s : State) : Out := .next (command 0xF004 legacyActivateBody rq s)

end Sys2Proof.Machine
end

