-- ==== Sys2Proof/Machine/Voxad.lean ====
section
/-! DEFINITION. Voxad links (R145 to R169): receiver alignment, training, credits, HOLD and the link commands. Received VC
blocks stand in LinkRx. -/

namespace Sys2Proof.Machine

/-! Receivers (R156). -/

/-- A lane's receiver goes to a state with its counts cleared (R156). -/
def Lane.alignTo (a : RxAlign) (l : Lane) : Lane := { l with align := a, commas := 0, headers := 0, badHeaders := [] }

/-- A member lane that was LOCKED has left that state: an UP link goes to WAKE (R158, R165). -/
def State.memberLost (lane : Nat) (s : State) : State :=
  each (s.linksOn lane) (fun n s =>
    if (s.link n).state = .up then (s.linkLeave n .wake 2 none).linkWake n 2 else s) s

/-- The lanes' group is awake, so that a link may start (R158). -/
def State.lanesAwake (s : State) : Bool := s.group 0 != .dormant && s.power.state != .dormant

def signalDetected (lane : Nat) (s : State) : State :=
  let l := s.lane lane
  let s := s.onLane lane (fun l => { l with signal := true })
  let s := if l.role = .voxad && l.align = .los then s.onLane lane (Lane.alignTo .comma)
    else if l.role = .sdi then s.onLane lane (fun l => { l with rx := { l.rx with carrier := true } }) else s
  let s := each (s.linksOn lane) (fun n s => s.wakeFor n) s
  if bit s.power.octantMask (lane / 8) then s.wake 1 lane else s

def execSignalDetected (lane : Nat) (s : State) : Out := .next (if lane < 256 then signalDetected lane s else s)

def signalLost (lane : Nat) (s : State) : State :=
  let l := s.lane lane
  let s := s.onLane lane (fun l => { l with signal := false })
  if l.role = .voxad then
    let s := s.onLane lane (Lane.alignTo .los)
    if l.align = .locked then s.memberLost lane else s
  else if l.role = .sdi then s.onLane lane (fun l => { l with rx := { l.rx with carrier := false } })
  else s

def execSignalLost (lane : Nat) (s : State) : Out := .next (if lane < 256 then signalLost lane s else s)

/-- A K28.5 in COMMA: the second in a row at one alignment freezes it (R156). -/
def commaDetected (same : Bool) (l : Lane) : Lane :=
  if l.role != .voxad || l.align != .comma then l
  else if same && l.commas ≥ 1 then l.alignTo .hunt
  else { l with commas := 1 }

def execCommaDetected (lane : Nat) (samePosition : Bool) (s : State) : Out :=
  .next (if lane < 256 then s.onLane lane (commaDetected samePosition) else s)

/-- A defined block type (R148). -/
def blockType (t : Nat) : Bool := t ≤ 2 || (8 ≤ t && t ≤ 11)

/-- A valid header, given whether one came before (R155). -/
def headerValid (seen : HeaderSeen) (follows : Bool) (expected : Nat) : Bool :=
  let b := seen.typeSeq.toNat
  seen.start && seen.dataOk && blockType (b / 16) && (!follows || (seen.onTime && b % 16 = expected))

/-- The counters of the links on a lane changed. -/
def State.countLinks (lane : Nat) (f : LinkCtr → LinkCtr) (s : State) : State :=
  each (s.linksOn lane) (fun n s => s.onLink n (fun l => { l with counters := f l.counters })) s

/-- The skew of a link's members once all of them are LOCKED: the measured value is open (log 122). More than 256 characters are
beyond the deskew buffer: the cause is DESKEW (R157). -/
def State.measureSkew (n : Nat) (s : State) : State :=
  if !(s.link n).members.all (fun m => (s.lane m).align = .locked) then s
  else if (s.link n).width = 0 then s.onLink n (fun l => { l with skew := 0 })
  else
    let (v, s) := s.freeInt
    s.onLink n (fun l => { l with
      skew := v.toNat % 65536
      cause := if v.toNat % 65536 > 256 then 7 else if l.cause = 7 then 0 else l.cause })

/-- The character errors of a block, counted wherever they stand (R145). -/
def State.countCharErrors (lane code disparity : Nat) (s : State) : State :=
  let s := s.countLinks lane (fun c => { c with
    codeErrors := c.codeErrors + BitVec.ofNat 32 code, disparityErrors := c.disparityErrors + BitVec.ofNat 32 disparity })
  if (s.linksOn lane).contains s.twin.link && code + disparity != 0 then
    s.onTwin (fun t => { t with linkErrors := t.linkErrors + BitVec.ofNat 16 (code + disparity) })
  else s

/-- One header at a lane's receiver (R155, R156; log 121). -/
def blockHeader (lane : Nat) (seen : HeaderSeen) (s : State) : State :=
  let l := s.lane lane
  let expected := (l.sequence + 1) % 16
  let good := headerValid seen (l.align = .locked || l.headers != 0) expected
  let seq := if good then seen.typeSeq.toNat % 16 else expected
  let s := s.countCharErrors lane seen.codeErrors seen.disparityErrors
  if l.role != .voxad then s
  else if l.align = .hunt then
    if !good then s.onLane lane (fun l => { l with headers := 0 })
    else if l.headers ≥ 31 then
      each (s.linksOn lane) State.measureSkew (s.onLane lane (fun l => { l.alignTo .locked with sequence := seq }))
    else s.onLane lane (fun l => { l with headers := l.headers + 1, sequence := seq })
  else if l.align = .locked then
    let bad := ((!good) :: l.badHeaders).take 64
    if !good && (bad.filter (fun b => b)).length ≥ 8 then
      ((s.onLane lane (Lane.alignTo .comma)).countLinks lane (fun c => { c with lockLosses := c.lockLosses + 1 })).memberLost lane
    else
      let s := s.onLane lane (fun l => { l with badHeaders := bad, sequence := seq })
      if good then s else s.countLinks lane (fun c => { c with invalidHeaders := c.invalidHeaders + 1 })
  else s

def execBlockHeader (lane : Nat) (seen : HeaderSeen) (s : State) : Out :=
  .next (if lane < 256 then blockHeader lane seen s else s)

def execHuntTimeout (lane : Nat) (s : State) : Out :=
  .next (if lane < 256 && (s.lane lane).role = .voxad && (s.lane lane).align = .hunt then s.onLane lane (Lane.alignTo .comma) else s)

/-! Training (R153, R158 to R160). -/

/-- rx_locked: every member lane is LOCKED, and the link is deskewed (R153, R157; log 122). -/
def State.rxLocked (n : Nat) (s : State) : Bool :=
  (s.link n).members.all (fun m => (s.lane m).align = .locked) && (s.link n).skew ≤ 256

/-- The classes that this end offers (R153): bit k - 6. -/
def State.rateCaps (n : Nat) (s : State) : Nat :=
  ([6, 7, 8, 9].filter (fun k => k ≤ (s.link n).maxClass && s.membersValid n k)).foldl (fun a k => a + 2 ^ (k - 6)) 0

/-- The next class, if one is left (R159). -/
def State.nextClass (n : Nat) (s : State) : Option Nat :=
  let l := s.link n
  let caps := s.rateCaps n
  [7, 8, 9].find? (fun k => l.rateClass < k && bit caps (k - 6) && bit l.peer.rateCaps (k - 6)
    && !bit l.failMask (k - 6) && !bit l.peer.failMask (k - 6))

/-- The class below the current one to which a failed step returns (R158): the highest both ends offer and neither failed. -/
def State.previousClass (n : Nat) (s : State) : Nat :=
  let l := s.link n
  ([8, 7].find? (fun k => k < l.rateClass && bit (s.rateCaps n) (k - 6) && bit l.peer.rateCaps (k - 6)
    && !bit l.failMask (k - 6) && !bit l.peer.failMask (k - 6))).getD 6

/-- Link roles as R153 and R168 number them. -/
def LinkRole.number : LinkRole → Nat
  | .off => 0
  | .trunk => 1
  | .parent => 2
  | .child => 3
  | .twin => 4

/-- Life-cycle states that may join (R30, R160): FACTORY with FACTORY, FIELD or SERVICE with FIELD or SERVICE; on a twin
link the same state. -/
def lifecyclesMeet (twin : Bool) (a b : Nat) : Bool :=
  if twin then a = b && 1 ≤ a && a ≤ 3
  else (a = 1 && b = 1) || ((a = 2 || a = 3) && (b = 2 || b = 3))

/-- Why this end refuses the pairing, 0 where it does not (R160). -/
def State.refusal (n : Nat) (s : State) : Nat :=
  let l := s.link n
  let r := l.role.number
  let q := l.peer.role
  if !((r = 1 && q = 1) || (r = 2 && q = 3) || (r = 3 && q = 2) || (r = 4 && q = 4)) then 1
  else if !lifecyclesMeet (r = 4) s.life.lifecycle.code l.peer.lifecycle then 2
  else if r = 2 && s.hier.apexRole then 3
  else if l.width != l.peer.width then 4
  else 0

/-- The training data that this end sends on a member (R153). -/
def State.trainData (n m : Nat) (s : State) : List Byte :=
  let l := s.link n
  let both : Bool := s.rxLocked n && l.peer.rxLocked && l.refusing = 0 && !l.peer.refuse
  let last := (s.nextClass n).isNone
  bytes [1, m + 8 * l.width] ++ leBytes 2 s.node
    ++ bytes [l.role.number + 8 * s.twin.role.code + 32 * flag s.hier.apexRole, s.life.lifecycle.code,
              s.rateCaps n + 16 * l.failMask, l.rateClass,
              flag (s.rxLocked n) + 2 * flag (both && !last) + 4 * flag (both && last)
                + 8 * flag (l.refusing != 0) + 16 * l.refusing,
              s.boot.cluster]
    ++ leBytes 2 128 ++ leBytes 2 1024 ++ leBytes 2 16 ++ bytes [n, 0] ++ leBytes 8 Config.serial.toNat ++ zeros 30

/-- A TRAIN block sent on every member lane (R153, R157). -/
def State.sendTrain (n : Nat) (s : State) : State :=
  each (List.range (widthLanes (s.link n).width)) (fun m s =>
    let d := s.trainData n m
    s.emit n 5 (d ++ leBytes 4 (crc32c d))) s

/-- The fields of received training data (R153). -/
def parseTrain (p : List Byte) : Peer :=
  { node := u16 p 2, role := u8 p 4 % 8, twinRole := bits (u8 p 4) 4 3, apex := bit (u8 p 4) 5, lifecycle := u8 p 5 % 8,
    rateCaps := u8 p 6 % 16, failMask := u8 p 6 / 16, rateClass := u8 p 7, rxLocked := bit (u8 p 8) 0, refuse := bit (u8 p 8) 3,
    width := bits (u8 p 1) 4 3, cluster := u8 p 9 % 8, serial := u64 p 18, link := u8 p 16,
    credit1 := u16 p 10, credit2 := u16 p 12, credit3 := u16 p 14 }

/-- The transmitter stops to retune for a class (R158). -/
def State.linkStep (n k : Nat) (s : State) : State :=
  s.onLink n (fun l => { l with state := .step, stepTo := k, readyRun := 0, doneRun := 0, sentRun := 0 })

/-- A link whose training is done: UP, and what waits for it goes on (R158, R295, R343). -/
def State.linkUpNow (n : Nat) (s : State) : State := ((s.linkTrained n).resumePair n).routesChanged

/-- What the peer's fields make of a link in TRAIN (R158 to R160; log 50). `theirs` is the peer's
refuse_cause. -/
def trainStep (n theirs : Nat) (ready done : Bool) (s : State) : State :=
  let l := s.link n
  let why := if l.rateClass = 6 then s.refusal n else 0
  if why != 0 || l.peer.refuse then
    let s := (s.onLink n (fun l => { l with refusing := why, cause := 6, readyRun := 0, doneRun := 0, sentRun := 0 })).failHeld n
    if l.cause != 6 || (why != 0 && why != l.refusing) then
      s.raise 12 4 n (bytes [if why != 0 then why else theirs] ++ leBytes 2 l.peer.node)
    else s
  else
    let s := s.onLink n (fun l => { l with refusing := 0, cause := if l.cause = 6 then 0 else l.cause })
    if !s.rxLocked n || !l.peer.rxLocked then s.onLink n (fun l => { l with readyRun := 0, doneRun := 0, sentRun := 0 })
    else
      let s := s.onLink n (fun l => { l with
        readyRun := if ready then l.readyRun + 1 else 0, doneRun := if done then l.doneRun + 1 else 0, sentRun := l.sentRun + 1 })
      let l := s.link n
      match s.nextClass n with
      | some k => if l.sentRun ≥ 8 && l.readyRun ≥ 8 then s.linkStep n k else s
      | none => if l.sentRun ≥ 8 && l.doneRun ≥ 8 then s.linkUpNow n else s

/-- A TRAIN block: 56 bytes and their CRC-32C (R153). -/
def trainBlock (n m : Nat) (block : List Byte) (s : State) : State :=
  if (s.link n).state != .train || m ≥ widthLanes (s.link n).width || block.length != 60 || crc32c (block.take 56) != u32 block 56 then s
  else
    let s := s.onLink n (fun l => { l with peer := parseTrain block })
    let s := trainStep n (u8 block 8 / 16) (bit (u8 block 8) 1) (bit (u8 block 8) 2) s
    if (s.link n).state = .train then s.sendTrain n else s

def execTrainBlockReceived (link member : Nat) (block : List Byte) (s : State) : Out :=
  .next (if link < 64 then trainBlock link member block s else s)

def execWakeBurstEnd (link : Nat) (s : State) : Out :=
  .next (if (s.link link).state = .wake then
      (s.onLink link (fun l => { l with
        state := .train, rateClass := 6, failMask := 0, readyRun := 0, doneRun := 0, sentRun := 0 })).sendTrain link
    else s)

def execRetuneComplete (link : Nat) (s : State) : Out :=
  .next (if (s.link link).state = .step then
      ((s.onLink link (fun l => { l with
        state := .train, rateClass := l.stepTo, peer := { l.peer with rxLocked := false } })).restartMembers link
          (s.link link).stepTo).sendTrain link
    else s)

/-- rx_locked is both sent and received (R158). -/
def State.lockedBoth (n : Nat) (s : State) : Bool := s.rxLocked n && (s.link n).peer.rxLocked

/-- 2 ms without lock above class 6: the class is marked failed (R158). -/
def stepTimeout (n : Nat) (s : State) : State :=
  let l := s.link n
  if l.state != .train || l.rateClass ≤ 6 || s.lockedBoth n then s
  else
    let s := s.onLink n (fun l => { l with
      failMask := if bit l.failMask (l.rateClass - 6) then l.failMask else l.failMask + 2 ^ (l.rateClass - 6),
      counters := { l.counters with fallbacks := l.counters.fallbacks + 1 } })
    s.linkStep n (s.previousClass n)

def execStepTimeout (link : Nat) (s : State) : Out := .next (stepTimeout link s)

def execNoPeerTimeout (link : Nat) (s : State) : Out :=
  let l := s.link link
  .next (if l.state = .train && l.rateClass = 6 && !s.lockedBoth link then
      (s.onLink link (fun l => { l with state := .down, cause := 5 })).failHeld link
    else s)

def execLinkRetry (link : Nat) (s : State) : Out :=
  let l := s.link link
  .next (if l.state = .down && (l.cause = 5 || l.cause = 3) && s.lanesAwake then s.linkWake link l.cause else s)

def execLinkTrafficQueued (link : Nat) (s : State) : Out := .next (s.wakeFor link)

/-! CONTROL messages (R154, R161, R163). A message of a CONTROL block that is not intact, by its CRC-16 or a character error,
is discarded with the whole block (R154). -/

/-- CREDIT: the cumulative count of freed blocks, and what it lets go (R161). -/
def credit (n vc count : Nat) (s : State) : State :=
  if (s.link n).state != .up || vc < 1 || vc > 3 then s
  else ((s.countLink n).onLink n (fun l => l.onCredit vc (fun c => { c with freed := count % 65536 }))).drain n

def execCredit (origin : ControlOrigin) (vc count : Nat) (s : State) : Out :=
  .next (if origin.intact then credit origin.link vc count s else s)

/-- HOLD from the peer (R163). -/
def hold (n mask us : Nat) (s : State) : State :=
  let l := s.link n
  if l.state != .up then s
  else
    let t := s.now + us * 1000
    let until_ (on : Bool) (old : Nat) : Nat := if on then (if us = 0 then 0 else t) else old
    let ignored : Bool := bit mask 0 && !l.honourVc0
    let s := (s.countLink n).onLink n (fun l => { l with
      held1 := until_ (bit mask 1) l.held1, held2 := until_ (bit mask 2) l.held2,
      held0 := until_ (bit mask 0 && l.honourVc0) l.held0,
      counters := { l.counters with
        holdsReceived := l.counters.holdsReceived + 1
        holdsIgnored := if ignored then l.counters.holdsIgnored + 1 else l.counters.holdsIgnored } })
    s.drain n

def execHold (origin : ControlOrigin) (mask us : Nat) (s : State) : Out :=
  .next (if origin.intact then hold origin.link mask us s else s)

/-- LINK_DOWN from the peer (R158). -/
def linkDownReceived (n reason : Nat) (s : State) : State :=
  if (s.link n).state != .up || reason < 1 || reason > 3 then s
  else s.linkLeave n .down (if reason = 3 then 9 else 3) none

def execLinkDown (origin : ControlOrigin) (reason : Nat) (s : State) : Out :=
  .next (if origin.intact then linkDownReceived origin.link reason s else s)

def execUnknownControl (origin : ControlOrigin) (code : Nat) (s : State) : Out :=
  .next (if !origin.intact || code ≤ 3 || (s.link origin.link).state != .up then s
    else s.onLink origin.link (fun l => { l with counters := { l.counters with unknownControl := l.counters.unknownControl + 1 } }))

/-- CREDIT for one VC whose count has changed (R161). -/
def State.sendCredit (n vc : Nat) (s : State) : State :=
  let c := (s.link n).credit vc
  if c.returned = c.told then s
  else (s.sendControl n (bytes [1, vc] ++ leBytes 2 c.returned)).onLink n (fun l => l.onCredit vc (fun c => { c with told := c.returned }))

def execCreditSend (link : Nat) (s : State) : Out :=
  .next (if (s.link link).state = .up then ((s.sendCredit link 1).sendCredit link 2).sendCredit link 3 else s)

/-- The HOLD that this end keeps up, repeated with the remaining time (R163; log 54). -/
def holdRepeat (n : Nat) (s : State) : State :=
  let l := s.link n
  if l.state != .up || l.holding = 0 then s
  else
    let s := if l.holdUntil ≤ s.now then s.onLink n (fun l => { l with holdUntil := s.now + 65535000 }) else s
    s.sendControl n (bytes [2, l.holding] ++ leBytes 2 (((s.link n).holdUntil - s.now) / 1000))

def execHoldRepeat (link at_ : Nat) (s : State) : Out := .next (holdRepeat link (s.advance at_))

def execHoldExpiry (link at_ : Nat) (s : State) : Out := .next (((s.advance at_).countLink link).drain link)

/-! Commands (R168). -/

/-- Link roles of LINK_CONFIG (R168). -/
def linkRoleOf (code : Nat) : LinkRole :=
  if code = 1 then .trunk else if code = 2 then .parent else if code = 3 then .child else if code = 4 then .twin else .off

/-- A configured link starts, once PORTS opens the ports and its lanes are awake (R158, R420; log 123). -/
def State.startConfigured (n : Nat) (s : State) : State :=
  if s.boot.phase != 0xFF then s
  else if s.lanesAwake then s.linkStart n
  else (s.onLink n (fun l => { l with state := .down, cause := 10 })).setGroup 0 .run

/-- Child links other than one (R3: up to 32 for each node). -/
def State.childCount (n : Nat) (s : State) : Nat := s.vox.links.count (fun k l => k != n && l.role = .child)

def linkConfigBody : Body := fun rq s =>
  let p := rq.payload
  let n := u8 p 0
  let role := linkRoleOf (u8 p 4)
  let w := u8 p 1
  let first := u16 p 2
  let l := s.link n
  let fixed : Bool := l.state = .up && (l.role = .parent || l.role = .twin) && !bit (u8 p 6) 1
  if p.length != 8 || n > 63 || u8 p 4 > 4 || u8 p 1 ≥ 4 || u8 p 5 ≥ 16 || u8 p 6 ≥ 4 || u8 p 7 != 0 then fail stBadParam s
  else if role = .off then
    if fixed then fail stWrongState s
    else ok (if l.role = .off then s else s.linkOff n 1 1)
  else if first > 255 || first % widthLanes w != 0 || u8 p 5 < 6 || u8 p 5 > 9 then fail stBadParam s
  else if role = .child && s.childCount n ≥ 32 then fail stWrongState s
  else
    let lanes := (List.range (widthLanes w)).map (fun i => first + i)
    if lanes.any (fun m => (s.lane m).role != .voxad || (s.linksOn m).any (fun k => k != n)) then fail stWrongState s
    else
      let honour := bit (u8 p 6) 0
      let same : Bool := l.role = role && l.width = w && l.firstLane = first && l.maxClass = u8 p 5
      if same then ok (s.onLink n (fun l => { l with honourVc0 := honour }))
      else if fixed then fail stWrongState s
      else
        let s := if l.role = .off then s else s.linkOff n 1 1
        ok ((s.onLink n (fun l => { l with
          role := role, width := w, firstLane := first, maxClass := u8 p 5, honourVc0 := honour, cause := 0, peer := {},
          failMask := 0, idleTrunks := 0, skew := 0 })).startConfigured n)

def execLinkConfig (rq : Request) (s : State) : Out := .next (command 0x3001 linkConfigBody rq s)

/-- Link states as LINK_STATUS numbers them (R168). -/
def LinkState.number : LinkState → Nat
  | .off => 0
  | .down => 1
  | .wake => 2
  | .train => 3
  | .step => 4
  | .up => 5

/-- The LINK_STATUS reply (R168; log 124). -/
def State.linkStatus (n : Nat) (s : State) : List Byte :=
  let l := s.link n
  let up : Bool := l.state = .up
  let locked := ((List.range (widthLanes l.width)).filter (fun i =>
    l.role != .off && (s.lane (l.firstLane + i)).align = .locked)).foldl (fun a i => a + 2 ^ i) 0
  bytes [n, l.state.number, if up then l.rateClass else 0xFF, l.cause] ++ leBytes 2 l.peer.node
    ++ bytes [l.peer.role + 8 * l.peer.twinRole + 32 * flag l.peer.apex, locked]
    ++ leBytes 2 l.vc1.left ++ leBytes 2 l.vc2.left ++ leBytes 2 l.vc3.left
    ++ leBytes 2 (cdiv (max l.held1 l.held2 - s.now) 1000) ++ leBytes 4 l.retrains.toNat ++ leBytes 4 l.lastUpS
    ++ leBytes 2 l.skew ++ zeros 2 ++ leBytes 4 (if up then l.payload / 1000 else 0)

def linkStatusBody : Body := fun rq s =>
  let p := rq.payload
  require (p.length = 4 && u8 p 0 < 64 && zeroAt p 1 3) (okWith (s.linkStatus (u8 p 0)) s) s

def execLinkStatus (rq : Request) (s : State) : Out := .next (command 0x3002 linkStatusBody rq s)

/-- The LINK_COUNTERS reply (R168). -/
def State.linkCounters (n : Nat) (s : State) : List Byte :=
  let c := (s.link n).counters
  [c.codeErrors, c.disparityErrors, c.invalidHeaders, c.lockLosses, c.discarded, c.creditErrors, c.holdsReceived, c.holdsIgnored,
   c.unknownControl, c.fallbacks].flatMap (fun v => leBytes 4 v.toNat)

def linkCountersBody : Body := fun rq s =>
  let p := rq.payload
  require (p.length = 4 && u8 p 0 < 64 && zeroAt p 1 3) (okWith (s.linkCounters (u8 p 0)) s) s

def execLinkCounters (rq : Request) (s : State) : Out := .next (command 0x3003 linkCountersBody rq s)

def linkRetrainBody : Body := fun rq s =>
  let p := rq.payload
  let n := u8 p 0
  let l := s.link n
  if p.length != 4 || n > 63 || u8 p 1 > 1 || !zeroAt p 2 2 then fail stBadParam s
  else if l.role = .off || l.state = .off then fail stWrongState s
  else if l.state = .up && (l.role = .parent || l.role = .twin) && !bit (u8 p 1) 0 then fail stWrongState s
  else ok ((s.linkLeave n .wake 0 none).startConfigured n)

def execLinkRetrain (rq : Request) (s : State) : Out := .next (command 0x3004 linkRetrainBody rq s)

end Sys2Proof.Machine
end

