-- ==== Sys2Proof/Machine/Snapshots.lean ====
section
/-! DEFINITION. Counters snapshots (R192, R193, R363): the latch of the shadow bank and its copy in keep memory. -/

namespace Sys2Proof.Machine

/-- Records gathered in order, each read with the state threaded through. -/
def gather (f : Nat → State → List Byte × State) (l : List Nat) (s : State) : List Byte × State :=
  l.foldl (fun a n =>
    let (b, s) := f n a.2
    (a.1 ++ b, s)) ([], s)

/-- The PROC_STATUS record of a process; that of a process that does not exist is open (log 125). -/
def State.procSnap (id : Nat) (s : State) : List Byte × State :=
  match s.chord.processes.get? id with
  | some q => (procRecord id q, s)
  | none =>
    let (b, s) := s.freeBytes 30
    (leBytes 2 id ++ b, s)

/-- The records of one counter group (R363). -/
def State.snapGroup (g : Nat) (s : State) : List Byte × State :=
  match g with
  | 0 => (([0, 1, 2, 3] ++ (List.range 64).map (64 + ·)).flatMap (fun n => counterBytes (s.counters (portOf n))), s)
  | 1 => ((List.range 256).flatMap s.rxRecord, s)
  | 2 => ((List.range 64).flatMap s.macStatus ++ (List.range 1024).flatMap (fun n => s.flowStatus 0 n)
      ++ (List.range 1024).flatMap (fun n => s.flowStatus 1 n), s)
  | 3 => ((List.range 64).flatMap s.linkCounters, s)
  | 4 => ((List.range 2048).flatMap s.destRecord, s)
  | 5 => ((List.range 64).flatMap (fun n => s.aesStatus false n 0) ++ (List.range 64).flatMap (fun n => s.aesStatus true n 0), s)
  | 6 => gather State.procSnap (List.range 512) s
  | 7 =>
    let (d, s) := gather State.dmaStatus (List.range 64) s
    let (m, s) := gather State.memStatus (List.range 4) s
    (d ++ m ++ s.cacheStatus, s)
  | 8 => ((List.range 4096).flatMap s.counterRecord, s)
  | _ => (s.hierStatus, s)

/-- A shadow bank latched (R192, R363). -/
def State.latch (x : ArmedSnap) (s : State) : State :=
  let (groups, s) := (List.range 10).foldl (fun (a : List (List Byte) × State) g =>
    if bit x.set g then
      let (b, s) := a.2.snapGroup g
      (a.1 ++ [b], s)
    else (a.1 ++ [[]], a.2)) ([], s)
  s.onHier (fun h => { h with
    shadow := some { id := x.id, set := x.set, t := x.t, groups := groups }
    keepDue := h.keepDue || x.keep })

/-- An armed snapshot's T (R192). -/
def snapshotLatched (id : Nat) (s : State) : State :=
  match s.hier.snaps.find? (fun x => x.id = id && x.t ≤ s.now) with
  | none => s
  | some x => (((s.onHier (fun h => { h with snaps := h.snaps.erase x })).latch x).raise 14 0x20 x.id
      (leBytes 2 x.set ++ timeBytes x.t)).complete x.handle stOk []

def execSnapshotLatched (snapId at_ : Nat) (s : State) : Out := .next (snapshotLatched snapId (s.advance at_))

/-- The bank copied to keep memory (R192). -/
def execSnapshotKeepWrite (s : State) : Out :=
  .next (if s.hier.keepDue then
      (s.onKeep (fun k => { k with snapshot := s.hier.shadow })).onHier (fun h => { h with keepDue := false })
    else s)

end Sys2Proof.Machine
end

