-- ==== Sys2Proof/Machine/LinkRx.lean ====
section
/-! DEFINITION. What arrives on a Voxad link (R151, R161, R172 to R183): packets behind their transaction headers, responses, and
the blocks that carry them. -/

namespace Sys2Proof.Machine

/-! Responses (R180 to R183). -/

/-- A RESPONSE mapped back to the link its request came from; an OK answer to a JOIN installs the route on the way down
(R174, R180). -/
def State.mapBack (t : Transaction) (inLink : Nat) (pkt : List Byte) (s : State) : State :=
  let h := parseHeader pkt
  let joined : Bool := h.opcode = 0x3016 && h.status = stOk
  let s := if joined then s.installRoute (u16 (payloadOf pkt) 0) inLink else s
  let s := s.putPacket inLink t.vc t.inTxid 1 0 8 pkt
  if joined then s.relayNext s.hier.relayFanout else s

/-- A RESPONSE for a packet that this device sent (R183). -/
def State.takeAnswer (n : Nat) (t : Transaction) (pkt : List Byte) (s : State) : State :=
  let h := parseHeader pkt
  if t.handle.isNone && (parseHeader t.packet).opcode = 0xA012 then
    s.copyAnswered (payloadOf t.packet) h.status (payloadOf pkt)
  else if h.status = stLinkLost then s.ownLost n t pkt
  else s.ownAnswer n t pkt

/-- A RESPONSE transaction (R180): matched to its outstanding txid, or dropped and counted. -/
def linkResponse (n vc : Nat) (b : List Byte) (s : State) : State :=
  let x := parseTx b
  let pkt := b.drop 8
  if (s.link n).state != .up then s
  else if !txOk b || x.kind != 1 then s.hopDrop
  else if x.content = 1 then s.remoteDma n b
  else if !lengthOk pkt || !crcOk pkt then s
  else
    match s.findTxn n vc x.txid with
    | none => s.hopDrop
    | some t =>
      let s := s.closeTxn n t
      (match t.inLink with
       | some l => s.mapBack t l pkt
       | none => s.takeAnswer n t pkt).routesChanged

def execLinkResponse (link vc : Nat) (bytes : List Byte) (s : State) : Out :=
  .next (s.receiveBlocks link vc (blocksOf bytes.length) (linkResponse link vc bytes))

/-! POSTED packets (R179). -/

/-- A notice that arrives for this device's listeners (R54; log 126), its header as it came (DESIGN CHOICE, log 161). -/
def State.noticeArrived (pkt : List Byte) (s : State) : State :=
  let cat := u8 (payloadOf pkt) 0
  let e : EventEntry := { category := cat, packet := pkt }
  let s := s.onPorts (fun q => { q with eventCount := q.eventCount + 1 })
  let s := if cat != 1 && s.ports.cpa.ringMask.getLsbD cat then s.deliver .cpa e else s
  if cat != 1 && s.ports.cpb.ringMask.getLsbD cat then s.deliver .cpb e else s

/-- A completion event of a command that a local port sent into the hierarchy (R37, R43, R183), or of the folio relay. -/
def State.completionArrived (n : Nat) (pkt : List Byte) (s : State) : State :=
  let h := parseHeader pkt
  if h.opcode = 0x3042 then s.relayEnd n (h.status = stOk)
  else
    (s.onPorts (fun q => { q with eventCount := q.eventCount + 1 })).completionAt (portOf (h.tag / 16384))
      (packet h.opcode (h.tag % 16384) 3 h.status 0 h.originator h.etref (payloadOf pkt))

/-- A status of a mirrored command that the standby returns later (R339, R386, R414). -/
def State.mirrorArrived (n : Nat) (pkt : List Byte) (s : State) : State :=
  let h := parseHeader pkt
  if h.opcode = 0x3042 then s.relayEnd n (h.status = stOk)
  else if h.opcode = 0xD001 then s.forwardDone h.tag h.status (payloadOf pkt)
  else if s.twin.role = .active then s.mirrorStatus h.opcode h.tag h.status
  else s

/-- A POSTED packet for this device (R179). -/
def State.posted (n : Nat) (rq : Request) (pkt : List Byte) (s : State) : State :=
  let h := parseHeader pkt
  let twin : Bool := (s.link n).role = .twin
  if h.opcode = 0x3017 then (s.routeUpdated n rq.payload).routesChanged
  else if h.opcode = 0x302C then s.reportArrived (h.originator % 16384) rq.payload
  else if h.opcode = 0xA010 then digests rq s
  else if h.opcode = 0xA011 then health rq s
  else if h.opcode = 0xA012 then (if twin then (s.applyCopy rq.payload).2 else s)
  else if twin && bit h.flags 3 then s.mirrorArrived n pkt
  else if h.flags % 4 = 3 then s.completionArrived n pkt
  else if h.opcode = 0x000F then s.noticeArrived pkt
  else s

/-! REQUEST packets (R172, R177, R178). -/

/-- A REQUEST that arrives: admission at this hop (R40, R178), then its galley, the timed list or the next hop. -/
def State.requested (n vc : Nat) (x : TxHead) (pkt : List Byte) (s : State) : State :=
  let rq := { requestOf (.link n) pkt with vc := vc, txid := x.txid }
  let op := u16 pkt 0
  if !s.serving rq.port then s
  else
    let s := s.count rq.port (fun c => { c with received := c.received + 1 })
    if !lengthOk pkt then s.refuse op rq stBadLength []
    else if !crcOk pkt then s.refuse op rq stBadCrc []
    else if op = 0x3016 && s.joinRefused rq then s.refuse op rq stResource []
    else
      let rq := if op = 0x3016 then s.joinTier rq else rq
      match verdict op rq s with
      | .refuse st p => s.refuse op rq st p
      | .forward => s.forward n vc x.txid 0 x.path x.hops
          (packet op rq.tag rq.flags rq.status rq.target rq.originator rq.etref rq.payload)
      | .timed due => s.admitTimed op due rq
      | .run => (s.takeIn rq).enqueue op rq

/-- A VC1 or VC2 packet with its transaction header (R177, R179). -/
def linkPacket (n vc : Nat) (b : List Byte) (s : State) : State :=
  let x := parseTx b
  let pkt := b.drop 8
  let local_ : Bool := (s.link n).role = .trunk || (s.link n).role = .twin
  let rq := { requestOf (.link n) pkt with vc := vc, txid := x.txid }
  if (s.link n).state != .up then s
  else if !txOk b then s.hopDrop
  else if x.content = 1 then s.remoteDma n b
  else if x.kind = 1 then linkResponse n vc b s
  else if local_ && rq.target != 0 then s.hopDrop
  else if x.kind = 0 then s.requested n vc x pkt
  else if !lengthOk pkt || !crcOk pkt then s
  -- every device on the path upward takes the routes itself and announces them further (R175, R182)
  else if s.isForMe rq || (u16 pkt 0 = 0x3017 && (s.link n).role = .child) then s.posted n rq pkt
  else s.forward n vc 0 2 x.path x.hops pkt

def execLinkPacketReceived (link vc : Nat) (bytes : List Byte) (s : State) : Out :=
  .next (s.receiveBlocks link vc (blocksOf bytes.length) (linkPacket link vc bytes))

/-! VC blocks (R150, R151, R161). -/

/-- The trunk source that a stream of a link feeds (R85). -/
def State.trunkOf (n stream : Nat) (s : State) : Option Nat :=
  (s.lat.receives.find? (fun e => e.2.link = n && e.2.stream = stream)).map (·.1)

/-- The audio bundle that a stream of a link feeds (R222). -/
def State.bundleOf (n stream : Nat) (s : State) : Option Nat :=
  (s.audio.receives.find? (fun e => e.2.link = n && e.2.stream = stream)).map (·.1)

/-- A piece of a frame or packet put to what came before it (R151). A piece without a beginning spoils the rest. -/
def Partial.extend (old : Option Partial) (first bad : Bool) (data : List Byte) : Partial :=
  if first then { data := data, bad := bad }
  else
    match old with
    | some p => { data := p.data ++ data, bad := p.bad || bad }
    | none => { data := data, bad := true }

/-- A block of a trunk's frame: the first starts a stored frame, the bytes of each go to their place in its picture, and a
discarded block's bytes are missing (R63, R85, R151; log 149). -/
def State.trunkBlock (n stream i : Nat) (first last bad : Bool) (data : List Byte) (s : State) : State :=
  let src := 0x600 + i
  let s := s.onLat (fun l => { l with
    trunkPresent := if l.trunkPresent.contains i then l.trunkPresent else l.trunkPresent ++ [i],
    trunkSeen := l.trunkSeen.put i s.now })
  let s := if first && !bad then s.writeFrame src { start := s.now } else s
  let at_ := if first && !bad then 0 else (s.link n).trunkAt.at stream 0
  let s := s.onLink n (fun l => { l with trunkAt := l.trunkAt.put stream (at_ + 60) })
  let s := if bad then s else s.putRegion src at_ data
  if last && !bad then s.onLat (fun l => match l.stores.get? src with
    | some st => { l with stores := l.stores.put src { st with frames := st.frames.map (fun f => { f with done := true }) } }
    | none => l)
  else s

/-- A VC0 block: a trunk's, or a piece of a bundle's frame, whose last gives its samples; a stream without a mapping is
counted (R63, R85, R151, R222). -/
def vc0Block (n stream : Nat) (first last bad : Bool) (data : List Byte) (s : State) : State :=
  match s.trunkOf n stream with
  | some i => s.trunkBlock n stream i first last bad data
  | none =>
    match s.bundleOf n stream with
    | none => if first then s.onLat (fun l => { l with unmapped := l.unmapped.upd n 0 (fun c => (c + 1) % 2 ^ 32) }) else s
    | some b =>
      let p := Partial.extend ((s.link n).partial0.get? stream) first bad (if bad then [] else data)
      let s := s.onLink n (fun l => { l with partial0 := if last then l.partial0.del stream else l.partial0.put stream p })
      if last && !p.bad then s.bundleFrame b p.data else s

/-- A whole time message (R319); its arrival is the block's instant. -/
def vc3Message (n : Nat) (m : List Byte) (s : State) : State :=
  if u8 m 0 = 1 then timeSync n m s.now s
  else if u8 m 0 = 2 then delayReq n m s.now 0 s
  else if u8 m 0 = 3 then delayResp n m s
  else s.vc3Bad n

/-- A block of VC1 or VC2 (R151). -/
def packetBlock (n vc : Nat) (first last bad : Bool) (data : List Byte) (s : State) : State :=
  let l := s.link n
  let p := Partial.extend (if vc = 1 then l.partial1 else l.partial2) first bad (if bad then [] else data)
  let keep : Option Partial := if last then none else some p
  let s := s.onLink n (fun l => if vc = 1 then { l with partial1 := keep } else { l with partial2 := keep })
  if last && !p.bad then linkPacket n vc p.data s else s

/-- A VC block received (R145, R151, R161). -/
def vcBlock (n vc : Nat) (block : List Byte) (err : BlockError) (s : State) : State :=
  let count := u8 block 1 % 64
  let first := bit (u8 block 1) 6
  let last := bit (u8 block 1) 7
  let data := (block.drop 2).take count
  let bad : Bool := err != .none || count = 0 || count > 60
  let counted (k : LinkCtr) : LinkCtr :=
    { k with
      codeErrors := if err = .code || err = .control then k.codeErrors + 1 else k.codeErrors
      disparityErrors := if err = .disparity then k.disparityErrors + 1 else k.disparityErrors
      discarded := if bad then k.discarded + 1 else k.discarded }
  let errors : Bool := err = .code || err = .control || err = .disparity
  if (s.link n).state != .up || vc > 3 || block.length != 62 then s
  else if vc != 0 && s.creditRoom n vc = 0 then
    s.onLink n (fun l => { l with counters := { l.counters with creditErrors := l.counters.creditErrors + 1 } })
  else
    let s := s.onLink n (fun l => { l with counters := counted l.counters })
    let s := if errors && n = s.twin.link then s.onTwin (fun t => { t with linkErrors := t.linkErrors + 1 }) else s
    let s := if vc = 0 then s else s.gotBlocks n vc 1
    if vc = 0 then vc0Block n (u8 block 0) first last bad data s
    else if vc = 3 then (if bad || !first || !last then s else vc3Message n data s)
    else packetBlock n vc first last bad data s

def execVcBlockReceived (link vc : Nat) (block : List Byte) (err : BlockError) (at_ : Nat) (s : State) : Out :=
  .next (vcBlock link vc block err (s.advance at_))

end Sys2Proof.Machine
end

