-- ==== Sys2Proof/Machine/Interp.lean ====
section
/-! DEFINITION. The command interpreter (R39, R42): the meaning of each opcode, galleys in round robin, the timed list, the
heartbeat, and the places where the device executes commands by itself: the twins' configuration copy (R337), the start-up
profile (R421) and the end of a control pause (R411). -/

namespace Sys2Proof.Machine

/-! Opcodes without a row of their own, and those that reach the device only in a link packet. -/

/-- ECHO (R56). -/
def echoBody : Body := fun rq s => okWith rq.payload s

/-- ROUTE_UPDATE as a request (R175, R176). -/
def routeUpdateBody : Body := fun rq s =>
  match rq.port with
  | .link n => ok (s.routeUpdated n rq.payload)
  | _ => fail stBadOpcode s

/-- LOCKUP_REPORT as a request (R190). -/
def lockupReportBody : Body := fun rq s => ok (s.reportArrived (rq.originator % 16384) rq.payload)

def digestsBody : Body := fun rq s => ok (digests rq s)
def healthBody : Body := fun rq s => ok (health rq s)

/-- LC_PROVISION from a transport: whether the array enrols is open. -/
def provisionBody : Body := fun rq s =>
  let (v, s) := s.freeInt
  lcProvisionBody (v % 2 = 0) rq s

/-! The opcodes (R447). -/

/-- The commands of class 0x0. -/
def class0Bodies : List (Nat × Body) :=
  [(0x0001, echoBody),
   (0x0002, deviceInfoBody),
   (0x0003, statusReadBody),
   (0x0004, eventConfigBody),
   (0x0005, portCountersBody)]

/-- The commands of class 0x1. -/
def class1Bodies : List (Nat × Body) :=
  [(0x1001, formeOpenBody),
   (0x1002, formeEntriesBody),
   (0x1003, formeCloseBody),
   (0x1004, formeScheduleBody),
   (0x1005, formeCancelBody),
   (0x1006, routeSetBody),
   (0x1007, formeInfoBody),
   (0x1008, formeReadBody),
   (0x1009, destStatusBody),
   (0x100A, trunkSetBody),
   (0x100B, trunkInfoBody),
   (0x100C, keepConfigBody),
   (0x100D, keepInfoBody)]

/-- The commands of class 0x2. -/
def class2Bodies : List (Nat × Body) :=
  [(0x2001, laneRoleSetBody),
   (0x2002, sdiRxConfigBody),
   (0x2003, sdiTxConfigBody),
   (0x2004, octantFamilyBody),
   (0x2005, bondSetBody),
   (0x2006, ancFilterSetBody),
   (0x2007, laneTableWriteBody),
   (0x2008, laneTableCommitBody),
   (0x2009, laneTableInfoBody),
   (0x200A, laneInfoBody),
   (0x200B, sdiRxStatusBody)]

/-- The commands of class 0x3. -/
def class3Bodies : List (Nat × Body) :=
  [(0x3001, linkConfigBody),
   (0x3002, linkStatusBody),
   (0x3003, linkCountersBody),
   (0x3004, linkRetrainBody),
   (0x3010, nodeConfigBody),
   (0x3011, roleSetBody),
   (0x3012, hierConfigBody),
   (0x3013, hierStatusBody),
   (0x3014, routeReadBody),
   (0x3015, nodePlanWriteBody),
   (0x3016, joinBody),
   (0x3017, routeUpdateBody),
   (0x3020, sysFormeStageBody),
   (0x3021, sysFormePushBody),
   (0x3022, sysFormeRunBody),
   (0x3023, sysFormeAbortBody),
   (0x3024, sysFormeStatusBody),
   (0x3028, formePushBody),
   (0x3029, prepareBody),
   (0x302A, commitBody),
   (0x302B, abortBody),
   (0x302C, lockupReportBody),
   (0x3030, snapshotAtBody),
   (0x3031, sysSnapshotBody),
   (0x3038, migrateCutBody),
   (0x3040, folioOfferBody),
   (0x3041, folioSegmentBody),
   (0x3042, folioEndBody),
   (0x3043, relayStatusBody)]

/-- The commands of class 0x4. -/
def class4Bodies : List (Nat × Body) :=
  [(0x4001, macConfigBody),
   (0x4002, macFilterSetBody),
   (0x4003, macStatusBody),
   (0x4004, clsEntrySetBody),
   (0x4005, clsRebuildOpenBody),
   (0x4006, clsRebuildWriteBody),
   (0x4007, clsRebuildCommitBody),
   (0x4008, clsReadBody),
   (0x4009, rxFlowConfigBody),
   (0x400A, txFlowConfigBody),
   (0x400B, flowStatusBody),
   (0x400C, frameTxBody),
   (0x400D, frameRxReadBody),
   (0x400E, ptpPortSetBody)]

/-- The commands of class 0x5. -/
def class5Bodies : List (Nat × Body) :=
  [(0x5001, audioConfigBody),
   (0x5002, audioRouteSetBody),
   (0x5003, audioRouteReadBody),
   (0x5004, aesPortConfigBody),
   (0x5005, aesStatusBody),
   (0x5006, aesStartBody),
   (0x5007, aesPortRestartBody),
   (0x5008, audioFlowMapBody),
   (0x5009, audioTrunkSetBody),
   (0x500A, audioBufferSetBody),
   (0x500B, audioBufferStatusBody),
   (0x500C, silenceConfigBody),
   (0x500D, safeloadWriteBody),
   (0x500E, safeloadSwapBody),
   (0x500F, channelStatusBody)]

/-- The commands of class 0x6. -/
def class6Bodies : List (Nat × Body) :=
  [(0x6001, engineConfigBody),
   (0x6002, engineStatusBody),
   (0x6003, procCreateBody),
   (0x6004, procDeleteBody),
   (0x6005, progWriteBody),
   (0x6006, progCheckBody),
   (0x6007, procPlaceBody),
   (0x6008, procUnplaceBody),
   (0x6009, procStatusBody),
   (0x600A, delaySetBody),
   (0x600B, dmReadBody)]

/-- The commands of class 0x7. -/
def class7Bodies : List (Nat × Body) :=
  [(0x7001, sheetConfigBody),
   (0x7002, sheetOrderBody),
   (0x7003, pageSetBody),
   (0x7004, pageReadBody),
   (0x7005, impInputConfigBody),
   (0x7006, sheetStatusBody)]

/-- The commands of class 0x8. -/
def class8Bodies : List (Nat × Body) :=
  [(0x8001, plateAllocBody),
   (0x8002, plateFreeBody),
   (0x8003, plateMapBody),
   (0x8004, plateUnmapBody),
   (0x8005, plateReadBody),
   (0x8006, plateExportBody),
   (0x8007, frameStoreInfoBody),
   (0x8008, dmaSubmitBody),
   (0x8009, dmaControlBody),
   (0x800A, dmaStatusBody),
   (0x800B, memStatusBody),
   (0x800C, memConfigBody),
   (0x800D, cacheStatusBody),
   (0x800E, matrixStatusBody)]

/-- The commands of class 0x9. -/
def class9Bodies : List (Nat × Body) :=
  [(0x9001, timeReadBody),
   (0x9002, timeSetBody),
   (0x9003, refConfigBody),
   (0x9004, refGlobalBody),
   (0x9005, refStatusBody),
   (0x9006, ptpConfigBody),
   (0x9007, ptpStatusBody),
   (0x9008, freqTrimBody),
   (0x9009, captureConfigBody),
   (0x900A, captureReadBody),
   (0x900B, clkmonSetBody),
   (0x900C, clockStatusBody),
   (0x900D, tcConfigBody)]

/-- The commands of class 0xA. -/
def classABodies : List (Nat × Body) :=
  [(0xA001, twinConfigBody),
   (0xA002, twinPairBody),
   (0xA003, twinSwapBody),
   (0xA004, twinStatusBody),
   (0xA005, twinHealthBody),
   (0xA010, digestsBody),
   (0xA011, healthBody)]

/-- The commands of class 0xB. -/
def classBBodies : List (Nat × Body) :=
  [(0xB001, faultReadBody),
   (0xB002, faultSeveritySetBody),
   (0xB003, faultCountersBody),
   (0xB004, faultAckBody),
   (0xB005, safeClearBody),
   (0xB006, faultNControlBody),
   (0xB007, faultStatusBody),
   (0xB008, faultInjectBody),
   (0xB009, snapshotReadBody)]

/-- The commands of class 0xC. -/
def classCBodies : List (Nat × Body) :=
  [(0xC001, powerBudgetSetBody),
   (0xC002, powerStatusBody),
   (0xC003, wakeConfigBody),
   (0xC004, domainStatusBody),
   (0xC005, railStatusBody)]

/-- The commands of class 0xD. -/
def classDBodies : List (Nat × Body) :=
  [(0xD001, proofRunBody),
   (0xD002, proofCancelBody),
   (0xD003, proofResultsBody),
   (0xD004, proofLiveBody),
   (0xD005, proofStatusBody)]

/-- The commands of class 0xE. -/
def classEBodies : List (Nat × Body) :=
  [(0xE001, lcStatusBody),
   (0xE002, lcTransitionBody),
   (0xE003, provisionBody),
   (0xE010, keyInfoBody),
   (0xE011, keyLoadBody),
   (0xE012, keyImportBody),
   (0xE013, keyDeriveBody),
   (0xE014, keyUseBody),
   (0xE015, keyClearBody),
   (0xE020, folioLoadBody),
   (0xE021, folioStoreBody),
   (0xE022, folioActivateBody),
   (0xE023, folioStatusBody),
   (0xE024, folioGoldenBody)]

/-- The commands of class 0xF. -/
def classFBodies : List (Nat × Body) :=
  [(0xF001, legacyStatusBody),
   (0xF002, legacyRouteBody),
   (0xF003, legacyResetBody),
   (0xF004, legacyActivateBody)]

/-- Every opcode but STATE_COPY with its meaning. -/
def bodyTable : List (Nat × Body) :=
  class0Bodies ++ class1Bodies ++ class2Bodies ++ class3Bodies ++ class4Bodies ++ class5Bodies ++ class6Bodies ++ class7Bodies
    ++ class8Bodies ++ class9Bodies ++ classABodies ++ classBBodies ++ classCBodies ++ classDBodies ++ classEBodies ++ classFBodies

def settingBody (op : Nat) : Option Body := (bodyTable.find? (fun e => e.1 = op)).map (·.2)

/-- One setting of the configuration copy, executed as the command that made it (R337; log 91). -/
def applySetting (p : List Byte) (s : State) : State :=
  let op := u16 p 2
  match settingBody op with
  | none => s
  | some body =>
    let rq : Request := { port := .link 255, flags := 8, payload := p.drop 4 }
    let r := body rq s
    r.2.noteSetting op rq r.1.status

/-- STATE_COPY from the active twin (R337; log 90). -/
def stateCopyBody : Body := fun rq s =>
  if !onTwinLink rq s then fail stBadOpcode s
  else if u8 rq.payload 0 = 1 then
    if s.twin.role = .standby then ok (applySetting rq.payload s) else fail stWrongState s
  else s.applyCopy rq.payload

def execStateCopy (rq : Request) (s : State) : Out := .next (command 0xA012 stateCopyBody rq s)

/-- The meaning of an opcode (R447); none where no request has it (R449). -/
def bodyOf (op : Nat) : Option Body := if op = 0xA012 then some stateCopyBody else settingBody op

/-- A request for any opcode: an opcode that R447 does not list, or a device-only opcode that arrives elsewhere, is refused
(R449). -/
def execUndefinedOpcodeRequest (opcode : Nat) (rq : Request) (s : State) : Out :=
  .next (command opcode ((bodyOf opcode).getD (fun _ s => fail stBadOpcode s)) rq s)

/-! The timed list (R39). -/

/-- A timed command executed: a mirrored one answers its request, any other sends its completion event (R39, R339). -/
def State.runTimed (t : Timed) (s : State) : State :=
  let op := t.cmd.opcode
  let rq := t.cmd.request
  match bodyOf op with
  | none => s
  | some body =>
    let rq := { rq with late := t.late }
    if t.plainReply then runCommand op body rq s
    else
      let r := body rq s
      let r := if r.1.status ≤ 1 && s.touchesTest op rq.payload then ({ status := stBusy }, s) else r
      let s := r.2.noteSetting op rq r.1.status
      (if r.1.status = stAccepted then s
       else s.complete (handleOf op rq) r.1.status r.1.payload).trackGroups

/-- The commands of the timed list that are due, in their order (R39); none executes in a control pause (R411). -/
def State.runDue : Nat → State → State
  | 0, s => s
  | k + 1, s =>
    if s.life.paused.isSome then s
    else
      match s.ports.timed with
      | [] => s
      | t :: r =>
        if t.due * 1000 ≤ s.now then State.runDue k ((s.onPorts (fun p => { p with timed := r })).runTimed t) else s

def timedDue (s : State) : State := s.runDue s.ports.timed.length

def execTimedCommandDue (at_ : Nat) (s : State) : Out := .next (timedDue (s.advance at_))

/-- The end of a folio's control pause (R411). -/
def execControlPauseEnd (at_ : Nat) (s : State) : Out :=
  let s := s.advance at_
  .next (if s.life.paused.isSome then timedDue s.endPause else s)

/-! Galleys (R42). -/

/-- The port whose galley is served next: the first after the last served that holds a command (R42). -/
def State.nextPort (s : State) : Option Nat :=
  let busy := (s.ports.galleys.filter (fun g => !g.2.isEmpty)).map (·.1)
  match busy.find? (fun k => s.ports.lastServed < k) with
  | some k => some k
  | none => busy.head?

/-- The interpreter takes one command from the galleys (R42); with none to take, or in a control pause, one clock cycle
passes (log 2). -/
def idle (s : State) : State :=
  if s.power.off then s
  else
    match (if s.life.paused.isSome then none else s.nextPort) with
    | none => s.tick
    | some k =>
      match s.ports.galleys.at k [] with
      | [] => s.tick
      | q :: r =>
        let s := s.onPorts (fun p => { p with galleys := p.galleys.put k r, lastServed := k })
        match bodyOf q.opcode with
        | none => s
        | some body => runCommand q.opcode body q.request s

/-! The heartbeat (R51). -/

/-- After a take-over the parent and child links retrain within 1 ms (R346; log 18). -/
def retrainLinks (s : State) : State :=
  let s := each s.vox.links (fun e s =>
    if (e.2.role = .parent || e.2.role = .child) && e.2.state != .off && e.2.state != .down then
      (s.linkLeave e.1 .wake 0 none).linkWake e.1 0
    else s) s
  s.onTwin (fun t => { t with retrainDue := false })

/-- HEARTBEAT counts while KA has power, through DORMANT too (R50); from phase FUSES on and awake, the window's fields are
taken together (R51). -/
def heartbeat (s : State) : State :=
  if s.power.off then s
  else
    let s := s.onPorts (fun p => { p with heartbeat := p.heartbeat + 1 })
    if s.boot.phase < 3 || !s.portsAwake then s
    else
    let s := if s.twin.retrainDue then retrainLinks s else s
    s.onPorts (fun p => { p with shadow := s.windowNow })

def execHeartbeat (at_ : Nat) (s : State) : Out := .next (heartbeat (s.advance at_))

/-! The phase RESTORE (R89, R421). -/

/-- A kept setting executed again (R421; log 128). -/
def applyKept (e : Nat × List Byte) (s : State) : State :=
  match settingBody e.1 with
  | none => s
  | some body => (body { port := .link 255, payload := e.2 } s).2

/-- The start-up profile in force again (R421), with what start-up tells held back (log 128). -/
def restoreProfile (s : State) : State :=
  if s.keep.restore && s.keep.profileValid && s.inField then
    let ports := s.ports
    let s := each s.keep.profile applyKept s
    let s := { s with ports := ports }
    (s.onBoot (fun b => { b with inForce := s.keep.profile })).onTwin
      (fun t => { t with log := s.keep.profile.filter (fun e => copied e.1) })
  else s

def phaseRestore (s : State) : State := ((restoreFormes (restoreProfile s)).onBoot (fun b => { b with driversOff := false })).toPhase 11

def execPhaseRestore (at_ : Nat) (s : State) : Out := .next ((s.advance at_).inPhase 10 phaseRestore)

end Sys2Proof.Machine
end

