-- ==== Sys2Proof/Machine/Senders.lean ====
section
/-! DEFINITION. The ST 2110 senders (R135 to R139, R221): what a packet holds, when it is due, and its launch on the sender's
paths. The payload formats of ST 2110 are PRESUMED (log 153). -/

namespace Sys2Proof.Machine

/-! Time (R136, R137). -/

/-- Whether a sender works by frames: video and ancillary data. -/
def TxFlowCfg.framed (c : TxFlowCfg) : Bool := c.kind = 1 || c.kind = 4

/-- The samples of one packet time (R143, R221). -/
def packetSamples (ptime : Nat) (rate96 : Bool) : Nat := (if ptime = 0 then 6 else 48) * (if rate96 then 2 else 1)

def TxFlowCfg.packetTime (c : TxFlowCfg) : Nat := packetSamples c.ptime c.rate96

/-- The frame rate code of a sender: of its own format, or for ancillary data of its source's, and of the standing forme
where that is not known (R77, R135). -/
def State.senderRate (n : Nat) (s : State) : Nat :=
  let c := (s.txFlow n).cfg
  if c.kind = 4 then
    match s.sourceFormat (s.dest (0x100 + n)).current.source with
    | some (f, _) => f % 16
    | none => s.lat.standing.rate
  else c.param % 16

/-- TRO of a format where tro_ns is 0, as a fraction of the frame period (R136 names ST 2110-21; PRESUMED, log 153). -/
def troDefault (format : Nat) : Nat × Nat :=
  match format / 16 with
  | 1 => (20, 525)
  | 2 => (26, 625)
  | 3 => (28, 750)
  | 4 | 5 => (22, 1125)
  | _ => (43, 1125)

/-- RACTIVE of a format (R136; of the formats that R136 leaves out PRESUMED, log 153). -/
def activeShare (format : Nat) : Nat × Nat :=
  match format / 16 with
  | 1 => (487, 525)
  | 2 => (576, 625)
  | 3 => (720, 750)
  | _ => (1080, 1125)

/-- The packets of one line: 240 pgroups in each but the last (R136). -/
def linePackets (format : Nat) : Nat := cdiv ((rasterSize format).1 * 5 / 2) 1200

/-- NPACKETS of a format (R136). -/
def framePackets (format : Nat) : Nat := linePackets format * (rasterSize format).2

/-- The time on the wire of a packet of the largest payload in ns, at the rate of a MAC (R136). -/
def State.wireTime (c : TxFlowCfg) (s : State) : Nat :=
  cdiv ((1290 - (if bit c.a.vlan 15 then 0 else 4)) * 8) (if (s.mac c.a.mac).mode = .r100 then 100 else 25)

/-- The offset of packet `k` of a frame from the frame's start in ns (R136): type N paces, type W sends pairs back to back, and the
packets of ancillary data leave at TRO (log 154). -/
def State.packetOffset (c : TxFlowCfg) (rate k : Nat) (s : State) : Int :=
  let (n, d) := frameRate rate
  let (ta, tb) := troDefault c.param
  let tro : Int := if c.troNs != 0 then c.troNs else if c.kind = 1 then ((d * sec * ta / (n * tb) : Nat) : Int) else 0
  if c.kind != 1 then tro
  else
    let (ra, rb) := activeShare c.param
    let at_ (k : Nat) : Nat := k * d * sec * ra / (n * rb * max (framePackets c.param) 1)
    tro + (if c.typeW then at_ (k / 2 * 2) + k % 2 * s.wireTime c else at_ k : Nat)

/-- The start of frame or packet time `i` of a sender in ns (R136, R137). -/
def TxFlowCfg.startOf (c : TxFlowCfg) (rate i : Nat) : Nat :=
  if c.framed then (let (n, d) := frameRate rate; cdiv (i * d * sec) n)
  else cdiv (i * c.packetTime * sec) (if c.rate96 then 96000 else 48000)

/-- The frame or packet time that an instant belongs to, its packets' offset taken off. -/
def State.unitAt (c : TxFlowCfg) (rate : Nat) (s : State) : Nat :=
  if c.framed then
    let (n, d) := frameRate rate
    ((s.now : Int) - s.packetOffset c rate 0).toNat * n / (d * sec)
  else s.now * (if c.rate96 then 96000 else 48000) / sec / c.packetTime

/-- The RTP timestamp of a packet (R137, R221): the media clock at its frame's start, or the output index of its first sample, which
left one packet time before. -/
def TxFlowCfg.stamp (c : TxFlowCfg) (rate i : Nat) : Nat :=
  if c.framed then (let (n, d) := frameRate rate; i * d * 90000 / n % 2 ^ 32) else (i - 1) * c.packetTime % 2 ^ 32

/-! Contents (R135, R136, R221). -/

/-- The words of 10 bits of an ancillary packet: two parity bits over each byte, and the checksum (ST 291-1). -/
def ancWords (a : AncPacket) : List Nat :=
  let par (v : Nat) : Nat :=
    let p := (List.range 8).foldl (fun n i => n + flag (bit v i)) 0 % 2
    v % 256 + 256 * p + 512 * (1 - p)
  let w := par a.did :: par a.sdid :: par a.data.length :: a.data.map (fun b => par b.toNat)
  let sum := (w.foldl (fun t x => t + x % 512) 0) % 512
  w ++ [sum + 512 * (1 - sum / 256)]

/-- Fields of given widths one after another, the highest bit first, filled up to 32 bits. -/
def packFields (l : List (Nat × Nat)) : List Byte :=
  let n := l.foldl (fun t e => t + e.1) 0
  let v := l.foldl (fun t e => t * 2 ^ e.1 + e.2 % 2 ^ e.1) 0
  let m := cdiv n 32 * 32
  beBytes (m / 8) (v * 2 ^ (m - n))

/-- One ancillary packet of a ST 2110-40 payload, at no particular line (log 154). -/
def ancField (a : AncPacket) : List Byte :=
  packFields ([(1, 0), (11, 0x7FF), (12, 0xFFF), (1, 0), (7, 0)] ++ (ancWords a).map (fun w => (10, w)))

/-- A frame's ancillary packets cut into payloads of at most 1,200 bytes, one at least (log 154). -/
def ancGroups : List (List Byte) → List (List (List Byte))
  | [] => [[]]
  | a :: r =>
    match ancGroups r with
    | g :: t => if g.isEmpty || a.length + (g.map List.length).sum ≤ 1200 then (a :: g) :: t else [a] :: g :: t
    | [] => [[a]]

/-- The payloads of a frame's ancillary data (R135). -/
def ancPayloads (seq : Nat) (l : List AncPacket) : List (List Byte) :=
  (ancGroups (l.map ancField)).map (fun g =>
    let d := g.flatten
    beBytes 2 (seq / 65536) ++ beBytes 2 d.length ++ bytes [g.length, 0, 0, 0] ++ d)

/-- Packet `k` of a video frame (R136): its row header, and at most 240 pgroups of one line of its source's frame. -/
def State.videoPayload (c : TxFlowCfg) (src seq k : Nat) (s : State) : List Byte :=
  let (w, h) := rasterSize c.param
  let per := max (linePackets c.param) 1
  let line := k / per
  let part := k % per
  let fields := twoFields c.param
  let field := if fields then line / (h / 2) else 0
  let row := if fields then line % (h / 2) else line
  let pic := if fields then 2 * row + field else row
  let n := min 1200 (w * 5 / 2 - part * 1200)
  beBytes 2 n ++ beBytes 2 (row + 32768 * field) ++ beBytes 2 (part * 480)
    ++ mapPieces 5 pgroupOf n (s.readPicture src seq (pic * (w * 5 / 2) + part * 1200) n)

/-- A sample as a sender carries it: L16 rounded to the nearest value, ties towards +∞, and saturated (R221). -/
def sampleBytes (c : TxFlowCfg) (x : Int) : List Byte :=
  if c.l24 then beBytes 3 (unsigned 24 x) else beBytes 2 (unsigned 16 (clamp (-32768) 32767 (Int.fdiv (x + 128) 256)))

/-- A sample as a ST 2110-31 subframe: block and frame start, parity, the non-audio bit of its channel status, validity (log 154). -/
def am824 (index ch : Nat) (nonPcm valid : Bool) (x : Int) : List Byte :=
  let v := 32 * flag (index % 192 = 0) + 16 * flag (ch % 2 = 0) + 4 * flag (nonPcm && index % 192 = 1) + flag (!valid)
  let w := unsigned 24 x
  let p := ((List.range 24).foldl (fun n i => n + flag (bit w i)) (flag (bit v 0) + flag (bit v 2))) % 2
  bytes [v + 8 * p] ++ beBytes 3 w

/-- The samples of one channel of an audio sender with output indices from `o` (R135, R221), with non-PCM and valid marks: the pool
channel routed to it, or with an SDI source that source's embedded channel 24 samples after its arrival (R214). Any other
source gives silence (log 154). -/
def State.senderChannel (n ch o k : Nat) (s : State) : List Int × Bool × Bool :=
  let f := s.txFlow n
  let src := (s.dest (0x100 + n)).current.source
  if src = 0xFFFF then
    match f.poolBase with
    | none => (List.replicate k 0, false, false)
    | some b =>
      let d := 0x2100 + b + ch
      (s.destSamples d o k, (s.aSrc (s.aDest d).route.source).nonPcm, (s.aDest d).valid)
  else if isSdi src && ch < 32 then
    let x := s.aSrc (src * 32 + ch)
    if x.present then ((sliceAt x.last (x.lastIndex + 8) (o - 24) k).2, x.nonPcm, true) else (List.replicate k 0, false, false)
  else (List.replicate k 0, false, false)

/-- The payload of an audio packet whose first sample has output index `o` (R221). -/
def State.audioPayload (n o : Nat) (s : State) : List Byte :=
  let c := (s.txFlow n).cfg
  let k := c.packetTime
  let chans := (List.range c.param).map (fun ch => s.senderChannel n ch o k)
  (List.range k).flatMap (fun i => chans.zipIdx.flatMap (fun q =>
    let x := q.1.1.getD i 0
    if c.kind = 3 then am824 (o + i) q.2 q.1.2.1 q.1.2.2 x else sampleBytes c x))

/-- One packet of a sender on one path (R135 to R137); the marker bit and the IPv4 identification are free (log 34). -/
def txFrame (c : TxFlowCfg) (p : TxPath) (station : List Byte) (seq ts : Nat) (marker ident : Byte) (payload : List Byte) :
    List Byte :=
  udpFrame p station ident ([0x80#8, BitVec.ofNat 8 (c.payloadType + 128 * (marker.toNat % 2))] ++ beBytes 2 seq
    ++ beBytes 4 ts ++ beBytes 4 c.ssrc ++ (if c.kind = 1 then beBytes 2 (seq / 65536) else []) ++ payload)

/-! Launch. -/

/-- Whether this twin's senders drive a packet that launches at an instant: each side keeps its own side of the
hand-over instant, t_drop + 1 us (R345). -/
def State.drivesAt (t : Nat) (s : State) : Bool :=
  match s.twin.role with
  | .solo => s.twin.act || !s.twin.peerPin
  | .active => s.twin.tDrop = 0 || s.twin.tDrop + 1000 ≤ t
  | .standby => s.twin.tDrop != 0 && t < s.twin.tDrop + 1000 && s.twin.retrainDue

/-- The packets of a sender's frame or packet time (R136). -/
def State.packetsOf (n seq : Nat) (s : State) : Nat :=
  let c := (s.txFlow n).cfg
  if c.kind = 1 then framePackets c.param
  else if c.kind = 4 then (ancPayloads 0 (s.frameAnc (s.dest (0x100 + n)).current.source seq)).length
  else 1

/-- The packet that a sender sends next: its frame or packet time and its place in it. After more than a whole one without a
launch it goes on with the present one (log 154). -/
def State.nextPacket (n : Nat) (s : State) : Nat × Nat :=
  let f := s.txFlow n
  let u := s.unitAt f.cfg (s.senderRate n)
  match f.lastFrame with
  | none => (u, 0)
  | some l => if l + 1 < u then (u, 0) else if f.packet < s.packetsOf n f.picture then (l, f.packet) else (l + 1, 0)

/-- A copy of a packet leaves on a path, after an express frame that is on the line there (R138), or waits while its priority is
paused (R135, R139). -/
def State.sendCopyOn (n : Nat) (p : TxPath) (pathB : Bool) (due wait : Nat) (frame : List Byte) (s : State) : State :=
  s.sendOrHold p.mac
    { prio := if bit p.vlan 15 then bits p.vlan 14 12 else 0, due := due, wait := wait, frame := frame, flow := some (n, pathB) }

/-- Packet `k` of unit `u` of a sender leaves on its paths, and the sender counts on (R135 to R139). -/
def State.launchPacket (n u k due waitA waitB : Nat) (s : State) : State :=
  let x := s.dest (0x100 + n)
  let f := s.txFlow n
  let c := f.cfg
  let rate := s.senderRate n
  let pic := if k = 0 then x.shown else f.picture
  let payload := if c.kind = 1 then s.videoPayload c x.current.source pic k
    else if c.kind = 4 then (ancPayloads f.seq (s.frameAnc x.current.source pic)).getD k []
    else s.audioPayload n ((u - 1) * c.packetTime)
  let (m, s) := s.freeByte
  let (i, s) := s.freeByte
  let mk (p : TxPath) : List Byte := txFrame c p (s.mac p.mac).station f.seq (c.stamp rate u) m i payload
  let sent := s.drivesAt due && !s.faults.safe
  let s := if sent then s.sendCopyOn n c.a false due waitA (mk c.a) else s
  let s := if sent && c.pathB then s.sendCopyOn n c.b true due waitB (mk c.b) else s
  let s := s.digestOn (0x100 + n) 2 (c.stamp rate u) (!c.framed) payload
  s.onTx n (fun f => { f with running := true, lastFrame := some u, packet := k + 1, picture := pic, seq := (f.seq + 1) % 2 ^ 32 })

/-- A sender's launch instant (R135 to R138): the packet that is due leaves. A staged configuration applies at a new frame
(R143). `waitA` and `waitB` are how long an express frame already on the line of each path holds the packet back (R138). A sender
counts on without sending on a standby twin and in the safe state (R142, R356); in QUIET, and while its
destination is idle or has no frame yet, it sends nothing (R61, R142). -/
def packetLaunch (n waitA waitB : Nat) (s : State) : State :=
  let s := match (s.txFlow n).staged with
    | some c => if (s.nextPacket n).2 = 0 then s.applyTx n c else s
    | none => s
  let c := (s.txFlow n).cfg
  let (u, k) := s.nextPacket n
  let due := ((c.startOf (s.senderRate n) u : Int) + (if c.framed then s.packetOffset c (s.senderRate n) k else 0)).toNat
  if c.kind = 0 || !c.enable || s.txIdle n || s.group 1 != .run || s.power.state != .run || s.now < due
      || (c.framed && !(s.dest (0x100 + n)).reading) then s
  else s.launchPacket n u k due waitA waitB

def execPacketLaunch (flow waitA waitB at_ : Nat) (s : State) : Out := .next (packetLaunch flow waitA waitB (s.advance at_))

end Sys2Proof.Machine
end

