-- ==== Sys2Proof/Machine/Dispatch.lean ====
section
/-! DEFINITION. The command dispatch: one arm for each constructor of Instr, each one call of that command's meaning. -/

namespace Sys2Proof.Machine

/-- A command's effect on everything but the queue of commands. -/
def exec (i : Instr) (s : State) : Host.Outcome State Fault Refusal :=
  match i with
  | .cmdDoorbell side index => Sys2Proof.Machine.execCmdDoorbell side index s
  | .evtDoorbell side index => Sys2Proof.Machine.execEvtDoorbell side index s
  | .cmdRingEnSet side => Sys2Proof.Machine.execCmdRingEnSet side s
  | .cmdRingEnClear side => Sys2Proof.Machine.execCmdRingEnClear side s
  | .evtRingEnSet side => Sys2Proof.Machine.execEvtRingEnSet side s
  | .evtRingEnClear side => Sys2Proof.Machine.execEvtRingEnClear side s
  | .ringErrClear side => Sys2Proof.Machine.execRingErrClear side s
  | .registerWrite side offset data => Sys2Proof.Machine.execRegisterWrite side offset data s
  | .remapWrite remap => Sys2Proof.Machine.execRemapWrite remap s
  | .descriptorFetch side descriptor packet => Sys2Proof.Machine.execDescriptorFetch side descriptor packet s
  | .ringDmaFailure side transfer => Sys2Proof.Machine.execRingDmaFailure side transfer s
  | .replyWrite side => Sys2Proof.Machine.execReplyWrite side s
  | .pcieFunctionReset side linkLost => Sys2Proof.Machine.execPcieFunctionReset side linkLost s
  | .pcieL1Exit side => Sys2Proof.Machine.execPcieL1Exit side s
  | .windowRead address count => Sys2Proof.Machine.execWindowRead address count s
  | .packetWrite packet => Sys2Proof.Machine.execPacketWrite packet s
  | .replyRead => Sys2Proof.Machine.execReplyRead s
  | .portStatus => Sys2Proof.Machine.execPortStatus s
  | .cpmChipSelect => Sys2Proof.Machine.execCpmChipSelect s
  | .pktIn packet => Sys2Proof.Machine.execPktIn packet s
  | .pktOut => Sys2Proof.Machine.execPktOut s
  | .window => Sys2Proof.Machine.execWindow s
  | .bypass => Sys2Proof.Machine.execBypass s
  | .idcode => Sys2Proof.Machine.execIdcode s
  | .samplePreload bits => Sys2Proof.Machine.execSamplePreload bits s
  | .extest bits => Sys2Proof.Machine.execExtest bits s
  | .extestPulse bits => Sys2Proof.Machine.execExtestPulse bits s
  | .extestTrain bits => Sys2Proof.Machine.execExtestTrain bits s
  | .cptInstructionUpdate ir => Sys2Proof.Machine.execCptInstructionUpdate ir s
  | .undefinedOpcodeRequest opcode rq => Sys2Proof.Machine.execUndefinedOpcodeRequest opcode rq s
  | .timedCommandDue at_ => Sys2Proof.Machine.execTimedCommandDue at_ s
  | .heartbeat at_ => Sys2Proof.Machine.execHeartbeat at_ s
  | .deviceInfo rq => Sys2Proof.Machine.execDeviceInfo rq s
  | .statusRead rq => Sys2Proof.Machine.execStatusRead rq s
  | .eventConfig rq => Sys2Proof.Machine.execEventConfig rq s
  | .portCounters rq => Sys2Proof.Machine.execPortCounters rq s
  | .formeOpen rq => Sys2Proof.Machine.execFormeOpen rq s
  | .formeEntries rq => Sys2Proof.Machine.execFormeEntries rq s
  | .formeClose rq => Sys2Proof.Machine.execFormeClose rq s
  | .formeSchedule rq => Sys2Proof.Machine.execFormeSchedule rq s
  | .formeCancel rq => Sys2Proof.Machine.execFormeCancel rq s
  | .routeSet rq => Sys2Proof.Machine.execRouteSet rq s
  | .formeInfo rq => Sys2Proof.Machine.execFormeInfo rq s
  | .formeRead rq => Sys2Proof.Machine.execFormeRead rq s
  | .destStatus rq => Sys2Proof.Machine.execDestStatus rq s
  | .trunkSet rq => Sys2Proof.Machine.execTrunkSet rq s
  | .trunkInfo rq => Sys2Proof.Machine.execTrunkInfo rq s
  | .keepConfig rq => Sys2Proof.Machine.execKeepConfig rq s
  | .keepInfo rq => Sys2Proof.Machine.execKeepInfo rq s
  | .formeHorizon forme at_ => Sys2Proof.Machine.execFormeHorizon forme at_ s
  | .lockupArm forme at_ => Sys2Proof.Machine.execLockupArm forme at_ s
  | .switchInstant dest at_ => Sys2Proof.Machine.execSwitchInstant dest at_ s
  | .phaseMeasurement lane phase at_ => Sys2Proof.Machine.execPhaseMeasurement lane phase at_ s
  | .outputFrameStart dest at_ => Sys2Proof.Machine.execOutputFrameStart dest at_ s
  | .keepRecordWrite at_ => Sys2Proof.Machine.execKeepRecordWrite at_ s
  | .laneRoleSet rq => Sys2Proof.Machine.execLaneRoleSet rq s
  | .sdiRxConfig rq => Sys2Proof.Machine.execSdiRxConfig rq s
  | .sdiTxConfig rq => Sys2Proof.Machine.execSdiTxConfig rq s
  | .octantFamily rq => Sys2Proof.Machine.execOctantFamily rq s
  | .bondSet rq => Sys2Proof.Machine.execBondSet rq s
  | .ancFilterSet rq => Sys2Proof.Machine.execAncFilterSet rq s
  | .laneTableWrite rq => Sys2Proof.Machine.execLaneTableWrite rq s
  | .laneTableCommit rq => Sys2Proof.Machine.execLaneTableCommit rq s
  | .laneTableCommitDone => Sys2Proof.Machine.execLaneTableCommitDone s
  | .laneTableCommitTimeout => Sys2Proof.Machine.execLaneTableCommitTimeout s
  | .laneTableInfo rq => Sys2Proof.Machine.execLaneTableInfo rq s
  | .laneInfo rq => Sys2Proof.Machine.execLaneInfo rq s
  | .sdiRxStatus rq => Sys2Proof.Machine.execSdiRxStatus rq s
  | .rxLock lane rateClass family format carriage => Sys2Proof.Machine.execRxLock lane rateClass family format carriage s
  | .rxLoss lane cause => Sys2Proof.Machine.execRxLoss lane cause s
  | .formatChange lane format carriage => Sys2Proof.Machine.execFormatChange lane format carriage s
  | .payloadIdReceived lane valid payloadId format sampling422 carriage => Sys2Proof.Machine.execPayloadIdReceived lane valid payloadId format sampling422 carriage s
  | .bondSkew lane skew member => Sys2Proof.Machine.execBondSkew lane skew member s
  | .macConfig rq => Sys2Proof.Machine.execMacConfig rq s
  | .macFilterSet rq => Sys2Proof.Machine.execMacFilterSet rq s
  | .macStatus rq => Sys2Proof.Machine.execMacStatus rq s
  | .clsEntrySet rq => Sys2Proof.Machine.execClsEntrySet rq s
  | .clsRebuildOpen rq => Sys2Proof.Machine.execClsRebuildOpen rq s
  | .clsRebuildWrite rq => Sys2Proof.Machine.execClsRebuildWrite rq s
  | .clsRebuildCommit rq => Sys2Proof.Machine.execClsRebuildCommit rq s
  | .clsRead rq => Sys2Proof.Machine.execClsRead rq s
  | .rxFlowConfig rq => Sys2Proof.Machine.execRxFlowConfig rq s
  | .txFlowConfig rq => Sys2Proof.Machine.execTxFlowConfig rq s
  | .flowStatus rq => Sys2Proof.Machine.execFlowStatus rq s
  | .frameTx rq => Sys2Proof.Machine.execFrameTx rq s
  | .frameRxRead rq => Sys2Proof.Machine.execFrameRxRead rq s
  | .ptpPortSet rq => Sys2Proof.Machine.execPtpPortSet rq s
  | .ethFrameReceived mac frame at_ => Sys2Proof.Machine.execEthFrameReceived mac frame at_ s
  | .pauseExpiry mac priority at_ => Sys2Proof.Machine.execPauseExpiry mac priority at_ s
  | .flowLoss flow at_ => Sys2Proof.Machine.execFlowLoss flow at_ s
  | .entryAged set way at_ => Sys2Proof.Machine.execEntryAged set way at_ s
  | .packetLaunch flow waitA waitB at_ => Sys2Proof.Machine.execPacketLaunch flow waitA waitB at_ s
  | .frameLaunch mac due at_ => Sys2Proof.Machine.execFrameLaunch mac due at_ s
  | .preemptVerify mac passed => Sys2Proof.Machine.execPreemptVerify mac passed s
  | .linkUp mac => Sys2Proof.Machine.execLinkUp mac s
  | .ethLinkDown mac cause => Sys2Proof.Machine.execEthLinkDown mac cause s
  | .signalDetected lane => Sys2Proof.Machine.execSignalDetected lane s
  | .signalLost lane => Sys2Proof.Machine.execSignalLost lane s
  | .commaDetected lane samePosition => Sys2Proof.Machine.execCommaDetected lane samePosition s
  | .blockHeader lane seen => Sys2Proof.Machine.execBlockHeader lane seen s
  | .huntTimeout lane => Sys2Proof.Machine.execHuntTimeout lane s
  | .vcBlockReceived link vc block err at_ => Sys2Proof.Machine.execVcBlockReceived link vc block err at_ s
  | .trainBlockReceived link member block => Sys2Proof.Machine.execTrainBlockReceived link member block s
  | .credit origin vc count => Sys2Proof.Machine.execCredit origin vc count s
  | .hold origin mask us => Sys2Proof.Machine.execHold origin mask us s
  | .linkDown origin reason => Sys2Proof.Machine.execLinkDown origin reason s
  | .unknownControl origin code => Sys2Proof.Machine.execUnknownControl origin code s
  | .wakeBurstEnd link => Sys2Proof.Machine.execWakeBurstEnd link s
  | .retuneComplete link => Sys2Proof.Machine.execRetuneComplete link s
  | .stepTimeout link => Sys2Proof.Machine.execStepTimeout link s
  | .noPeerTimeout link => Sys2Proof.Machine.execNoPeerTimeout link s
  | .linkRetry link => Sys2Proof.Machine.execLinkRetry link s
  | .linkTrafficQueued link => Sys2Proof.Machine.execLinkTrafficQueued link s
  | .creditSend link => Sys2Proof.Machine.execCreditSend link s
  | .holdRepeat link at_ => Sys2Proof.Machine.execHoldRepeat link at_ s
  | .holdExpiry link at_ => Sys2Proof.Machine.execHoldExpiry link at_ s
  | .linkConfig rq => Sys2Proof.Machine.execLinkConfig rq s
  | .linkStatus rq => Sys2Proof.Machine.execLinkStatus rq s
  | .linkCounters rq => Sys2Proof.Machine.execLinkCounters rq s
  | .linkRetrain rq => Sys2Proof.Machine.execLinkRetrain rq s
  | .nodeConfig rq => Sys2Proof.Machine.execNodeConfig rq s
  | .roleSet rq => Sys2Proof.Machine.execRoleSet rq s
  | .hierConfig rq => Sys2Proof.Machine.execHierConfig rq s
  | .hierStatus rq => Sys2Proof.Machine.execHierStatus rq s
  | .routeRead rq => Sys2Proof.Machine.execRouteRead rq s
  | .nodePlanWrite rq => Sys2Proof.Machine.execNodePlanWrite rq s
  | .join rq => Sys2Proof.Machine.execJoin rq s
  | .joinRetry link at_ => Sys2Proof.Machine.execJoinRetry link at_ s
  | .routeUpdate rq => Sys2Proof.Machine.execRouteUpdate rq s
  | .linkPacketReceived link vc bytes => Sys2Proof.Machine.execLinkPacketReceived link vc bytes s
  | .linkResponse link vc bytes => Sys2Proof.Machine.execLinkResponse link vc bytes s
  | .transactionTimeout link vc txid at_ => Sys2Proof.Machine.execTransactionTimeout link vc txid at_ s
  | .routeWaitTimeout tag originator at_ => Sys2Proof.Machine.execRouteWaitTimeout tag originator at_ s
  | .sysFormeStage rq => Sys2Proof.Machine.execSysFormeStage rq s
  | .sysFormePush rq => Sys2Proof.Machine.execSysFormePush rq s
  | .sysFormePushDone sysId => Sys2Proof.Machine.execSysFormePushDone sysId s
  | .sysFormeRun rq => Sys2Proof.Machine.execSysFormeRun rq s
  | .prepareAnswer sysId node status errDest errReason => Sys2Proof.Machine.execPrepareAnswer sysId node status errDest errReason s
  | .sysDecisionTime sysId at_ => Sys2Proof.Machine.execSysDecisionTime sysId at_ s
  | .decisionExpiry forme at_ => Sys2Proof.Machine.execDecisionExpiry forme at_ s
  | .sysFormeAbort rq => Sys2Proof.Machine.execSysFormeAbort rq s
  | .sysFormeStatus rq => Sys2Proof.Machine.execSysFormeStatus rq s
  | .formePush rq => Sys2Proof.Machine.execFormePush rq s
  | .prepare rq => Sys2Proof.Machine.execPrepare rq s
  | .commit rq => Sys2Proof.Machine.execCommit rq s
  | .abort rq => Sys2Proof.Machine.execAbort rq s
  | .lockupReport rq => Sys2Proof.Machine.execLockupReport rq s
  | .sysRunTimeout sysId at_ => Sys2Proof.Machine.execSysRunTimeout sysId at_ s
  | .snapshotAt rq => Sys2Proof.Machine.execSnapshotAt rq s
  | .snapshotLatched snapId at_ => Sys2Proof.Machine.execSnapshotLatched snapId at_ s
  | .snapshotKeepWrite => Sys2Proof.Machine.execSnapshotKeepWrite s
  | .sysSnapshot rq => Sys2Proof.Machine.execSysSnapshot rq s
  | .migrateCut rq => Sys2Proof.Machine.execMigrateCut rq s
  | .epochCut process at_ => Sys2Proof.Machine.execEpochCut process at_ s
  | .folioOffer rq => Sys2Proof.Machine.execFolioOffer rq s
  | .folioSegment rq => Sys2Proof.Machine.execFolioSegment rq s
  | .folioEnd rq => Sys2Proof.Machine.execFolioEnd rq s
  | .relayStatus rq => Sys2Proof.Machine.execRelayStatus rq s
  | .audioConfig rq => Sys2Proof.Machine.execAudioConfig rq s
  | .audioRouteSet rq => Sys2Proof.Machine.execAudioRouteSet rq s
  | .audioRouteRead rq => Sys2Proof.Machine.execAudioRouteRead rq s
  | .aesPortConfig rq => Sys2Proof.Machine.execAesPortConfig rq s
  | .aesStatus rq => Sys2Proof.Machine.execAesStatus rq s
  | .aesStart rq => Sys2Proof.Machine.execAesStart rq s
  | .aesPortRestart rq => Sys2Proof.Machine.execAesPortRestart rq s
  | .portRestarted output port at_ => Sys2Proof.Machine.execPortRestarted output port at_ s
  | .audioFlowMap rq => Sys2Proof.Machine.execAudioFlowMap rq s
  | .audioTrunkSet rq => Sys2Proof.Machine.execAudioTrunkSet rq s
  | .audioBufferSet rq => Sys2Proof.Machine.execAudioBufferSet rq s
  | .audioBufferStatus rq => Sys2Proof.Machine.execAudioBufferStatus rq s
  | .silenceConfig rq => Sys2Proof.Machine.execSilenceConfig rq s
  | .safeloadWrite rq => Sys2Proof.Machine.execSafeloadWrite rq s
  | .safeloadSwap rq => Sys2Proof.Machine.execSafeloadSwap rq s
  | .safeloadDone set at_ => Sys2Proof.Machine.execSafeloadDone set at_ s
  | .channelStatus rq => Sys2Proof.Machine.execChannelStatus rq s
  | .audioTick domainB at_ arrivals => Sys2Proof.Machine.execAudioTick domainB at_ arrivals s
  | .gainApply dest previous sample at_ => Sys2Proof.Machine.execGainApply dest previous sample at_ s
  | .audioBlockMeasured channel peak at_ => Sys2Proof.Machine.execAudioBlockMeasured channel peak at_ s
  | .silence channel at_ => Sys2Proof.Machine.execSilence channel at_ s
  | .aesBlockReceived port sub status user => Sys2Proof.Machine.execAesBlockReceived port sub status user s
  | .portLock port rateMhz => Sys2Proof.Machine.execPortLock port rateMhz s
  | .portLoss port => Sys2Proof.Machine.execPortLoss port s
  | .portRate port rateMhz => Sys2Proof.Machine.execPortRate port rateMhz s
  | .pairSlip output port overflow at_ => Sys2Proof.Machine.execPairSlip output port overflow at_ s
  | .trigInEdge rising at_ => Sys2Proof.Machine.execTrigInEdge rising at_ s
  | .aesStartIndex at_ => Sys2Proof.Machine.execAesStartIndex at_ s
  | .engineConfig rq => Sys2Proof.Machine.execEngineConfig rq s
  | .engineStatus rq => Sys2Proof.Machine.execEngineStatus rq s
  | .procCreate rq => Sys2Proof.Machine.execProcCreate rq s
  | .procDelete rq => Sys2Proof.Machine.execProcDelete rq s
  | .progWrite rq => Sys2Proof.Machine.execProgWrite rq s
  | .progCheck rq => Sys2Proof.Machine.execProgCheck rq s
  | .procPlace rq => Sys2Proof.Machine.execProcPlace rq s
  | .placeStarted process epoch at_ => Sys2Proof.Machine.execPlaceStarted process epoch at_ s
  | .procUnplace rq => Sys2Proof.Machine.execProcUnplace rq s
  | .placeStopped process epoch at_ => Sys2Proof.Machine.execPlaceStopped process epoch at_ s
  | .procStatus rq => Sys2Proof.Machine.execProcStatus rq s
  | .delaySet rq => Sys2Proof.Machine.execDelaySet rq s
  | .dmRead rq => Sys2Proof.Machine.execDmRead rq s
  | .engineTick engine at_ => Sys2Proof.Machine.execEngineTick engine at_ s
  | .pmUncorrectable engine process at_ => Sys2Proof.Machine.execPmUncorrectable engine process at_ s
  | .sheetConfig rq => Sys2Proof.Machine.execSheetConfig rq s
  | .sheetOrder rq => Sys2Proof.Machine.execSheetOrder rq s
  | .pageSet rq => Sys2Proof.Machine.execPageSet rq s
  | .pageRead rq => Sys2Proof.Machine.execPageRead rq s
  | .impInputConfig rq => Sys2Proof.Machine.execImpInputConfig rq s
  | .sheetStatus rq => Sys2Proof.Machine.execSheetStatus rq s
  | .sheetFrameStart sheet at_ pixels poisoned => Sys2Proof.Machine.execSheetFrameStart sheet at_ pixels poisoned s
  | .plateAlloc rq => Sys2Proof.Machine.execPlateAlloc rq s
  | .plateFree rq => Sys2Proof.Machine.execPlateFree rq s
  | .plateZeroed plate => Sys2Proof.Machine.execPlateZeroed plate s
  | .plateMap rq => Sys2Proof.Machine.execPlateMap rq s
  | .plateUnmap rq => Sys2Proof.Machine.execPlateUnmap rq s
  | .plateRead rq => Sys2Proof.Machine.execPlateRead rq s
  | .plateExport rq => Sys2Proof.Machine.execPlateExport rq s
  | .frameStoreInfo rq => Sys2Proof.Machine.execFrameStoreInfo rq s
  | .dmaSubmit rq => Sys2Proof.Machine.execDmaSubmit rq s
  | .dmaJobDone channel => Sys2Proof.Machine.execDmaJobDone channel s
  | .dmaBurstDone channel seen => Sys2Proof.Machine.execDmaBurstDone channel seen s
  | .dmaControlResume rq => Sys2Proof.Machine.execDmaControlResume rq s
  | .dmaControlSkip rq => Sys2Proof.Machine.execDmaControlSkip rq s
  | .dmaControlAbort rq => Sys2Proof.Machine.execDmaControlAbort rq s
  | .dmaStatus rq => Sys2Proof.Machine.execDmaStatus rq s
  | .memStatus rq => Sys2Proof.Machine.execMemStatus rq s
  | .memConfig rq => Sys2Proof.Machine.execMemConfig rq s
  | .cacheStatus rq => Sys2Proof.Machine.execCacheStatus rq s
  | .matrixStatus rq => Sys2Proof.Machine.execMatrixStatus rq s
  | .walkDone va poisonedTable => Sys2Proof.Machine.execWalkDone va poisonedTable s
  | .scrubRead offset seen at_ => Sys2Proof.Machine.execScrubRead offset seen at_ s
  | .readReq link message => Sys2Proof.Machine.execReadReq link message s
  | .readData link message => Sys2Proof.Machine.execReadData link message s
  | .writeReq link message => Sys2Proof.Machine.execWriteReq link message s
  | .writeAck link message => Sys2Proof.Machine.execWriteAck link message s
  | .matrixTimeout master address => Sys2Proof.Machine.execMatrixTimeout master address s
  | .decodeError master address => Sys2Proof.Machine.execDecodeError master address s
  | .timeRead rq => Sys2Proof.Machine.execTimeRead rq s
  | .timeSet rq => Sys2Proof.Machine.execTimeSet rq s
  | .refConfig rq => Sys2Proof.Machine.execRefConfig rq s
  | .refGlobal rq => Sys2Proof.Machine.execRefGlobal rq s
  | .refStatus rq => Sys2Proof.Machine.execRefStatus rq s
  | .ptpConfig rq => Sys2Proof.Machine.execPtpConfig rq s
  | .ptpStatus rq => Sys2Proof.Machine.execPtpStatus rq s
  | .freqTrim rq => Sys2Proof.Machine.execFreqTrim rq s
  | .captureConfig rq => Sys2Proof.Machine.execCaptureConfig rq s
  | .captureRead rq => Sys2Proof.Machine.execCaptureRead rq s
  | .clkmonSet rq => Sys2Proof.Machine.execClkmonSet rq s
  | .clockStatus rq => Sys2Proof.Machine.execClockStatus rq s
  | .tcConfig rq => Sys2Proof.Machine.execTcConfig rq s
  | .servoUpdate at_ phaseNs freqErrorPptr => Sys2Proof.Machine.execServoUpdate at_ phaseNs freqErrorPptr s
  | .candidatePresent index at_ phasePeriodNs offsetNs freqPpb => Sys2Proof.Machine.execCandidatePresent index at_ phasePeriodNs offsetNs freqPpb s
  | .candidateAbsent index at_ => Sys2Proof.Machine.execCandidateAbsent index at_ s
  | .candidateQualified index at_ offsetNs freqPpb => Sys2Proof.Machine.execCandidateQualified index at_ offsetNs freqPpb s
  | .holdoverExpiry at_ => Sys2Proof.Machine.execHoldoverExpiry at_ s
  | .refSyncEdge index at_ frac assigned => Sys2Proof.Machine.execRefSyncEdge index at_ frac assigned s
  | .ptpMessage port msg at_ => Sys2Proof.Machine.execPtpMessage port msg at_ s
  | .timeSync link message arrivalNs => Sys2Proof.Machine.execTimeSync link message arrivalNs s
  | .delayReq link message arrivalNs arrivalFrac => Sys2Proof.Machine.execDelayReq link message arrivalNs arrivalFrac s
  | .delayResp link message => Sys2Proof.Machine.execDelayResp link message s
  | .timeSyncSend link at_ => Sys2Proof.Machine.execTimeSyncSend link at_ s
  | .delayReqSend link at_ => Sys2Proof.Machine.execDelayReqSend link at_ s
  | .ppsEdge at_ frac => Sys2Proof.Machine.execPpsEdge at_ frac s
  | .clockWindow clock count at_ => Sys2Proof.Machine.execClockWindow clock count at_ s
  | .twinConfig rq => Sys2Proof.Machine.execTwinConfig rq s
  | .twinPair rq => Sys2Proof.Machine.execTwinPair rq s
  | .autoPair at_ => Sys2Proof.Machine.execAutoPair at_ s
  | .stateCopy rq => Sys2Proof.Machine.execStateCopy rq s
  | .settled at_ => Sys2Proof.Machine.execSettled at_ s
  | .twinSwap rq => Sys2Proof.Machine.execTwinSwap rq s
  | .twinSwapDue at_ => Sys2Proof.Machine.execTwinSwapDue at_ s
  | .twinStatus rq => Sys2Proof.Machine.execTwinStatus rq s
  | .twinHealth rq => Sys2Proof.Machine.execTwinHealth rq s
  | .mirrorStatusReceived opcode tag status => Sys2Proof.Machine.execMirrorStatusReceived opcode tag status s
  | .digestsSend at_ => Sys2Proof.Machine.execDigestsSend at_ s
  | .digests rq => Sys2Proof.Machine.execDigests rq s
  | .digestMissed dest kind index at_ => Sys2Proof.Machine.execDigestMissed dest kind index at_ s
  | .healthSend at_ => Sys2Proof.Machine.execHealthSend at_ s
  | .health rq => Sys2Proof.Machine.execHealth rq s
  | .healthLate at_ => Sys2Proof.Machine.execHealthLate at_ s
  | .twinPeerChange level at_ => Sys2Proof.Machine.execTwinPeerChange level at_ s
  | .contention at_ => Sys2Proof.Machine.execContention at_ s
  | .faultMessage source kind detail at_ count => Sys2Proof.Machine.execFaultMessage source kind detail at_ count s
  | .faultLogEntry => Sys2Proof.Machine.execFaultLogEntry s
  | .selfParity register at_ => Sys2Proof.Machine.execSelfParity register at_ s
  | .faultNRelease at_ => Sys2Proof.Machine.execFaultNRelease at_ s
  | .faultRead rq => Sys2Proof.Machine.execFaultRead rq s
  | .faultSeveritySet rq => Sys2Proof.Machine.execFaultSeveritySet rq s
  | .faultCounters rq => Sys2Proof.Machine.execFaultCounters rq s
  | .faultAck rq => Sys2Proof.Machine.execFaultAck rq s
  | .safeClear rq => Sys2Proof.Machine.execSafeClear rq s
  | .faultNControl rq => Sys2Proof.Machine.execFaultNControl rq s
  | .faultStatus rq => Sys2Proof.Machine.execFaultStatus rq s
  | .faultInject rq => Sys2Proof.Machine.execFaultInject rq s
  | .snapshotRead rq => Sys2Proof.Machine.execSnapshotRead rq s
  | .watchdog pc at_ => Sys2Proof.Machine.execWatchdog pc at_ s
  | .powerBudgetSet rq => Sys2Proof.Machine.execPowerBudgetSet rq s
  | .powerStatus rq => Sys2Proof.Machine.execPowerStatus rq s
  | .wakeConfig rq => Sys2Proof.Machine.execWakeConfig rq s
  | .domainStatus rq => Sys2Proof.Machine.execDomainStatus rq s
  | .railStatus rq => Sys2Proof.Machine.execRailStatus rq s
  | .groupIdleExpiry group at_ => Sys2Proof.Machine.execGroupIdleExpiry group at_ s
  | .islandWakeRequest domain => Sys2Proof.Machine.execIslandWakeRequest domain s
  | .dormantEntryStep at_ => Sys2Proof.Machine.execDormantEntryStep at_ s
  | .wakeNLow at_ => Sys2Proof.Machine.execWakeNLow at_ s
  | .wakeStep at_ => Sys2Proof.Machine.execWakeStep at_ s
  | .rail index millivolts at_ => Sys2Proof.Machine.execRail index millivolts at_ s
  | .tempRead readings at_ => Sys2Proof.Machine.execTempRead readings at_ s
  | .kaBrownout => Sys2Proof.Machine.execKaBrownout s
  | .proofRun rq => Sys2Proof.Machine.execProofRun rq s
  | .proofCancel rq => Sys2Proof.Machine.execProofCancel rq s
  | .proofResults rq => Sys2Proof.Machine.execProofResults rq s
  | .proofLive rq => Sys2Proof.Machine.execProofLive rq s
  | .proofStatus rq => Sys2Proof.Machine.execProofStatus rq s
  | .proofStepStart at_ => Sys2Proof.Machine.execProofStepStart at_ s
  | .proofStepDone test unit seen at_ => Sys2Proof.Machine.execProofStepDone test unit seen at_ s
  | .proofStepAbort test unit at_ => Sys2Proof.Machine.execProofStepAbort test unit at_ s
  | .liveSlice test unit seen at_ => Sys2Proof.Machine.execLiveSlice test unit seen at_ s
  | .lcStatus rq => Sys2Proof.Machine.execLcStatus rq s
  | .lcTransition rq => Sys2Proof.Machine.execLcTransition rq s
  | .lcProvision rq enrolled => Sys2Proof.Machine.execLcProvision rq enrolled s
  | .fuseBurnDone => Sys2Proof.Machine.execFuseBurnDone s
  | .keyInfo rq => Sys2Proof.Machine.execKeyInfo rq s
  | .keyLoad rq => Sys2Proof.Machine.execKeyLoad rq s
  | .keyImport rq => Sys2Proof.Machine.execKeyImport rq s
  | .keyDerive rq => Sys2Proof.Machine.execKeyDerive rq s
  | .keyUse rq => Sys2Proof.Machine.execKeyUse rq s
  | .keyClear rq => Sys2Proof.Machine.execKeyClear rq s
  | .folioLoad rq => Sys2Proof.Machine.execFolioLoad rq s
  | .folioStore rq => Sys2Proof.Machine.execFolioStore rq s
  | .folioStoreDone flashOk => Sys2Proof.Machine.execFolioStoreDone flashOk s
  | .folioActivate rq => Sys2Proof.Machine.execFolioActivate rq s
  | .folioActivationDue at_ => Sys2Proof.Machine.execFolioActivationDue at_ s
  | .controlPauseEnd at_ => Sys2Proof.Machine.execControlPauseEnd at_ s
  | .trialConfirm at_ => Sys2Proof.Machine.execTrialConfirm at_ s
  | .folioStatus rq => Sys2Proof.Machine.execFolioStatus rq s
  | .folioGolden rq => Sys2Proof.Machine.execFolioGolden rq s
  | .powerOn => Sys2Proof.Machine.execPowerOn s
  | .pwrgoodFall => Sys2Proof.Machine.execPwrgoodFall s
  | .resetNLow => Sys2Proof.Machine.execResetNLow s
  | .resetRelease straps at_ => Sys2Proof.Machine.execResetRelease straps at_ s
  | .phaseClocks xoGood at_ => Sys2Proof.Machine.execPhaseClocks xoGood at_ s
  | .phaseFuses at_ => Sys2Proof.Machine.execPhaseFuses at_ s
  | .phaseRoot readings at_ => Sys2Proof.Machine.execPhaseRoot readings at_ s
  | .phaseJournal at_ => Sys2Proof.Machine.execPhaseJournal at_ s
  | .phaseFolio tagOk at_ => Sys2Proof.Machine.execPhaseFolio tagOk at_ s
  | .phaseDram failed at_ => Sys2Proof.Machine.execPhaseDram failed at_ s
  | .phaseLoad tagOk at_ => Sys2Proof.Machine.execPhaseLoad tagOk at_ s
  | .phaseLanes at_ => Sys2Proof.Machine.execPhaseLanes at_ s
  | .phaseRestore at_ => Sys2Proof.Machine.execPhaseRestore at_ s
  | .phasePorts at_ => Sys2Proof.Machine.execPhasePorts at_ s
  | .profileWrite at_ => Sys2Proof.Machine.execProfileWrite at_ s
  | .legacyStatus rq => Sys2Proof.Machine.execLegacyStatus rq s
  | .legacyRoute rq => Sys2Proof.Machine.execLegacyRoute rq s
  | .legacyReset rq => Sys2Proof.Machine.execLegacyReset rq s
  | .legacyResetDue at_ => Sys2Proof.Machine.execLegacyResetDue at_ s
  | .legacyActivate rq => Sys2Proof.Machine.execLegacyActivate rq s
  | .folioGoldenDone flashOk => Sys2Proof.Machine.execFolioGoldenDone flashOk s
  | .pcieLinkUp side => Sys2Proof.Machine.execPcieLinkUp side s
  | .matrixRecoveryRelease => Sys2Proof.Machine.execMatrixRecoveryRelease s
  | .powerLoss => Sys2Proof.Machine.execPowerLoss s

end Sys2Proof.Machine
end

