-- ==== Sys2Proof/WellFormed.lean ====
section
/-! DEFINITION. The ranges of a command's operands: the widths of the header fields that a request carries (R35, R37, R179), and the
numbers of the objects that a happening names (R3, R309, R352). A command outside them is no command of the device; what the
model does with one is said by its meaning all the same. -/

namespace Sys2Proof

/-- A port that exists: a command port, or one of the 64 Voxad links (R54). -/
def Port.wf : Port → Bool
  | .cpa | .cpb | .cpm | .cpt => true
  | .link n => n < 64

/-- The header fields of a request keep their widths, and its payload its greatest length (R35, R40, R45, R179). -/
def Request.wf (rq : Request) : Bool :=
  rq.port.wf && rq.tag < 2 ^ 16 && rq.flags < 256 && rq.status < 256 && rq.target < 2 ^ 16 && rq.originator < 2 ^ 16
    && rq.etref < 2 ^ 32 && rq.payload.length ≤ 4096 && rq.slot < 2 ^ 16 && rq.replyAddr < 2 ^ 64 && rq.replyBytes < 2 ^ 16
    && 1 ≤ rq.vc && rq.vc ≤ 2 && rq.txid < 1024 && !rq.late

/-- The operands of a command lie in their ranges. -/
def Instr.wf : Instr → Bool
  | .cmdDoorbell _ index => index < 2 ^ 16
  | .evtDoorbell _ index => index < 2 ^ 16
  | .cmdRingEnSet _ => true
  | .cmdRingEnClear _ => true
  | .evtRingEnSet _ => true
  | .evtRingEnClear _ => true
  | .ringErrClear _ => true
  | .registerWrite _ offset data => offset < 2 ^ 14 && data.length < 5000
  | .remapWrite _ => true
  | .descriptorFetch _ descriptor _ => descriptor.length = 32
  | .ringDmaFailure _ _ => true
  | .replyWrite _ => true
  | .pcieFunctionReset _ _ => true
  | .pcieL1Exit _ => true
  | .windowRead address count => address < 256 && count < 2 ^ 16 + 1
  | .packetWrite _ => true
  | .replyRead => true
  | .portStatus => true
  | .cpmChipSelect => true
  | .pktIn _ => true
  | .pktOut => true
  | .window => true
  | .bypass => true
  | .idcode => true
  | .samplePreload _ => true
  | .extest _ => true
  | .extestPulse _ => true
  | .extestTrain _ => true
  | .cptInstructionUpdate _ => true
  | .undefinedOpcodeRequest opcode rq => opcode < 2 ^ 16 && rq.wf
  | .timedCommandDue _ => true
  | .heartbeat _ => true
  | .deviceInfo rq => rq.wf
  | .statusRead rq => rq.wf
  | .eventConfig rq => rq.wf
  | .portCounters rq => rq.wf
  | .formeOpen rq => rq.wf
  | .formeEntries rq => rq.wf
  | .formeClose rq => rq.wf
  | .formeSchedule rq => rq.wf
  | .formeCancel rq => rq.wf
  | .routeSet rq => rq.wf
  | .formeInfo rq => rq.wf
  | .formeRead rq => rq.wf
  | .destStatus rq => rq.wf
  | .trunkSet rq => rq.wf
  | .trunkInfo rq => rq.wf
  | .keepConfig rq => rq.wf
  | .keepInfo rq => rq.wf
  | .formeHorizon forme _ => forme < 2 ^ 32
  | .lockupArm forme _ => forme < 2 ^ 32
  | .switchInstant dest _ => dest < 2048
  | .phaseMeasurement lane _ _ => lane < 256
  | .outputFrameStart dest _ => dest < 2048
  | .keepRecordWrite _ => true
  | .laneRoleSet rq => rq.wf
  | .sdiRxConfig rq => rq.wf
  | .sdiTxConfig rq => rq.wf
  | .octantFamily rq => rq.wf
  | .bondSet rq => rq.wf
  | .ancFilterSet rq => rq.wf
  | .laneTableWrite rq => rq.wf
  | .laneTableCommit rq => rq.wf
  | .laneTableCommitDone => true
  | .laneTableCommitTimeout => true
  | .laneTableInfo rq => rq.wf
  | .laneInfo rq => rq.wf
  | .sdiRxStatus rq => rq.wf
  | .rxLock lane rateClass _ format carriage => lane < 256 && rateClass < 5 && format < 256 && carriage < 256
  | .rxLoss lane cause => lane < 256 && cause < 4 && 0 < cause
  | .formatChange lane format carriage => lane < 256 && format < 256 && carriage < 256
  | .payloadIdReceived lane _ payloadId format _ carriage => lane < 256 && payloadId < 2 ^ 32 && format < 256 && carriage < 256
  | .bondSkew lane skew _ => lane < 256 && skew < 2 ^ 16
  | .macConfig rq => rq.wf
  | .macFilterSet rq => rq.wf
  | .macStatus rq => rq.wf
  | .clsEntrySet rq => rq.wf
  | .clsRebuildOpen rq => rq.wf
  | .clsRebuildWrite rq => rq.wf
  | .clsRebuildCommit rq => rq.wf
  | .clsRead rq => rq.wf
  | .rxFlowConfig rq => rq.wf
  | .txFlowConfig rq => rq.wf
  | .flowStatus rq => rq.wf
  | .frameTx rq => rq.wf
  | .frameRxRead rq => rq.wf
  | .ptpPortSet rq => rq.wf
  | .ethFrameReceived mac frame _ => mac < 64 && frame.length ≤ 9618
  | .pauseExpiry mac priority _ => mac < 64 && priority < 8
  | .flowLoss flow _ => flow < 1024
  | .entryAged set way _ => set < 2 ^ 16 && way < 2 ^ 16
  | .packetLaunch flow _ _ _ => flow < 1024
  | .frameLaunch mac _ _ => mac < 64
  | .preemptVerify mac _ => mac < 64
  | .linkUp mac => mac < 64
  | .ethLinkDown mac cause => mac < 64 && cause < 256
  | .signalDetected lane => lane < 256
  | .signalLost lane => lane < 256
  | .commaDetected lane _ => lane < 256
  | .blockHeader lane _ => lane < 256
  | .huntTimeout lane => lane < 256
  | .vcBlockReceived link vc block _ _ => link < 64 && vc ≤ 3 && block.length ≤ 62
  | .trainBlockReceived link member block => link < 64 && member < 8 && block.length ≤ 62
  | .credit o vc count => o.link < 64 && 1 ≤ vc && vc ≤ 3 && count < 2 ^ 16
  | .hold o mask us => o.link < 64 && mask < 256 && us < 2 ^ 16
  | .linkDown o reason => o.link < 64 && reason < 256
  | .unknownControl o code => o.link < 64 && code < 256
  | .wakeBurstEnd link => link < 64
  | .retuneComplete link => link < 64
  | .stepTimeout link => link < 64
  | .noPeerTimeout link => link < 64
  | .linkRetry link => link < 64
  | .linkTrafficQueued link => link < 64
  | .creditSend link => link < 64
  | .holdRepeat link _ => link < 64
  | .holdExpiry link _ => link < 64
  | .linkConfig rq => rq.wf
  | .linkStatus rq => rq.wf
  | .linkCounters rq => rq.wf
  | .linkRetrain rq => rq.wf
  | .nodeConfig rq => rq.wf
  | .roleSet rq => rq.wf
  | .hierConfig rq => rq.wf
  | .hierStatus rq => rq.wf
  | .routeRead rq => rq.wf
  | .nodePlanWrite rq => rq.wf
  | .join rq => rq.wf
  | .joinRetry link _ => link < 64
  | .routeUpdate rq => rq.wf
  | .linkPacketReceived link vc _ => link < 64 && 1 ≤ vc && vc ≤ 3
  | .linkResponse link vc _ => link < 64 && 1 ≤ vc && vc ≤ 3
  | .transactionTimeout link vc txid _ => link < 64 && 1 ≤ vc && vc ≤ 3 && txid < 1024
  | .routeWaitTimeout tag originator _ => tag < 2 ^ 16 && originator < 2 ^ 16
  | .sysFormeStage rq => rq.wf
  | .sysFormePush rq => rq.wf
  | .sysFormePushDone sysId => sysId < 2 ^ 32
  | .sysFormeRun rq => rq.wf
  | .prepareAnswer sysId node status errDest errReason => sysId < 2 ^ 32 && node < 0x3FFF && status < 256 && errDest < 2 ^ 16 && errReason < 256
  | .sysDecisionTime sysId _ => sysId < 2 ^ 32
  | .decisionExpiry forme _ => forme < 2 ^ 32
  | .sysFormeAbort rq => rq.wf
  | .sysFormeStatus rq => rq.wf
  | .formePush rq => rq.wf
  | .prepare rq => rq.wf
  | .commit rq => rq.wf
  | .abort rq => rq.wf
  | .lockupReport rq => rq.wf
  | .sysRunTimeout sysId _ => sysId < 2 ^ 32
  | .snapshotAt rq => rq.wf
  | .snapshotLatched snapId _ => snapId < 2 ^ 32
  | .snapshotKeepWrite => true
  | .sysSnapshot rq => rq.wf
  | .migrateCut rq => rq.wf
  | .epochCut process _ => process < 2 ^ 16
  | .folioOffer rq => rq.wf
  | .folioSegment rq => rq.wf
  | .folioEnd rq => rq.wf
  | .relayStatus rq => rq.wf
  | .audioConfig rq => rq.wf
  | .audioRouteSet rq => rq.wf
  | .audioRouteRead rq => rq.wf
  | .aesPortConfig rq => rq.wf
  | .aesStatus rq => rq.wf
  | .aesStart rq => rq.wf
  | .aesPortRestart rq => rq.wf
  | .portRestarted _ port _ => port < 64
  | .audioFlowMap rq => rq.wf
  | .audioTrunkSet rq => rq.wf
  | .audioBufferSet rq => rq.wf
  | .audioBufferStatus rq => rq.wf
  | .silenceConfig rq => rq.wf
  | .safeloadWrite rq => rq.wf
  | .safeloadSwap rq => rq.wf
  | .safeloadDone set _ => set < 16
  | .channelStatus rq => rq.wf
  | .audioTick _ _ arrivals => arrivals.all (fun x => x.parity < 256)
  | .gainApply dest _ _ _ => dest < 0x4000
  | .audioBlockMeasured channel peak _ => channel < 0x4000 && peak < 2 ^ 24
  | .silence channel _ => channel < 0x4000
  | .aesBlockReceived port _ status user => port < 64 && status.length = 24 && user.length = 24
  | .portLock port _ => port < 64
  | .portLoss port => port < 64
  | .portRate port _ => port < 64
  | .pairSlip _ port _ _ => port < 64
  | .trigInEdge _ _ => true
  | .aesStartIndex _ => true
  | .engineConfig rq => rq.wf
  | .engineStatus rq => rq.wf
  | .procCreate rq => rq.wf
  | .procDelete rq => rq.wf
  | .progWrite rq => rq.wf
  | .progCheck rq => rq.wf
  | .procPlace rq => rq.wf
  | .placeStarted process epoch _ => process < 2 ^ 16 && epoch < 2 ^ 32
  | .procUnplace rq => rq.wf
  | .placeStopped process epoch _ => process < 2 ^ 16 && epoch < 2 ^ 32
  | .procStatus rq => rq.wf
  | .delaySet rq => rq.wf
  | .dmRead rq => rq.wf
  | .engineTick engine _ => engine < 32
  | .pmUncorrectable engine process _ => engine < 32 && process < 2 ^ 16
  | .sheetConfig rq => rq.wf
  | .sheetOrder rq => rq.wf
  | .pageSet rq => rq.wf
  | .pageRead rq => rq.wf
  | .impInputConfig rq => rq.wf
  | .sheetStatus rq => rq.wf
  | .sheetFrameStart sheet _ _ _ => sheet < 32
  | .plateAlloc rq => rq.wf
  | .plateFree rq => rq.wf
  | .plateZeroed plate => plate < 49152
  | .plateMap rq => rq.wf
  | .plateUnmap rq => rq.wf
  | .plateRead rq => rq.wf
  | .plateExport rq => rq.wf
  | .frameStoreInfo rq => rq.wf
  | .dmaSubmit rq => rq.wf
  | .dmaJobDone channel => channel < 64
  | .dmaBurstDone channel _ => channel < 64
  | .dmaControlResume rq => rq.wf
  | .dmaControlSkip rq => rq.wf
  | .dmaControlAbort rq => rq.wf
  | .dmaStatus rq => rq.wf
  | .memStatus rq => rq.wf
  | .memConfig rq => rq.wf
  | .cacheStatus rq => rq.wf
  | .matrixStatus rq => rq.wf
  | .walkDone va _ => va < 2 ^ 48
  | .scrubRead offset _ _ => offset < 96 * 2 ^ 30
  | .readReq link _ => link < 64
  | .readData link _ => link < 64
  | .writeReq link _ => link < 64
  | .writeAck link _ => link < 64
  | .matrixTimeout _ address => address < 2 ^ 56
  | .decodeError _ address => address < 2 ^ 56
  | .timeRead rq => rq.wf
  | .timeSet rq => rq.wf
  | .refConfig rq => rq.wf
  | .refGlobal rq => rq.wf
  | .refStatus rq => rq.wf
  | .ptpConfig rq => rq.wf
  | .ptpStatus rq => rq.wf
  | .freqTrim rq => rq.wf
  | .captureConfig rq => rq.wf
  | .captureRead rq => rq.wf
  | .clkmonSet rq => rq.wf
  | .clockStatus rq => rq.wf
  | .tcConfig rq => rq.wf
  | .servoUpdate _ _ _ => true
  | .candidatePresent index _ _ _ _ => index < 8
  | .candidateAbsent index _ => index < 8
  | .candidateQualified index _ _ _ => index < 8
  | .holdoverExpiry _ => true
  | .refSyncEdge index _ frac _ => index < 8 && frac < 2 ^ 16
  | .ptpMessage port _ _ => port < 2
  | .timeSync link _ _ => link < 64
  | .delayReq link _ _ arrivalFrac => link < 64 && arrivalFrac < 2 ^ 16
  | .delayResp link _ => link < 64
  | .timeSyncSend link _ => link < 64
  | .delayReqSend link _ => link < 64
  | .ppsEdge _ frac => frac < 2 ^ 16
  | .clockWindow clock _ _ => clock < 256
  | .twinConfig rq => rq.wf
  | .twinPair rq => rq.wf
  | .autoPair _ => true
  | .stateCopy rq => rq.wf
  | .settled _ => true
  | .twinSwap rq => rq.wf
  | .twinSwapDue _ => true
  | .twinStatus rq => rq.wf
  | .twinHealth rq => rq.wf
  | .mirrorStatusReceived opcode tag status => opcode < 2 ^ 16 && tag < 2 ^ 16 && status < 256
  | .digestsSend _ => true
  | .digests rq => rq.wf
  | .digestMissed dest kind index _ => dest < 2048 && kind < 256 && index < 2 ^ 32
  | .healthSend _ => true
  | .health rq => rq.wf
  | .healthLate _ => true
  | .twinPeerChange _ _ => true
  | .contention _ => true
  | .faultMessage source kind detail _ count => source < 4096 && kind < 256 && detail < 2 ^ 48 && 0 < count
  | .faultLogEntry => true
  | .selfParity register _ => register < 2 ^ 16
  | .faultNRelease _ => true
  | .faultRead rq => rq.wf
  | .faultSeveritySet rq => rq.wf
  | .faultCounters rq => rq.wf
  | .faultAck rq => rq.wf
  | .safeClear rq => rq.wf
  | .faultNControl rq => rq.wf
  | .faultStatus rq => rq.wf
  | .faultInject rq => rq.wf
  | .snapshotRead rq => rq.wf
  | .watchdog pc _ => pc < 2 ^ 48
  | .powerBudgetSet rq => rq.wf
  | .powerStatus rq => rq.wf
  | .wakeConfig rq => rq.wf
  | .domainStatus rq => rq.wf
  | .railStatus rq => rq.wf
  | .groupIdleExpiry group _ => group < 5
  | .islandWakeRequest domain => domain < 340
  | .dormantEntryStep _ => true
  | .wakeNLow _ => true
  | .wakeStep _ => true
  | .rail index millivolts _ => index < 7 && millivolts < 2 ^ 16
  | .tempRead _ _ => true
  | .kaBrownout => true
  | .proofRun rq => rq.wf
  | .proofCancel rq => rq.wf
  | .proofResults rq => rq.wf
  | .proofLive rq => rq.wf
  | .proofStatus rq => rq.wf
  | .proofStepStart _ => true
  | .proofStepDone test unit _ _ => test < 256 && unit < 2 ^ 16
  | .proofStepAbort test unit _ => test < 256 && unit < 2 ^ 16
  | .liveSlice test unit _ _ => test < 256 && unit < 2 ^ 16
  | .lcStatus rq => rq.wf
  | .lcTransition rq => rq.wf
  | .lcProvision rq _ => rq.wf
  | .fuseBurnDone => true
  | .keyInfo rq => rq.wf
  | .keyLoad rq => rq.wf
  | .keyImport rq => rq.wf
  | .keyDerive rq => rq.wf
  | .keyUse rq => rq.wf
  | .keyClear rq => rq.wf
  | .folioLoad rq => rq.wf
  | .folioStore rq => rq.wf
  | .folioStoreDone _ => true
  | .folioActivate rq => rq.wf
  | .folioActivationDue _ => true
  | .controlPauseEnd _ => true
  | .trialConfirm _ => true
  | .folioStatus rq => rq.wf
  | .folioGolden rq => rq.wf
  | .powerOn => true
  | .pwrgoodFall => true
  | .resetNLow => true
  | .resetRelease straps _ => straps.clusterId < 8
  | .phaseClocks _ _ => true
  | .phaseFuses _ => true
  | .phaseRoot _ _ => true
  | .phaseJournal _ => true
  | .phaseFolio _ _ => true
  | .phaseDram failed _ => (match failed with | some k => k < 4 | none => true)
  | .phaseLoad _ _ => true
  | .phaseLanes _ => true
  | .phaseRestore _ => true
  | .phasePorts _ => true
  | .profileWrite _ => true
  | .legacyStatus rq => rq.wf
  | .legacyRoute rq => rq.wf
  | .legacyReset rq => rq.wf
  | .legacyResetDue _ => true
  | .legacyActivate rq => rq.wf
  | .folioGoldenDone _ => true
  | .pcieLinkUp _ => true
  | .matrixRecoveryRelease => true
  | .powerLoss => true

end Sys2Proof
end

