-- ==== Sys2Proof/Safety.lean ====
section
/-! DEFINITION. What a safe run of the block is, and the words in which statements speak of requests: when one is admitted and
runs at once, what arriving does, and what answering it does. -/

namespace Sys2Proof.Machine

/-- A step that neither faults nor is refused. -/
def State.StepSafe (s : State) : Prop := ∃ t, step s = .next t

/-- A request counted as received at its port (R56). -/
def State.received (rq : Request) (s : State) : State :=
  s.count rq.port (fun c => { c with received := c.received + 1 })

/-- A request counted as received and admitted, its tag recorded as in progress (R38, R40, R56). -/
def arrive (rq : Request) (s : State) : State := (s.received rq).takeIn rq

/-- The port takes packets, a TRUNK or TWIN link those with target 0x0000 only, and it has room for the reply (R34, R52, R53,
R177, R423). -/
def listening (rq : Request) (s : State) : Bool := s.serving rq.port && !s.wrongHop rq && s.replyRoom rq.port

/-- A request that passes every step of admission, without an instant of its own, and finds the interpreter free; it would
change no unit under a proof step (R40, R42, R388). -/
def runs (op : Nat) (rq : Request) (s : State) : Bool :=
  listening rq s && verdict op rq (s.received rq) = .run && (s.received rq).interpreterFree
    && !(arrive rq s).touchesTest op rq.payload

/-- A request runs at once, and `a` is the state in which it runs. -/
def Served (op : Nat) (rq : Request) (s a : State) : Prop := runs op rq s = true ∧ a = arrive rq s

/-- What follows a command's effect: its setting is noted (R337, R421), its tag finished and its reply sent (R38, R43), and the
resource groups follow what is in hand (R371). -/
def finish (op : Nat) (rq : Request) (r : Res × State) : State :=
  ((r.2.noteSetting op rq r.1.status).answer op rq r.1).trackGroups

/-- The time base and the queue apart, nothing but ports, links, power groups, the twin's and the fault collector's records
differs: what answering and events may touch. -/
def SettingsKept (s t : State) : Prop :=
  t.pending = s.pending ∧ t.tb = s.tb ∧ t.lat = s.lat ∧ t.eth = s.eth ∧ t.audio = s.audio ∧ t.chord = s.chord
    ∧ t.imp = s.imp ∧ t.mem = s.mem ∧ t.ref = s.ref ∧ t.proof = s.proof ∧ t.life = s.life ∧ t.keep = s.keep

end Sys2Proof.Machine
end

