-- ==== Sys2Proof/Certificates/Slice0/Obligations.lean ====
section
/-! DEFINITION. What the model is to be proved to do: statements of the numbered rules of spec/, family by family of the command
table. In the statements of commands, `Served op rq s a` says that the request passes admission and runs at once in the state `a`,
which differs from `s` by the port's counters and the tag record alone, and `finish` is what answering it does. -/

open Sys2Proof Sys2Proof.Machine

/-- The PCIe registers, once they answer (R44 to R49, R300): the doorbells, the enables, RING_ERR, the registers without
behaviour of their own, and the control core's REMAP. -/
def Obligations.RingRegistersAct : Prop :=
  (∀ side index s, s.bar0On = true → (s.pcie side).cmdRingEn = true →
    exec (.cmdDoorbell side index) s = .next (s.onPcie side (fun p =>
      { p with
        cmdProducer := BitVec.ofNat 16 index
        ringErr := p.ringErr || 256 < (BitVec.ofNat 16 index - p.cmdConsumer).toNat }))) ∧
  (∀ side index s, s.bar0On = true → (s.pcie side).cmdRingEn = false →
    exec (.cmdDoorbell side index) s = .next (s.onPcie side (fun p =>
      { p with cmdProducer := BitVec.ofNat 16 index, cmdConsumer := BitVec.ofNat 16 index }))) ∧
  (∀ side index s, s.bar0On = true →
    ((s.pcie side).evtProducer - BitVec.ofNat 16 index).toNat ≤ ((s.pcie side).evtProducer - (s.pcie side).evtConsumer).toNat →
    exec (.evtDoorbell side index) s = .next ((s.onPcie side (fun p =>
      { p with evtConsumer := BitVec.ofNat 16 index, ring := p.ring.drop (BitVec.ofNat 16 index - p.evtConsumer).toNat })).refill side)) ∧
  (∀ side index s, s.bar0On = true →
    ((s.pcie side).evtProducer - (s.pcie side).evtConsumer).toNat < ((s.pcie side).evtProducer - BitVec.ofNat 16 index).toNat →
    exec (.evtDoorbell side index) s = .next (s.onPcie side (fun p => { p with ringErr := true }))) ∧
  (∀ side s, s.bar0On = true →
    exec (.cmdRingEnSet side) s = .next (s.onPcie side (fun p => { p with cmdRingEn := true }))) ∧
  (∀ side s, s.bar0On = true → (s.pcie side).evtRingEn = false →
    exec (.evtRingEnSet side) s = .next ((s.onPcie side (fun p =>
      { p with evtRingEn := true, noticeFirst := p.noticeDue })).noticeLost side)) ∧
  (∀ side s, s.bar0On = true → (s.pcie side).evtRingEn = true → exec (.evtRingEnSet side) s = .next s) ∧
  (∀ side s, s.bar0On = true →
    exec (.ringErrClear side) s = .next (s.onPcie side (fun p => { p with ringErr := false }))) ∧
  (∀ remap s, exec (.remapWrite remap) s = .next (s.onMem (fun m => { m with remap := remap })))

/-- What a ring that is switched off or reset loses is counted (R47, R49): the port's events_lost rises by as many replies or
held events as there were, and nothing waits any more.
Registers, descriptors and the pins that wake (R44, R45, R46, R379, R439): a ring base keeps its low bits zero, a register
that R44 does not list ignores a write, the next descriptor's packet is offered for admission, and a reply is written to its
buffer before its descriptor is marked DONE. -/
def Obligations.RingTransfersAct : Prop :=
  (∀ side s, s.bar0On = true → ∃ t, exec (.cmdRingEnClear side) s = .next t ∧
    (t.pcie side).cmdRingEn = false ∧ (t.pcie side).replies = [] ∧
    (t.pcie side).counters.eventsLost = (s.pcie side).counters.eventsLost + BitVec.ofNat 32 (s.pcie side).replies.length ∧
    t.ports.eventsLost = s.ports.eventsLost + BitVec.ofNat 32 (s.pcie side).replies.length) ∧
  (∀ side s, s.bar0On = true → ∃ t, exec (.evtRingEnClear side) s = .next t ∧
    (t.pcie side).evtRingEn = false ∧ (t.pcie side).held = [] ∧
    (t.pcie side).counters.eventsLost = (s.pcie side).counters.eventsLost + BitVec.ofNat 32 (s.pcie side).held.length ∧
    t.ports.eventsLost = s.ports.eventsLost + BitVec.ofNat 32 (s.pcie side).held.length) ∧
  (∀ side lost s, ∃ t, exec (.pcieFunctionReset side lost) s = .next t ∧
    (t.pcie side).cmdRingEn = false ∧ (t.pcie side).replies = [] ∧
    (t.pcie side).linkUp = ((s.pcie side).linkUp && !lost) ∧
    (t.pcie side).counters.eventsLost = (s.pcie side).counters.eventsLost + BitVec.ofNat 32 (s.pcie side).replies.length) ∧
  (∀ side offset (data : List Byte) s, s.bar0On = true → 0x10 ≤ offset → offset + data.length ≤ 0x18 →
    (s.pcie side).pba = 0 →
    ∃ t, exec (.registerWrite side offset data) s = .next t ∧
      (data ≠ [] → (t.pcie side).cmdRingBase &&& 0x1FFF#64 = 0)) ∧
  (∀ side offset (data : List Byte) s, s.bar0On = true → 0x1100 ≤ offset → (s.pcie side).pba = 0 →
    exec (.registerWrite side offset data) s = .next s) ∧
  (∀ side descriptor packet s, s.fetches side = true →
    exec (.descriptorFetch side descriptor packet) s =
      .next ((s.onPcie side (fun p => { p with cmdConsumer := p.cmdConsumer + 1 })).receive
        { port := sidePort side, slot := (s.pcie side).cmdConsumer.toNat, replyAddr := u64 descriptor 8,
          replyBytes := u16 descriptor 18 } packet (u16 descriptor 16 = packet.length))) ∧
  (∀ side s, exec (.ringDmaFailure side .descriptor) s =
    .next ((s.onPcie side (fun p => { p with ringErr := true })).fault (0x290 + portCode (sidePort side)) 0x20
      (s.pcie side).cmdConsumer.toNat)) ∧
  (∀ side s r rs, (s.pcie side).replies = r :: rs → r.packet ≠ [] →
    exec (.replyWrite side) s = .next (descriptorDone side r.slot r.packet.length r.status
      ((s.onPcie side (fun p => { p with replies := rs })).toHost side r.replyAddr r.packet))) ∧
  (∀ side s, exec (.pcieL1Exit side) s =
    .next ((s.onPcie side (fun p => { p with linkL1 := false })).wake (if side = .cpa then 3 else 4) 0)) ∧
  (∀ side s, s.boot.phase ≠ 0 → s.power.off = false → s.life.lifecycle ≠ .blank →
    exec (.pcieLinkUp side) s = .next (s.onPcie side (fun p => { p with linkUp := true, resetLow := false })))

/-- The SPI and TAP transactions (R50 to R53): what the window and the reply stores give out, and the TAP's instructions. -/
def Obligations.SerialPortsAnswer : Prop :=
  (∀ address count s, s.windowOn .cpm = true →
    exec (.windowRead address count) s = .next (s.output ((List.range count).map (fun i => s.window.getD ((address + i) % 256) 0)))) ∧
  (∀ s r rs, s.windowOn .cpm = true → s.ports.cpm.replies = r :: rs →
    exec .replyRead s = .next ((s.onCpm (fun p => { p with replies := rs })).output (leBytes 2 r.length ++ r))) ∧
  (∀ s, s.windowOn .cpm = true → s.ports.cpm.replies = [] → exec .replyRead s = .next (s.output (leBytes 2 0))) ∧
  (∀ s, s.windowOn .cpm = true →
    exec .portStatus s = .next ((s.onCpm (fun p => { p with rejected := false })).output
      (bytes [flag (s.ports.cpm.replies != []) + 2 * flag s.ports.cpm.rejected + 4 * flag (64 ≤ s.ports.cpm.replies.length)]))) ∧
  (∀ s r rs, s.windowOn .cpt = true → s.ports.cpt.queue = r :: rs →
    exec .pktOut s = .next ((s.onCpt (fun p => { p with ir := 0x41, extest := false, pulsing := false, queue := rs })).output (leBytes 2 r.length ++ r))) ∧
  (∀ s, s.windowOn .cpt = true →
    exec .window s = .next ((s.onCpt (fun p => { p with ir := 0x42, extest := false, pulsing := false })).output s.window)) ∧
  (∀ s, exec .bypass s = .next ((s.onCpt (fun p => { p with ir := 0xFF, extest := false, pulsing := false })).output [0])) ∧
  (∀ s, exec .idcode s = .next ((s.onCpt (fun p => { p with ir := 1, extest := false, pulsing := false })).output
    (leBytes 4 Config.idcode.toNat))) ∧
  (∀ bits s, ∃ t, exec (.samplePreload bits) s = .next t ∧ t.ports.cpt.boundary = bits ∧ t.ports.cpt.extest = false) ∧
  (∀ bits s, exec (.extest bits) s = .next (s.onCpt (fun p =>
    { p with ir := 0, extest := true, pulsing := false, boundary := bits }))) ∧
  (∀ bits s, exec (.extestPulse bits) s = .next (s.onCpt (fun p =>
    { p with ir := 3, extest := true, pulsing := s.life.lifecycle = .factory || s.life.lifecycle = .service, boundary := bits }))) ∧
  (∀ bits s, exec (.extestTrain bits) s = .next (s.onCpt (fun p =>
    { p with ir := 4, extest := true, pulsing := s.life.lifecycle = .factory || s.life.lifecycle = .service, boundary := bits }))) ∧
  (∀ s, exec .cpmChipSelect s = .next (s.wake 5 0)) ∧
  (∀ ir s, exec (.cptInstructionUpdate ir) s = .next ((s.onCpt (fun p =>
    { p with
      ir := ir
      extest := ir = 0 || ir = 3 || ir = 4
      pulsing := (ir = 3 || ir = 4) && (s.life.lifecycle = .factory || s.life.lifecycle = .service) })).wake 6 0))

/-- The class 0x0 commands and ECHO (R42, R56), a packet taken over CPM or CPT (R40, R52, R53), an opcode that R447 does not
list (R449), and the commands of the timed list (R39). -/
def Obligations.InterpreterCommandsAnswer : Prop :=
  (∀ rq s a, Served 0x0002 rq s a → rq.payload = [] →
    exec (.deviceInfo rq) s = .next (finish 0x0002 rq (okWith (leBytes 2 0x9256 ++ [Config.stepping] ++ bytes [a.life.lifecycle.code]
      ++ leBytes 2 a.node ++ bytes [a.roles, a.power.state.code] ++ leBytes 4 a.folioVersion ++ leBytes 4 a.life.rollback
      ++ leBytes 8 Config.serial.toNat) a))) ∧
  (∀ rq s a, Served 0x0003 rq s a → rq.payload.length = 4 → u8 rq.payload 1 = 0 → 1 ≤ u16 rq.payload 2 →
    u8 rq.payload 0 + u16 rq.payload 2 ≤ 256 →
    exec (.statusRead rq) s = .next (finish 0x0003 rq (okWith ((a.window.drop (u8 rq.payload 0)).take (u16 rq.payload 2)) a))) ∧
  (∀ rq s a, Served 0x0004 rq s a → rq.payload.length = 8 → u16 rq.payload 0 % 4 = 0 → u16 rq.payload 2 % 2 = 0 →
    (rq.port = .cpa ∨ rq.port = .cpb ∨ u16 rq.payload 4 = 0) → u16 rq.payload 6 = 0 →
    exec (.eventConfig rq) s = .next (finish 0x0004 rq (ok ((setPortMasks rq (u16 rq.payload 0) (u16 rq.payload 4) a).onPorts
      (fun q => { q with eventNMask := BitVec.ofNat 16 (u16 rq.payload 2) }))))) ∧
  (∀ rq s a, Served 0x0005 rq s a → rq.payload.length = 2 → u8 rq.payload 1 = 0 →
    (u8 rq.payload 0 ≤ 3 ∨ (64 ≤ u8 rq.payload 0 ∧ u8 rq.payload 0 ≤ 127)) →
    exec (.portCounters rq) s = .next (finish 0x0005 rq (okWith (counterBytes (a.counters (portOf (u8 rq.payload 0)))) a))) ∧
  (∀ rq s a, Served 0x0001 rq s a →
    exec (.undefinedOpcodeRequest 0x0001 rq) s = .next (finish 0x0001 rq (okWith rq.payload a))) ∧
  (∀ op rq s, listening rq s = true → headerOk rq (s.received rq) = true → opClass op = none →
    exec (.undefinedOpcodeRequest op rq) s = .next ((s.received rq).refuse op rq 6 [])) ∧
  (∀ packet s, s.serving .cpm = true → s.replyRoom .cpm = true → lengthOk packet = true → crcOk packet = true →
    verdict (u16 packet 0) (requestOf .cpm packet) (s.received { port := .cpm }) = .run →
    exec (.packetWrite packet) s = .next (((s.received { port := .cpm }).takeIn (requestOf .cpm packet)).enqueue (u16 packet 0)
      (requestOf .cpm packet))) ∧
  (∀ packet s t, t = s.onCpt (fun p => { p with ir := 0x40, extest := false, pulsing := false }) → t.serving .cpt = true → t.replyRoom .cpt = true →
    lengthOk packet = true → crcOk packet = true → verdict (u16 packet 0) (requestOf .cpt packet) (t.received { port := .cpt }) = .run →
    exec (.pktIn packet) s = .next (((t.received { port := .cpt }).takeIn (requestOf .cpt packet)).enqueue (u16 packet 0)
      (requestOf .cpt packet))) ∧
  (∀ at_ s e, (s.advance at_).ports.timed = [e] → s.life.paused = none → e.due * 1000 ≤ (s.advance at_).now →
    exec (.timedCommandDue at_) s = .next (((s.advance at_).onPorts (fun p => { p with timed := [] })).runTimed e)) ∧
  (∀ at_ s, 3 ≤ s.boot.phase → (s.advance at_).portsAwake = true → s.twin.retrainDue = false →
    ∃ t, exec (.heartbeat at_) s = .next t ∧ t.ports.heartbeat = s.ports.heartbeat + 1 ∧ t.ports.shadow = t.windowNow)

/-- Building a forme (R70, R75, R76, R92): FORME_OPEN appends an OPEN forme without entries, FORME_ENTRIES stores its records in
order and refuses them all for one whose fields are not valid, FORME_CLOSE of a forme that passes the checks makes it CLOSED and allots its stores, and FORME_CLOSE of one that fails
leaves it OPEN with the failing destination and reason.
Scheduling a lock-up and cancelling it (R75, R78, R92): the time is set, or left unset by T = 0 and so 2 ms ahead; a forme that
an earlier FORME_SCHEDULE set completes that command with WRONG_STATE. -/
def Obligations.FormesAreBuiltAndScheduled : Prop :=
  (∀ rq s a p, Served 0x1001 rq s a → rq.payload = p → p.length = 8 → u32 p 0 ≠ 0 → u8 p 4 ≤ 1 → framePeriod (u8 p 5) ≠ none →
    u16 p 6 = 0 → a.lat.pending.length < 8 → a.openForme = none → a.lat.standing.id ≠ u32 p 0 → a.forme (u32 p 0) = none →
    exec (.formeOpen rq) s = .next (finish 0x1001 rq (ok (a.onLat (fun l =>
      { l with pending := l.pending ++ [{ id := u32 p 0, merge := u8 p 4 = 1, rate := u8 p 5, state := .opened, entries := [] }] }))))) ∧
  (∀ rq s a p f, Served 0x1002 rq s a → rq.payload = p → 1 ≤ u16 p 4 → u16 p 4 ≤ 340 → p.length = 8 + 12 * u16 p 4 → u16 p 6 = 0 →
    (records p 8 12 (u16 p 4)).all (fun r => entryReservedOk r && entryFieldsOk (parseEntry r).1 (parseEntry r).2) = true →
    a.forme (u32 p 0) = some f → f.state = .opened →
    exec (.formeEntries rq) s = .next (finish 0x1002 rq (ok (a.onForme (u32 p 0) (fun f =>
      { f with entries := (records p 8 12 (u16 p 4)).foldl (fun t r => Tbl.put t (parseEntry r).1 (parseEntry r).2) f.entries }))))) ∧
  (∀ rq s a p r, Served 0x1002 rq s a → rq.payload = p → r ∈ records p 8 12 (u16 p 4) →
    entryReservedOk r = false ∨ entryFieldsOk (parseEntry r).1 (parseEntry r).2 = false →
    exec (.formeEntries rq) s = .next (finish 0x1002 rq (fail 7 a))) ∧
  (∀ rq s a p f, Served 0x1003 rq s a → rq.payload = p → p.length = 12 → u16 p 6 = 0 → a.forme (u32 p 0) = some f → f.state = .opened →
    a.formeError f.entries (u16 p 4) (u32 p 8) = (0xFFFF, 0) →
    exec (.formeClose rq) s = .next (finish 0x1003 rq (ok (each (a.newStoreSources f.entries) State.ensureStore
      (a.onForme f.id (fun x =>
        { x with
          state := .closed
          crc := u32 p 8
          errDest := 0xFFFF
          errReason := 0
          plates := a.platesAdded f.entries })))))) ∧
  (∀ rq s a p f d r, Served 0x1003 rq s a → rq.payload = p → p.length = 12 → u16 p 6 = 0 → a.forme (u32 p 0) = some f → f.state = .opened →
    a.formeError f.entries (u16 p 4) (u32 p 8) = (d, r) → r ≠ 0 →
    exec (.formeClose rq) s = .next (finish 0x1003 rq (fail (if r = 8 then 17 else if r = 9 then 16 else 7)
      (a.onForme f.id (fun x => { x with errDest := d, errReason := r }))))) ∧
  (∀ rq s a p f t, Served 0x1004 rq s a → rq.payload = p → p.length = 24 → u32 p 4 = 0 → u32 p 20 = 0 → u32 p 16 < 1000000000 →
    t = (if timeAt p 8 16 = 0 then a.now + 2000000 else timeAt p 8 16) → a.forme (u32 p 0) = some f →
    a.now + 2000000 ≤ t → t ≤ a.now + 86400 * 1000000000 → a.spacingBad (u32 p 0) t = false → f.prepared = false →
    f.state = .opened ∨ f.state = .closed →
    exec (.formeSchedule rq) s = .next (finish 0x1004 rq (accepted ((a.completeOpt f.handle 8 f.completion).onForme (u32 p 0)
      (fun x => { x with t := some t, origT := t, moves := 0, handle := some (handleOf 0x1004 rq) }))))) ∧
  (∀ rq s a p f, Served 0x1005 rq s a → rq.payload = p → p.length = 4 → a.forme (u32 p 0) = some f → f.prepared = false →
    f.state = .opened ∨ f.state = .closed →
    exec (.formeCancel rq) s = .next (finish 0x1005 rq (ok
      (((a.onLat (fun l => { l with pending := l.pending.filter (fun x => x.id != u32 p 0) })).freeStores).completeOpt f.handle 8
        f.completion))))

/-- ROUTE_SET (R83, R84): refused with BUSY_REBUILD while a forme is OPEN and MIRROR is not set; otherwise the standing entry is
replaced and counted, and the change waits for the destination's first switch instant at least 100 us away. -/
def Obligations.RouteSetChangesOneRoute : Prop :=
  (∀ rq s a p, Served 0x1006 rq s a → rq.payload = p → p.length = 16 → entryReservedOk p = true → u8 p 12 = 0 → fld p 13 3 = 0 →
    entryError (parseEntry p).1 (parseEntry p).2 = 0 → a.openForme ≠ none →
    exec (.routeSet rq) s = .next (finish 0x1006 rq (fail 14 a))) ∧
  (∀ rq s a p d e, Served 0x1006 rq s a → rq.payload = p → p.length = 16 → entryReservedOk p = true → u8 p 12 ≤ 1 → fld p 13 3 = 0 →
    (d, e) = parseEntry p → entryError d e = 0 → a.openForme = none → a.trunkError d e = 0 →
    a.platesUsed + a.platesAdded [(d, e)] ≤ 32768 →
    ∃ t, exec (.routeSet rq) s = .next (finish 0x1006 rq (ok t)) ∧ t.lat.standing.entries = Tbl.put a.lat.standing.entries d e ∧
      t.lat.standing.modified = min 65535 (a.lat.standing.modified + 1) ∧ t.lat.standing.id = a.lat.standing.id ∧
      t.lat.pending = a.lat.pending ∧ (t.dest d).current = (a.dest d).current ∧
      ∃ r, (t.dest d).route = some r ∧ r.entry = e ∧ r.notBefore = a.now + 100000)

/-- What the lattice reports and keeps (R85, R88, R92): the information commands change nothing, and KEEP_CONFIG sets the restore
flag. -/
def Obligations.LatticeReports : Prop :=
  (∀ rq s a p, Served 0x1007 rq s a → rq.payload = p → p.length = 8 → u8 p 4 = 1 → fld p 5 3 = 0 →
    exec (.formeInfo rq) s = .next (finish 0x1007 rq (okWith (leBytes 4 a.lat.standing.id ++ bytes [4, a.lat.standing.rate]
      ++ leBytes 2 a.lat.standing.entries.length ++ timeBytes a.lat.standing.t ++ leBytes 2 a.lat.standing.moves
      ++ leBytes 2 a.lat.standing.modified ++ leBytes 4 a.lat.standing.crc ++ leBytes 2 0xFFFF ++ bytes [0, 0] ++ leBytes 4 0
      ++ zeros 4) a))) ∧
  (∀ rq s a p, Served 0x1008 rq s a → rq.payload = p → p.length = 12 → u8 p 0 = 0 → fld p 1 3 = 0 → 1 ≤ u16 p 10 → u16 p 10 ≤ 340 →
    u16 p 8 + u16 p 10 ≤ 2048 →
    exec (.formeRead rq) s = .next (finish 0x1008 rq (okWith
      (leBytes 2 (entriesIn a.lat.standing.entries (u16 p 8) (u16 p 10)).length ++ zeros 2
        ++ (entriesIn a.lat.standing.entries (u16 p 8) (u16 p 10)).flatMap (fun e => entryBytes e.1 e.2)) a))) ∧
  (∀ rq s a p, Served 0x1009 rq s a → rq.payload = p → p.length = 4 → 1 ≤ u16 p 2 → u16 p 2 ≤ 255 → u16 p 0 + u16 p 2 ≤ 2048 →
    exec (.destStatus rq) s = .next (finish 0x1009 rq (okWith (leBytes 2 (u16 p 2) ++ zeros 2
      ++ (List.range (u16 p 2)).flatMap (fun i => a.destRecord (u16 p 0 + i))) a))) ∧
  (∀ rq s a p, Served 0x100B rq s a → rq.payload = p → p.length = 4 → u8 p 0 ≤ 63 → fld p 1 3 = 0 →
    exec (.trunkInfo rq) s = .next (finish 0x100B rq (okWith
      (leBytes 4 (if (a.link (u8 p 0)).state = .up then (a.link (u8 p 0)).trunkLimit / 1000 else 0)
        ++ leBytes 4 (a.linkCharge (u8 p 0) 65536) ++ leBytes 2 (Tbl.count a.lat.sends (fun _ m => m.link = u8 p 0))
        ++ leBytes 2 (Tbl.count a.lat.receives (fun _ m => m.link = u8 p 0)) ++ leBytes 4 (Tbl.at a.lat.unmapped (u8 p 0) 0)) a))) ∧
  (∀ rq s a p, Served 0x100C rq s a → rq.payload = p → p.length = 4 → u8 p 0 ≤ 1 → fld p 1 3 = 0 →
    exec (.keepConfig rq) s = .next (finish 0x100C rq (ok (a.onKeep (fun k => { k with restore := u8 p 0 = 1 }))))) ∧
  (∀ rq s a, Served 0x100D rq s a → rq.payload = [] → newestRecord a.keep.records = none →
    exec (.keepInfo rq) s = .next (finish 0x100D rq (okWith (leBytes 8 0 ++ bytes [0xFF, flag a.keep.restore, 0, 0] ++ leBytes 4 0
      ++ leBytes 8 0) a))) ∧
  (∀ rq s a k r, Served 0x100D rq s a → rq.payload = [] → newestRecord a.keep.records = some (k, r) →
    exec (.keepInfo rq) s = .next (finish 0x100D rq (okWith (leBytes 8 r.seq ++ bytes [k, flag a.keep.restore, 0, 0] ++ leBytes 4 r.id
      ++ leBytes 8 r.timeS) a)))

/-- Trunk maps (R85, R86): a send mapping is written while the link's charges stay within its limit and refused with TRUNK_FULL
beyond it, a receive mapping is written, and link 0xFF removes a mapping that no forme names. -/
def Obligations.TrunkMapsKeepToTheLimit : Prop :=
  (∀ rq s a p n m c, Served 0x100A rq s a → rq.payload = p → p.length = 8 → u8 p 2 = 0 → n = u16 p 0 - 0x500 →
    isTrunkDest (u16 p 0) = true → u16 p 6 = 0 → u8 p 3 ≤ 63 → m = { link := u8 p 3, stream := u8 p 4, rate := u8 p 5 } → u8 p 5 ≠ 0 →
    trunkCharge (u8 p 5) = some c → Tbl.get? a.lat.sends n = none →
    Tbl.has a.lat.sends (fun j x => j != n && x.link = u8 p 3 && x.stream = u8 p 4) = false →
    a.bundleStream (u8 p 3) (u8 p 4) false 65536 = false →
    exec (.trunkSet rq) s = .next (finish 0x100A rq
      (if (a.linkCharge (u8 p 3) n + c) * 1000 ≤ (a.link (u8 p 3)).trunkLimit
        then ok (a.onLat (fun l => { l with sends := Tbl.put l.sends n m })) else fail 17 a))) ∧
  (∀ rq s a p n m, Served 0x100A rq s a → rq.payload = p → p.length = 8 → u8 p 2 = 1 → n = u16 p 0 - 0x600 →
    isTrunkSource (u16 p 0) = true → u16 p 6 = 0 → u8 p 3 ≤ 63 → m = { link := u8 p 3, stream := u8 p 4, rate := 0 } → u8 p 5 = 0 →
    Tbl.get? a.lat.receives n = none →
    Tbl.has a.lat.receives (fun j x => j != n && x.link = u8 p 3 && x.stream = u8 p 4) = false →
    a.bundleStream (u8 p 3) (u8 p 4) true 65536 = false →
    exec (.trunkSet rq) s = .next (finish 0x100A rq (ok (a.onLat (fun l => { l with receives := Tbl.put l.receives n m }))))) ∧
  (∀ rq s a p, Served 0x100A rq s a → rq.payload = p → p.length = 8 → u8 p 2 = 0 → isTrunkDest (u16 p 0) = true → u16 p 6 = 0 →
    u8 p 3 = 0xFF → a.trunkNamed (u16 p 0) false = false →
    exec (.trunkSet rq) s = .next (finish 0x100A rq (ok (a.onLat (fun l => { l with sends := Tbl.del l.sends (u16 p 0 - 0x500) })))))

/-- The course of a lock-up (R75, R77, R80, R81, R188): at the horizon a CLOSED forme becomes SHADOW and loads the next selectors,
and one still OPEN moves by P_f; at T it is LOCKING and waits for every destination it names; at a destination's switch instant the
lock-up's entry becomes current, before any route that waits; a route set after that entry was loaded waits for it.
Phase errors and frame stores (R65 to R67): a measurement at a locked input records the phase and whether it lies in the
hysteresis band; an output frame on the frame plane takes the newest frame that began early enough, and counts skips and
repeats, and the picture of the loss mode where its source is lost. -/
def Obligations.LockupTakesItsCourse : Prop :=
  (∀ id at_ s f t, (s.advance at_).forme id = some f → f.t = some t → f.state = .closed → f.prepared = false →
    exec (.formeHorizon id at_) s = .next (each f.entries (fun e s => s.onDest e.1 (fun d => { d with next := some e.2, nextForme := f.id }))
      ((s.advance at_).onForme id (fun x => { x with state := .shadow })))) ∧
  (∀ id at_ s f t p, (s.advance at_).forme id = some f → f.t = some t → f.state = .opened → framePeriod f.rate = some p →
    t + p ≤ f.origT + 1000000000 → (s.advance at_).spacingBad f.id (t + p) = false →
    exec (.formeHorizon id at_) s = .next (((s.advance at_).onForme f.id (fun x => { x with t := some (t + p), moves := x.moves + 1 })).raise
      4 2 f.id (timeBytes (t + p)))) ∧
  (∀ id at_ s f, (s.advance at_).forme id = some f → f.state = .shadow →
    exec (.lockupArm id at_) s = .next ((s.advance at_).onForme id (fun x =>
      { x with state := .locking, waiting := List.map Prod.fst x.entries }))) ∧
  (∀ d at_ s f e, (s.advance at_).lockingFor d = some f → (s.dest d).next = some e → (s.dest d).route = none →
    ∃ t, exec (.switchInstant d at_) s = .next t ∧ (t.dest d).current = e ∧ (t.dest d).next = none) ∧
  (∀ d at_ s r, (s.advance at_).lockingFor d = none → (s.dest d).route = some r → r.notBefore ≤ (s.advance at_).now →
    r.afterNext = false ∨ (s.dest d).next = none →
    ∃ t, exec (.switchInstant d at_) s = .next t ∧ (t.dest d).current = r.entry ∧ (t.dest d).route = none) ∧
  (∀ d at_ s r, (s.advance at_).lockingFor d = none → (s.dest d).route = some r → r.afterNext = true → (s.dest d).next ≠ none →
    ∃ t, exec (.switchInstant d at_) s = .next t ∧ (t.dest d).current = (s.dest d).current ∧ (t.dest d).route = some r) ∧
  (∀ at_ s d, s.lat.keepDue = some d → d ≤ (s.advance at_).now → s.boot.driversOff = false → s.lat.completing = [] →
    ∃ t, exec (.keepRecordWrite at_) s = .next t ∧ t.lat.keepDue = none ∧ t.lat.keepLast = some (s.advance at_).now ∧
      Tbl.get? t.keep.records (match newestRecord s.keep.records with | some (k, _) => (k + 1) % 64 | none => 0) =
        some ((s.advance at_).keepRecord (match newestRecord s.keep.records with | some (_, r) => r.seq + 1 | none => 1))) ∧
  (∀ lane phase at_ s, (s.lane lane).rx.locked = true →
    ∃ t, exec (.phaseMeasurement lane phase at_) s = .next t ∧ (t.lane lane).rx.phase = phase ∧ (t.lane lane).rx.measured = true ∧
      (24 < phase.natAbs → (t.lane lane).rx.inBand = 0) ∧
      (phase.natAbs ≤ 24 → (t.lane lane).rx.inBand = min 16 ((s.lane lane).rx.inBand + 1))) ∧
  (∀ d at_ s s0 s1 f, s0 = s.advance at_ →
    s1 = (if isSdi d then s0.onDest d (fun x =>
      { x with embed := s0.embedGroups d, embedSamples := frameSamples ((s0.lane d).txFormat % 16) s0.now }) else s0) →
    (s1.dest d).skipDue = false → (s1.dest d).plane = 2 → s1.sourceReason (s1.dest d).current.source (s1.dest d).restoreWait = 0 →
    s1.frameFor (s1.dest d).current.source = some f →
    exec (.outputFrameStart d at_) s = .next ((s1.onDest d (fun x =>
      { x with
        shown := f.seq
        latency := s1.now - f.start
        reading := true
        picture := 0
        repeats := if x.reading && f.seq = x.shown then x.repeats + 1 else x.repeats
        skips := if x.reading then x.skips + BitVec.ofNat 16 (f.seq - x.shown - 1) else x.skips
        anc := s1.outputAnc d f
        timecode := s1.outputTimecode d f })).sendTrunk d f)) ∧
  (∀ d at_ s s0 s1, s0 = s.advance at_ →
    s1 = (if isSdi d then s0.onDest d (fun x =>
      { x with embed := s0.embedGroups d, embedSamples := frameSamples ((s0.lane d).txFormat % 16) s0.now }) else s0) →
    (s1.dest d).skipDue = false → (s1.dest d).plane = 2 → s1.sourceReason (s1.dest d).current.source (s1.dest d).restoreWait ≠ 0 →
    exec (.outputFrameStart d at_) s = .next (s1.onDest d (fun x => { x with picture := idlePicture d x.current })))

/-- LANE_ROLE_SET (R96): every lane of the range takes the role in ascending order; a lane that held no role has its receiver
cleared and the lowest valid rate class of the role loaded, and ROLE_DONE is raised. A lane without a valid entry for the role
refuses the whole command with BAD_PARAM (R107).
The settings of lanes and octants (R97, R100, R103, R111, R114, R115, R118): each command writes exactly its setting. -/
def Obligations.LaneSettingsAreWritten : Prop :=
  (∀ rq s a p, Served 0x2001 rq s a → rq.payload = p → p.length = 8 → u16 p 2 ≠ 0 → u16 p 0 + u16 p 2 ≤ 256 → u8 p 4 ≤ 3 → u8 p 5 ≤ 1 →
    u16 p 6 = 0 → a.lanes.inUse ≠ none →
    (∀ n ∈ laneRange (u16 p 0) (u16 p 2), (a.lane n).rxBond = 0 ∧ (a.lane n).txBond = 0 ∧ (u8 p 5 = 1 ∨ a.carriesLink n = false)) →
    exec (.laneRoleSet rq) s = .next (finish 0x2001 rq
      (if roleOf (u8 p 4) ≠ .none ∧ ∃ n ∈ laneRange (u16 p 0) (u16 p 2), ∀ k ∈ (roleOf (u8 p 4)).classes, a.classValid n k = false
        then fail 7 a
        else ok (each (laneRange (u16 p 0) (u16 p 2)) (State.setRole (roleOf (u8 p 4))) a)))) ∧
  (∀ r n s k, r ≠ .voxad → (s.lane n).role = .none → r.classes.find? (fun k => s.classValid n k) = some k →
    State.setRole r n s = (s.onLane n (fun l =>
      { l with
        role := r
        equaliser := k
        rx := { l.rx.unlocked with carrier := l.signal && r = .sdi }
        rxEntry := s.tableEntry n k
        txEntry := s.txSettings r n k })).raise 6 6 n (bytes [r.code])) ∧
  (∀ n k c (s : State), formatClass (s.lane n).txFormat (s.lane n).txCarriage = some c → s.txSettings .sdi n k = s.tableEntry n c) ∧
  (∀ rq s a p n, Served 0x2002 rq s a → rq.payload = p → p.length = 8 → n = u16 p 0 → n ≤ 255 → u8 p 2 ≤ 31 → u8 p 3 ≤ 1 → u8 p 4 ≤ 1 →
    fld p 5 3 = 0 → (a.lane n).role = .sdi →
    (a.lane n).rx.locked = false ∨ (u8 p 3 = 1 ∧ bit (u8 p 2) (a.lane n).rx.rateClass = true) →
    exec (.sdiRxConfig rq) s = .next (finish 0x2002 rq (ok (a.onLane n (fun l =>
      { l with rxRates := u8 p 2, rxEnable := u8 p 3 = 1, ancDropBad := u8 p 4 = 1 }))))) ∧
  (∀ rq s a p n k, Served 0x2003 rq s a → rq.payload = p → p.length = 12 → n = u16 p 0 → n ≤ 255 → u8 p 4 ≤ 2 → u8 p 5 ≤ 2 → u16 p 6 = 0 →
    formatClass (u8 p 2) (u8 p 3) = some k → -41708332 ≤ s32 p 8 → s32 p 8 ≤ 41708332 → (a.lane n).role = .sdi →
    linksOf (u8 p 3) = (if (a.lane n).txBond = 0 then 1 else (a.lane n).txBond) →
    k = 0 ∨ ratePulled (u8 p 2 % 16) = a.octantFamily (n / 8) →
    exec (.sdiTxConfig rq) s = .next (finish 0x2003 rq (ok (a.onLane n (fun l =>
      { l with
        txFormat := u8 p 2
        txCarriage := u8 p 3
        txMode := u8 p 4
        tcMode := u8 p 5
        txOffset := s32 p 8
        txEntry := if l.txEntry.cls = k then l.txEntry else a.tableEntry n k }))))) ∧
  (∀ rq s a p, Served 0x2004 rq s a → rq.payload = p → p.length = 4 → u8 p 0 ≤ 31 → u8 p 1 ≤ 1 → u16 p 2 = 0 →
    (∀ n ∈ laneRange (8 * u8 p 0) 8, (a.lane n).fastOutput = false) →
    exec (.octantFamily rq) s = .next (finish 0x2004 rq (ok (a.onLanes (fun l =>
      { l with family := Tbl.put l.family (u8 p 0) (u8 p 1 = 1) }))))) ∧
  (∀ rq s a p n, Served 0x2004 rq s a → rq.payload = p → p.length = 4 → u8 p 0 ≤ 31 → u8 p 1 ≤ 1 → u16 p 2 = 0 →
    n ∈ laneRange (8 * u8 p 0) 8 → (a.lane n).fastOutput = true →
    exec (.octantFamily rq) s = .next (finish 0x2004 rq (fail 8 a))) ∧
  (∀ rq s a p n k, Served 0x2005 rq s a → rq.payload = p → p.length = 4 → n = u16 p 0 → k = u8 p 3 → n ≤ 255 → u8 p 2 = 1 →
    (k = 2 ∧ n % 2 = 0) ∨ (k = 4 ∧ n % 4 = 0) →
    (∀ i ∈ laneRange n k, (a.lane i).role = .sdi ∧ (a.lane i).txBond = 0) →
    exec (.bondSet rq) s = .next (finish 0x2005 rq (ok (each (laneRange n k) (fun i s => s.onLane i (fun l =>
      { l with txBond := k, txBondFirst := n })) a)))) ∧
  (∀ rq s a p n, Served 0x2006 rq s a → rq.payload = p → n = u16 p 0 → n ≤ 255 → u8 p 2 ≤ 8 → u8 p 3 = 0 → p.length = 4 + 2 * u8 p 2 →
    (a.lane n).role = .sdi →
    exec (.ancFilterSet rq) s = .next (finish 0x2006 rq (ok (a.onLane n (fun l =>
      { l with filter := (records p 4 2 (u8 p 2)).map (fun r => (u8 r 0, u8 r 1)) })))))

/-- The lane table (R106 to R109, R118): pieces are staged, a commit of a valid table waits for flash, its end puts the table in
use, in flash and in keep memory, and a TIMEOUT leaves the table in use and erases the flash copy. -/
def Obligations.LaneTableIsCommitted : Prop :=
  (∀ rq s a p, Served 0x2007 rq s a → rq.payload = p → 1 ≤ u16 p 4 → u16 p 4 ≤ 4000 → u32 p 0 + u16 p 4 ≤ 20512 →
    p.length = 8 + u16 p 4 → u16 p 6 = 0 →
    exec (.laneTableWrite rq) s = .next (finish 0x2007 rq (ok (a.onLanes (fun l =>
      { l with staging := Memory.writeN l.staging (u32 p 0) (p.drop 8) }))))) ∧
  (∀ rq s a p, Served 0x2008 rq s a → rq.payload = p → p.length = 4 → a.lanes.commit = none → tableOk a.lanes.staging = true →
    u32 p 0 = fld (Memory.readN a.lanes.staging 28 4) 0 4 →
    exec (.laneTableCommit rq) s = .next (finish 0x2008 rq (accepted ((a.journalIntent 1).onLanes (fun l =>
      { l with commit := some (handleOf 0x2008 rq), committing := l.staging }))))) ∧
  (∀ s h, s.lanes.commit = some h →
    exec .laneTableCommitDone s = .next ((((s.journalDone 1).onLanes (fun l =>
      { l with
        inUse := some { bytes := s.lanes.committing }
        flash := some { bytes := s.lanes.committing }
        keep := some { bytes := s.lanes.committing }
        source := 0
        staging := s.lanes.committing
        commit := none
        committing := [] })).complete h 0 []).wakeCause8)) ∧
  (∀ s h, s.lanes.commit = some h →
    exec .laneTableCommitTimeout s = .next ((((s.journalIntent 1).journalDone 1).onLanes (fun l =>
      { l with flash := none, commit := none, committing := [] })).complete h 13 []))

/-- What the lane commands report (R106, R110, R118): LANE_TABLE_INFO, LANE_INFO and SDI_RX_STATUS change nothing.
What an SDI receiver reports (R101, R102, R104, R119): lock and its loss, a change of format within a class, a payload ID that
disagrees with the structure, and a bond whose members lie too far apart. -/
def Obligations.LanesAndReceiversReport : Prop :=
  (∀ rq s a t, Served 0x2009 rq s a → rq.payload = [] → a.lanes.inUse = some t →
    exec (.laneTableInfo rq) s = .next (finish 0x2009 rq (okWith (bytes [a.lanes.source, 0]
      ++ leBytes 2 (u16 (Memory.readN t.bytes 0 32) 6) ++ leBytes 4 (u32 (Memory.readN t.bytes 0 32) 8)
      ++ leBytes 4 (u32 (Memory.readN t.bytes 0 32) 28) ++ zeros 4) a))) ∧
  (∀ rq s a p, Served 0x200A rq s a → rq.payload = p → p.length = 4 → u16 p 2 ≠ 0 → u16 p 0 + u16 p 2 ≤ 256 →
    exec (.laneInfo rq) s = .next (finish 0x200A rq (okWith (leBytes 2 (u16 p 2) ++ zeros 2
      ++ (laneRange (u16 p 0) (u16 p 2)).flatMap (fun n =>
        leBytes 2 n ++ bytes [(a.lane n).role.code, a.laneState n, (a.lane n).rxBond + 16 * (a.lane n).txBond,
          flag (a.octantFamily (n / 8))] ++ leBytes 2 (cdiv (a.lanePower n).1 100))) a))) ∧
  (∀ rq s a p, Served 0x200B rq s a → rq.payload = p → p.length = 4 → u16 p 2 ≠ 0 → u16 p 2 ≤ 127 → u16 p 0 + u16 p 2 ≤ 256 →
    exec (.sdiRxStatus rq) s = .next (finish 0x200B rq (okWith (leBytes 2 (u16 p 2) ++ zeros 2
      ++ (laneRange (u16 p 0) (u16 p 2)).flatMap (fun n => a.rxRecord n)) a))) ∧
  (∀ lane k family format carriage s, (s.lane lane).rx.locked = false → s.mayLock lane k = true → (s.lane lane).rxBond = 0 →
    exec (.rxLock lane k family format carriage) s = .next ((s.onLane lane (fun l =>
      { l with
        equaliser := k
        rxEntry := s.entryFor l.rxEntry lane k
        rx :=
          { l.rx.unlocked with
            carrier := true
            cdr := true
            locked := true
            rateClass := k
            family := family
            format := format
            carriage := carriage % 4
            relocks := if l.rx.cdr then l.rx.relocks else l.rx.relocks + 1 } })).raise 6 1 lane (bytes [k, format, carriage % 4]))) ∧
  (∀ lane cause s, (s.lane lane).rx.locked = true → (s.lane lane).rxBond = 0 → cause ≠ 3 →
    exec (.rxLoss lane cause) s = .next ((s.onLane lane (fun l =>
      { l with rx := { l.rx.unlocked with carrier := l.rx.carrier && cause != 1 } })).raise 6 2 lane (bytes [cause]))) ∧
  (∀ lane s, (s.lane lane).rx.locked = true → (s.lane lane).rxBond = 0 →
    exec (.rxLoss lane 3) s = .next ((s.onLane lane (fun l =>
      { l with
        rx :=
          { l.rx.unlocked with
            cdr := l.rx.cdr
            rateClass := l.rx.rateClass
            family := l.rx.family
            carrier := l.rx.carrier } })).raise 6 2 lane (bytes [3]))) ∧
  (∀ lane cause s, (s.lane lane).rx.locked = false → exec (.rxLoss lane cause) s = .next s) ∧
  (∀ lane format carriage s, (s.lane lane).rx.locked = true → (s.lane lane).rx.format ≠ format →
    format = 0 ∨ formatClass format (carriage % 4) = some (s.lane lane).rx.rateClass →
    exec (.formatChange lane format carriage) s = .next ((s.onLane lane (fun l =>
      { l with rx := { l.rx with format := format, carriage := carriage % 4 + l.rx.carriage / 4 * 4, measured := false, inBand := 0 } })).raise 6 3 lane
      (bytes [(s.lane lane).rx.format, format]))) ∧
  (∀ lane id format sampling carriage s, (s.lane lane).rx.locked = true → (s.lane lane).rx.pidMismatch = false →
    format ≠ (s.lane lane).rx.format →
    ∃ t : State, exec (.payloadIdReceived lane true id format sampling carriage) s = .next (t.raise 6 5 lane
        (leBytes 4 id ++ bytes [(s.lane lane).rx.format])) ∧
      (t.lane lane).rx.pidMismatch = true ∧ (t.lane lane).rx.payloadId = id ∧ (t.lane lane).rx.format = (s.lane lane).rx.format) ∧
  (∀ lane skew s, (s.lane lane).rxBond ≠ 0 → (s.lane lane).rxBondFirst = lane → (s.lane lane).rx.bondOk = true → 128 < skew →
    ∃ t : State, exec (.bondSkew lane skew false) s = .next (t.raise 6 4 lane (leBytes 2 skew)) ∧
      ∀ i, i ∈ s.rxMembers lane → (t.lane i).rx.bondOk = false)

/-- MAC settings (R120, R124, R138, R139, R143): MAC_CONFIG writes a MAC that no sender and no PTP port uses, whose lanes are all in
role ETH and owned by no other MAC; its link stays up only where mode, lanes and FEC stay. MAC_FILTER_SET and PTP_PORT_SET write
their settings, and MAC_STATUS reports. -/
def Obligations.MacSettingsAreWritten : Prop :=
  (∀ rq s a p n, Served 0x4001 rq s a → rq.payload = p → p.length = 20 → n = u8 p 0 → n ≤ 63 → u8 p 1 ≤ 2 → u16 p 2 ≤ 255 → u8 p 4 ≤ 7 →
    1518 ≤ u16 p 6 → u16 p 6 ≤ 9216 → u16 p 14 = 0 → u8 p 16 ≤ 3 → fld p 17 3 = 0 → u8 p 1 = 2 → u16 p 2 % 4 = 0 → a.macUsed n = false →
    (∀ l ∈ macLanesOf (u8 p 1) (u16 p 2), (a.lane l).role = .eth) →
    Tbl.has a.eth.macs (fun k m => k != n && m.lanes.any (macLanesOf (u8 p 1) (u16 p 2)).contains) = false →
    (a.mac n).mode ≠ .r100 →
    exec (.macConfig rq) s = .next (finish 0x4001 rq (ok (a.onMac n (fun m =>
      { m with
        mode := .r100
        firstLane := u16 p 2
        fec := bit (u8 p 4) 0
        preempt := bit (u8 p 4) 1
        honourMedia := bit (u8 p 4) 2
        mediaMask := u8 p 5
        mtu := u16 p 6
        station := (p.drop 8).take 6
        fragSize := u8 p 16
        linkUp := false
        preemptActive := false }))))) ∧
  (∀ rq s a p, Served 0x4002 rq s a → rq.payload = p → u8 p 0 ≤ 63 → u8 p 1 ≤ 16 → p.length = 4 + 8 * u8 p 1 → u8 p 2 ≤ 7 → u8 p 3 = 0 →
    (∀ r ∈ records p 4 8 (u8 p 1), u16 r 6 = 0) →
    exec (.macFilterSet rq) s = .next (finish 0x4002 rq (ok (a.onMac (u8 p 0) (fun m =>
      { m with
        filter := (records p 4 8 (u8 p 1)).map (fun r => r.take 6)
        acceptBcast := bit (u8 p 2) 0
        acceptMcast := bit (u8 p 2) 1
        promiscuous := bit (u8 p 2) 2 }))))) ∧
  (∀ rq s a p, Served 0x4003 rq s a → rq.payload = p → p.length = 4 → u8 p 0 ≤ 63 → fld p 1 3 = 0 →
    exec (.macStatus rq) s = .next (finish 0x4003 rq (okWith (a.macStatus (u8 p 0)) a))) ∧
  (∀ rq s a p, Served 0x400E rq s a → rq.payload = p → p.length = 8 → u8 p 0 ≤ 1 → u8 p 1 ≤ 63 → (a.mac (u8 p 1)).mode ≠ .off → u8 p 2 ≤ 1 →
    u8 p 3 = 0 →
    exec (.ptpPortSet rq) s = .next (finish 0x400E rq (ok (a.onEth (fun e =>
      if u8 p 0 = 0 then { e with ptp0 := { mac := u8 p 1, oneStep := u8 p 2 = 1, asymPs := s32 p 4 } }
      else { e with ptp1 := { mac := u8 p 1, oneStep := u8 p 2 = 1, asymPs := s32 p 4 } })))))

/-- The classifier and its rebuild (R125 to R130): an entry goes to the lowest free way of its set, a full set refuses it with
RESOURCE, a plain change during a rebuild is refused with BUSY_REBUILD, and the commit swaps the banks and empties the former
standing bank. -/
def Obligations.ClassifierBanksAreKept : Prop :=
  (∀ rq s a p e k, Served 0x4004 rq s a → rq.payload = p → p.length = 28 → clsOk p = true → u8 p 24 = 0 → fld p 25 3 = 0 → e = parseCls p →
    a.eth.rebuild = false → findWay a.eth.standing e = none → freeWay a.eth.standing e = some k →
    exec (.clsEntrySet rq) s = .next (finish 0x4004 rq (ok (a.onEth (fun x =>
      { x with standing := Tbl.upd x.standing k {} (fun w => { entry := some e, generation := w.generation + 1, lastHit := a.now }) }))))) ∧
  (∀ rq s a p e, Served 0x4004 rq s a → rq.payload = p → p.length = 28 → clsOk p = true → u8 p 24 = 0 → fld p 25 3 = 0 → e = parseCls p →
    a.eth.rebuild = false → findWay a.eth.standing e = none → freeWay a.eth.standing e = none →
    exec (.clsEntrySet rq) s = .next (finish 0x4004 rq (fail 16 a))) ∧
  (∀ rq s a p, Served 0x4004 rq s a → rq.payload = p → p.length = 28 → clsOk p = true → u8 p 24 = 0 → fld p 25 3 = 0 → a.eth.rebuild = true →
    exec (.clsEntrySet rq) s = .next (finish 0x4004 rq (fail 14 a))) ∧
  (∀ rq s a p, Served 0x4005 rq s a → rq.payload = p → p.length = 4 → u8 p 0 ≤ 1 → fld p 1 3 = 0 → a.eth.rebuild = false →
    exec (.clsRebuildOpen rq) s = .next (finish 0x4005 rq (ok (a.onEth (fun x =>
      { x with rebuild := true, shadow := if u8 p 0 = 1 then x.standing else emptyBank x.shadow }))))) ∧
  (∀ rq s a p b, Served 0x4006 rq s a → rq.payload = p → 1 ≤ u16 p 0 → u16 p 0 ≤ 170 → p.length = 4 + 24 * u16 p 0 → u16 p 2 = 0 →
    (records p 4 24 (u16 p 0)).all clsOk = true → a.eth.rebuild = true →
    addAll a.now ((records p 4 24 (u16 p 0)).map parseCls) a.eth.shadow = (0, b) →
    exec (.clsRebuildWrite rq) s = .next (finish 0x4006 rq (ok (a.onEth (fun x => { x with shadow := b }))))) ∧
  (∀ rq s a p, Served 0x4007 rq s a → rq.payload = p → p.length = 4 → u8 p 0 = 0 → fld p 1 3 = 0 → a.eth.rebuild = true →
    ∃ t : State, exec (.clsRebuildCommit rq) s = .next (finish 0x4007 rq (ok t)) ∧ t.eth.rebuild = false ∧
      t.eth.shadow = emptyBank a.eth.standing ∧ t.eth.standing = Tbl.map a.eth.shadow (fun _ w => { w with lastHit := a.now })) ∧
  (∀ rq s a p, Served 0x4007 rq s a → rq.payload = p → p.length = 4 → u8 p 0 = 1 → fld p 1 3 = 0 → a.eth.rebuild = true →
    exec (.clsRebuildCommit rq) s = .next (finish 0x4007 rq (ok (a.onEth (fun x =>
      { x with rebuild := false, shadow := emptyBank x.shadow }))))) ∧
  (∀ rq s a p, Served 0x4008 rq s a → rq.payload = p → p.length = 4 → u8 p 0 ≤ 1 → u8 p 1 = 0 → u16 p 2 ≤ 511 →
    exec (.clsRead rq) s = .next (finish 0x4008 rq (okWith ((List.range 8).flatMap (fun w =>
      clsBytes (Tbl.at (if u8 p 0 = 0 then a.eth.standing else a.eth.shadow) (8 * u16 p 2 + w) {}))) a))) ∧
  (∀ set way at_ s e, (Tbl.at s.eth.standing (8 * set + way) {}).entry = some e → e.ageLimit ≠ 0 →
    (Tbl.at s.eth.standing (8 * set + way) {}).lastHit + e.ageLimit * 10000000 ≤ (s.advance at_).now →
    exec (.entryAged set way at_) s = .next (((s.advance at_).onEth (fun x =>
      { x with standing := Tbl.put x.standing (8 * set + way) (Tbl.at s.eth.standing (8 * set + way) {}).removed })).raise 11 4 (8 * set + way)
      (leBytes 4 e.dstIp ++ leBytes 2 e.dstPort ++ leBytes 2 e.flow)))

/-- Flow configuration and status (R132 to R137, R143): a receive flow takes its configuration at once unless it is being received, when it
takes it at its next frame; a running sender takes it at its next frame, another at once; and a
flow without a packet for one frame period is lost once. -/
def Obligations.FlowsAreConfigured : Prop :=
  (∀ rq s a p n, Served 0x4009 rq s a → rq.payload = p → p.length = 20 → n = u16 p 0 → n ≤ 1023 → u8 p 2 = 1 → formatKnown (u8 p 3) = true →
    u8 p 4 = 0 → u8 p 5 ≤ 1 → u16 p 6 = 0xFFFF → u32 p 12 ≤ 20000 → u8 p 17 ≤ 3 → u16 p 18 = 0 →
    ∃ c : RxFlowCfg, c.kind = 1 ∧ c.param = u8 p 3 ∧ c.payloadType = 0 ∧ c.ssrcCheck = bit (u8 p 5) 0 ∧ c.ssrc = u32 p 8 ∧
      c.skewUs = u32 p 12 ∧
      exec (.rxFlowConfig rq) s = .next (finish 0x4009 rq (ok (a.onRx n (fun f =>
        if f.cfg.kind != 0 && f.present then { f with staged := some c } else f.apply c))))) ∧
  (∀ rq s a p n, Served 0x400A rq s a → rq.payload = p → p.length = 64 → n = u16 p 0 → n ≤ 1023 → u8 p 2 = 2 → 1 ≤ u8 p 3 → u8 p 3 ≤ 64 →
    u8 p 4 = 1 → 96 ≤ u8 p 5 → u8 p 5 ≤ 127 → u8 p 6 ≤ 1 → u8 p 7 ≤ 3 → pathOk true (p.drop 16) = true → pathOk false (p.drop 40) = true →
    (a.mac (parsePath (p.drop 16)).mac).mode ≠ .off → (a.txFlow n).running = true → a.txIdle n = false →
    ∃ c : TxFlowCfg, c.kind = 2 ∧ c.param = u8 p 3 ∧ c.enable = true ∧ c.pathB = false ∧ c.payloadType = u8 p 5 ∧ c.ssrc = u32 p 8 ∧
      c.a = parsePath (p.drop 16) ∧
      exec (.txFlowConfig rq) s = .next (finish 0x400A rq (ok (a.onTx n (fun f => { f with staged := some c }))))) ∧
  (∀ rq s a p, Served 0x400B rq s a → rq.payload = p → p.length = 4 → u8 p 0 ≤ 1 → u8 p 1 = 0 → u16 p 2 ≤ 1023 →
    exec (.flowStatus rq) s = .next (finish 0x400B rq (okWith (a.flowStatus (u8 p 0) (u16 p 2)) a))) ∧
  (∀ n at_ s, (s.rxFlow n).cfg.kind ≠ 0 → (s.rxFlow n).lost = false → (s.rxFlow n).staged = none →
    exec (.flowLoss n at_) s = .next (((s.advance at_).onRx n (fun f => { f with present := false, lost := true })).raise 11 6 n
      (leBytes 4 (s.rxFlow n).packetsA.toNat ++ leBytes 4 (s.rxFlow n).packetsB.toNat))) ∧
  (∀ n at_ s, (s.rxFlow n).lost = true → exec (.flowLoss n at_) s = .next (s.advance at_))

/-- Frames and packets sent (R131, R135 to R137, R141): FRAME_TX without an instant leaves at once, waits while its
priority is paused (DESIGN CHOICE, log 155), and with an instant is armed, its launch
completes it with the actual instant, FRAME_RX_READ takes the frames it returns out of the queue, and every packet a sender launches
counts its sequence number on.
What a MAC receives and what its link does (R120, R122, R124, R138, R139, R144): a bad frame is counted, a frame that the filter
stops is counted, a pause ends, a link comes up with its lanes in role ETH, and goes down with an event. -/
def Obligations.FramesLeaveAndArrive : Prop :=
  (∀ rq s a p, Served 0x400C rq s a → rq.payload = p → u8 p 0 ≤ 63 → u8 p 1 = 0 → 14 ≤ u16 p 2 → u16 p 2 ≤ 2044 → p.length = 16 + u16 p 2 →
    u32 p 12 < 1000000000 → (a.mac (u8 p 0)).mode ≠ .off → (a.mac (u8 p 0)).linkUp = true → timeAt p 4 12 = 0 → a.twin.role ≠ .standby →
    a.paused (u8 p 0) (framePrio (p.drop 16)) = false →
    exec (.frameTx rq) s = .next (finish 0x400C rq (ok ((a.onPorts (fun q =>
      { q with ethOut := q.ethOut ++ [{ mac := u8 p 0, at_ := a.now, frame := withFcs (p.drop 16) }] })).onMac (u8 p 0)
      (fun m => { m with txFrames := m.txFrames + 1 }))))) ∧
  (∀ rq s a p, Served 0x400C rq s a → rq.payload = p → u8 p 0 ≤ 63 → u8 p 1 = 0 → 14 ≤ u16 p 2 → u16 p 2 ≤ 2044 → p.length = 16 + u16 p 2 →
    u32 p 12 < 1000000000 → (a.mac (u8 p 0)).mode ≠ .off → (a.mac (u8 p 0)).linkUp = true → a.now + 50000 ≤ timeAt p 4 12 → timeAt p 4 12 ≠ 0 →
    exec (.frameTx rq) s = .next (finish 0x400C rq (accepted (a.onMac (u8 p 0) (fun m =>
      { m with launches := m.launches ++ [{ due := timeAt p 4 12, frame := p.drop 16, handle := handleOf 0x400C rq }] }))))) ∧
  (∀ rq s a p l, Served 0x400D rq s a → rq.payload = p → p.length = 4 → 1 ≤ u8 p 0 → u8 p 0 ≤ 2 → fld p 1 3 = 0 →
    l = takeFrames (u8 p 0) 4092 a.eth.exceptions →
    exec (.frameRxRead rq) s = .next (finish 0x400D rq (okWith (bytes [l.length, a.eth.dropped, 0, 0]
      ++ l.flatMap (fun f => bytes [f.mac, 0] ++ leBytes 2 f.data.length ++ f.data))
      (a.onEth (fun e => { e with exceptions := e.exceptions.drop l.length }))))) ∧
  (∀ n due at_ s l, (s.mac n).launches.find? (fun l => l.due = due) = some l → (s.mac n).linkUp = true → s.twin.role ≠ .standby →
    (s.advance at_).paused n (framePrio l.frame) = false →
    exec (.frameLaunch n due at_) s = .next ((((s.advance at_).onMac n (fun m =>
      { m with launches := m.launches.erase l })).sendFrame n l.frame).complete l.handle 0 (timeBytes (s.advance at_).now))) ∧
  (∀ rq s a p h, Served 0x400C rq s a → rq.payload = p → u8 p 0 ≤ 63 → u8 p 1 = 0 → 14 ≤ u16 p 2 → u16 p 2 ≤ 2044 → p.length = 16 + u16 p 2 →
    u32 p 12 < 1000000000 → (a.mac (u8 p 0)).mode ≠ .off → (a.mac (u8 p 0)).linkUp = true → timeAt p 4 12 = 0 → a.twin.role ≠ .standby →
    a.paused (u8 p 0) (framePrio (p.drop 16)) = true →
    h = ({ prio := framePrio (p.drop 16), due := a.now, frame := p.drop 16, flow := none, handle := none } : HeldFrame) →
    exec (.frameTx rq) s = .next (finish 0x400C rq (ok (a.onMac (u8 p 0) (fun m => { m with held := m.held ++ [h] }))))) ∧
  (∀ n wa wb at_ s u k, (s.txFlow n).cfg.kind = 2 → (s.txFlow n).cfg.enable = true → (s.txFlow n).staged = none →
    s.txIdle n = false → s.group 1 = .run → s.power.state = .run → (s.advance at_).nextPacket n = (u, k) →
    (s.txFlow n).cfg.startOf ((s.advance at_).senderRate n) u ≤ (s.advance at_).now →
    ∃ t, exec (.packetLaunch n wa wb at_) s = .next t ∧ (t.txFlow n).running = true ∧ (t.txFlow n).lastFrame = some u ∧
      (t.txFlow n).seq = ((s.txFlow n).seq + 1) % 2 ^ 32 ∧ (t.txFlow n).cfg = (s.txFlow n).cfg) ∧
  (∀ n frame at_ s, n ≤ 63 → (s.mac n).mode ≠ .off → (s.mac n).linkUp = true → s.group 1 ≠ .dormant → (s.mac n).frameOk frame = false →
    exec (.ethFrameReceived n frame at_) s = .next (((s.advance at_).onMac n (Mac.countFec n)).onMac n (fun m => { m with fcsErrors := m.fcsErrors + 1 }))) ∧
  (∀ n frame at_ s f, n ≤ 63 → (s.mac n).mode ≠ .off → (s.mac n).linkUp = true → s.group 1 ≠ .dormant → (s.mac n).frameOk frame = true →
    f = frame.take (frame.length - 4) → fldBe f (vlanOf f).2 2 ≠ 0x8808 → (s.mac n).passes f = true → (parseUdp f) = none →
    exec (.ethFrameReceived n frame at_) s = .next ((((s.advance at_).onMac n (Mac.countFec n)).onMac n (fun m => { m with rxFrames := m.rxFrames + 1 })).exception n f)) ∧
  (∀ n priority at_ s, exec (.pauseExpiry n priority at_) s = .next (((s.advance at_).onMac n (fun m =>
    { m with pauses := m.pauses.filter (fun e => e.1 != priority || (s.advance at_).now < e.2.until_) })).releaseHeld n)) ∧
  (∀ n passed s, (s.mac n).preempt = true → (s.mac n).linkUp = true →
    exec (.preemptVerify n passed) s = .next ((s.onMac n (fun m => { m with preemptActive := passed })).raise 11 3 n (bytes [flag passed]))) ∧
  (∀ n s, (s.mac n).mode ≠ .off → (s.mac n).linkUp = false → (∀ l ∈ (s.mac n).lanes, (s.lane l).role = .eth) → s.group 0 ≠ .dormant →
    s.group 1 ≠ .dormant → s.power.state ≠ .dormant →
    exec (.linkUp n) s = .next ((s.onMac n (fun m => { m with linkUp := true })).raise 11 1 n
      (bytes [(s.mac n).mode.code, flag (s.mac n).fec]))) ∧
  (∀ n cause s, (s.mac n).linkUp = true →
    exec (.ethLinkDown n cause) s = .next (each (s.mac n).held (fun h s => s.completeOpt h.handle 10 (timeBytes s.now))
      ((s.onMac n (fun m => { m with linkUp := false, preemptActive := false, held := [] })).raise 11 2 n (bytes [cause]))))

/-- Receiver alignment (R155, R156): LOS to COMMA on a signal, the second K28.5 at one position freezes the alignment, 32 valid headers
lock the lane, eight invalid headers of the last 64 lose the lock, and 1 ms of HUNT starts again. -/
def Obligations.ReceiversAlign : Prop :=
  (∀ n s t, n < 256 → (s.lane n).role = .voxad → (s.lane n).align = .los →
    t = each (s.linksOn n) (fun k s => s.wakeFor k) ((s.onLane n (fun l => { l with signal := true })).onLane n (fun l =>
      { l with align := .comma, commas := 0, headers := 0, badHeaders := [] })) →
    exec (.signalDetected n) s = .next (if bit t.power.octantMask (n / 8) then t.wake 1 n else t)) ∧
  (∀ n s, n < 256 → (s.lane n).role = .voxad → (s.lane n).align ≠ .locked →
    exec (.signalLost n) s = .next ((s.onLane n (fun l => { l with signal := false })).onLane n (fun l =>
      { l with align := .los, commas := 0, headers := 0, badHeaders := [] }))) ∧
  (∀ n s, n < 256 → (s.lane n).role = .voxad → (s.lane n).align = .comma → 1 ≤ (s.lane n).commas →
    exec (.commaDetected n true) s = .next (s.onLane n (commaDetected true)) ∧
      commaDetected true (s.lane n) = { s.lane n with align := .hunt, commas := 0, headers := 0, badHeaders := [] }) ∧
  (∀ n seen s, n < 256 → (s.lane n).role = .voxad → (s.lane n).align = .hunt → 31 ≤ (s.lane n).headers →
    headerValid seen true (((s.lane n).sequence + 1) % 16) = true →
    ∃ t, exec (.blockHeader n seen) s = .next t ∧ (t.lane n).align = .locked ∧ (t.lane n).sequence = seen.typeSeq.toNat % 16) ∧
  (∀ n seen s, n < 256 → (s.lane n).role = .voxad → (s.lane n).align = .locked →
    headerValid seen true (((s.lane n).sequence + 1) % 16) = true →
    exec (.blockHeader n seen) s = .next ((s.countCharErrors n seen.codeErrors seen.disparityErrors).onLane n (fun l =>
      { l with
        badHeaders := (false :: (s.lane n).badHeaders).take 64
        sequence := seen.typeSeq.toNat % 16 }))) ∧
  (∀ n seen s, n < 256 → (s.lane n).role = .voxad → (s.lane n).align = .locked → s.linksOn n = [] →
    headerValid seen true (((s.lane n).sequence + 1) % 16) = false →
    8 ≤ (((true :: (s.lane n).badHeaders).take 64).filter (fun b => b)).length →
    ∃ t, exec (.blockHeader n seen) s = .next t ∧ (t.lane n).align = .comma) ∧
  (∀ n s, n < 256 → (s.lane n).role = .voxad → (s.lane n).align = .hunt →
    exec (.huntTimeout n) s = .next (s.onLane n (fun l => { l with align := .comma, commas := 0, headers := 0, badHeaders := [] })))

/-- Link training (R158 to R160): the wake burst ends in TRAIN at class 6, STEP ends in TRAIN at the new class, 2 ms without lock
above class 6 marks the class failed and steps down, 50 ms without a peer ends in DOWN with cause 5, a link in DOWN tries again, and
TRAIN data whose CRC is wrong changes nothing. -/
def Obligations.LinksTrain : Prop :=
  (∀ n s, (s.link n).state = .wake →
    exec (.wakeBurstEnd n) s = .next ((s.onLink n (fun l =>
      { l with
        state := .train
        rateClass := 6
        failMask := 0
        readyRun := 0
        doneRun := 0
        sentRun := 0 })).sendTrain n)) ∧
  (∀ n s, (s.link n).state = .step →
    ∃ t, exec (.retuneComplete n) s = .next t ∧ (t.link n).state = .train ∧ (t.link n).rateClass = (s.link n).stepTo ∧
      (t.link n).peer.rxLocked = false) ∧
  (∀ n s, (s.link n).state = .train → 6 < (s.link n).rateClass → s.lockedBoth n = false →
    ∃ t, exec (.stepTimeout n) s = .next t ∧ (t.link n).state = .step ∧ bit (t.link n).failMask ((s.link n).rateClass - 6) = true ∧
      (t.link n).counters.fallbacks = (s.link n).counters.fallbacks + 1) ∧
  (∀ n s, (s.link n).state = .train → (s.link n).rateClass = 6 → s.lockedBoth n = false →
    exec (.noPeerTimeout n) s = .next ((s.onLink n (fun l => { l with state := .down, cause := 5 })).failHeld n)) ∧
  (∀ n s, (s.link n).state = .down → (s.link n).cause = 5 → s.lanesAwake = true →
    exec (.linkRetry n) s = .next (s.linkWake n 5)) ∧
  (∀ n s, (s.link n).state = .down → (s.link n).cause = 9 → s.lanesAwake = true →
    exec (.linkTrafficQueued n) s = .next (s.linkWake n 9)) ∧
  (∀ n s, (s.link n).state = .up →
    exec (.linkDown ⟨n, true⟩ 3) s = .next ((s.onLink n (fun l => { l with state := .down, cause := 9 })).linkDownActions n 9)) ∧
  (∀ n m b s, n < 64 → m < widthLanes (s.link n).width → b.length = 60 → crc32c (b.take 56) = u32 b 56 → (s.link n).state = .train →
    6 < (s.link n).rateClass → s.rxLocked n = false → (parseTrain b).refuse = false →
    ∃ t, exec (.trainBlockReceived n m b) s = .next t ∧ (t.link n).peer = parseTrain b ∧ (t.link n).state = .train ∧
      (t.link n).readyRun = 0 ∧ (t.link n).doneRun = 0) ∧
  (∀ n m b s, b.length = 60 → crc32c (b.take 56) ≠ u32 b 56 → exec (.trainBlockReceived n m b) s = .next s)

/-- Credits, HOLD and CONTROL messages on an UP link (R150, R154, R161, R163): CREDIT stores the cumulative count and lets what waits go,
HOLD sets the instants until which VC1 and VC2 wait, VC0 only where it is honoured, an unknown message is counted, a message of
a CONTROL block that is not intact has no effect, and a VC block beyond the credit given is counted and dropped. -/
def Obligations.LinksKeepCredit : Prop :=
  (∀ n vc k s, (s.link n).state = .up → 1 ≤ vc → vc ≤ 3 →
    exec (.credit ⟨n, true⟩ vc k) s = .next (((s.countLink n).onLink n (fun l =>
      l.onCredit vc (fun c => { c with freed := k % 65536 }))).drain n)) ∧
  (∀ n k v us s, exec (.credit ⟨n, false⟩ v k) s = .next s ∧ exec (.hold ⟨n, false⟩ k us) s = .next s ∧
    exec (.linkDown ⟨n, false⟩ k) s = .next s ∧ exec (.unknownControl ⟨n, false⟩ k) s = .next s) ∧
  (∀ n us s, (s.link n).state = .up → us ≠ 0 → (s.link n).honourVc0 = false →
    exec (.hold ⟨n, true⟩ 7 us) s = .next (((s.countLink n).onLink n (fun l =>
      { l with
        held1 := s.now + us * 1000
        held2 := s.now + us * 1000
        counters := { l.counters with holdsReceived := l.counters.holdsReceived + 1, holdsIgnored := l.counters.holdsIgnored + 1 } })).drain
        n)) ∧
  (∀ n k s, (s.link n).state = .up → 3 < k →
    exec (.unknownControl ⟨n, true⟩ k) s = .next (s.onLink n (fun l =>
      { l with counters := { l.counters with unknownControl := l.counters.unknownControl + 1 } }))) ∧
  (∀ n s, (s.link n).state = .up → (s.link n).vc1.returned ≠ (s.link n).vc1.told → (s.link n).vc2.returned = (s.link n).vc2.told →
    (s.link n).vc3.returned = (s.link n).vc3.told →
    exec (.creditSend n) s = .next ((s.sendControl n (bytes [1, 1] ++ leBytes 2 (s.link n).vc1.returned)).onLink n (fun l =>
      { l with vc1 := { l.vc1 with told := l.vc1.returned } }))) ∧
  (∀ n at_ s, (s.link n).state = .up → (s.link n).holding ≠ 0 → (s.advance at_).now < (s.link n).holdUntil →
    exec (.holdRepeat n at_) s = .next ((s.advance at_).sendControl n (bytes [2, (s.link n).holding]
      ++ leBytes 2 (((s.link n).holdUntil - (s.advance at_).now) / 1000)))) ∧
  (∀ n at_ s, exec (.holdExpiry n at_) s = .next (((s.advance at_).countLink n).drain n)) ∧
  (∀ n b at_ s, (s.link n).state = .up → b.length = 62 →
    128 ≤ ((s.link n).vc1.received + 65536 - (s.link n).vc1.told) % 65536 →
    exec (.vcBlockReceived n 1 b .none at_) s = .next ((s.advance at_).onLink n (fun l =>
      { l with counters := { l.counters with creditErrors := l.counters.creditErrors + 1 } }))) ∧
  (∀ n b at_ s, (s.link n).state = .up → b.length = 62 → 1 ≤ u8 b 1 % 64 → u8 b 1 % 64 ≤ 60 → bit (u8 b 1) 6 = true →
    bit (u8 b 1) 7 = false → ((s.link n).vc2.received + 65536 - (s.link n).vc2.told) % 65536 < 1024 →
    ∃ t, exec (.vcBlockReceived n 2 b .none at_) s = .next t ∧
      (t.link n).partial2 = some { data := (b.drop 2).take (u8 b 1 % 64), bad := false } ∧
      (t.link n).vc2.returned = ((s.link n).vc2.returned + 1) % 65536)

/-- The link commands (R157, R158, R168): LINK_CONFIG gives free lanes in role VOXAD to a link and starts it, refuses a link whose lanes
are not, LINK_STATUS and LINK_COUNTERS report, and LINK_RETRAIN restarts a link, an UP parent link only where it is told to. -/
def Obligations.LinkCommandsAct : Prop :=
  (∀ rq s a p n, Served 0x3001 rq s a → rq.payload = p → p.length = 8 → n = u8 p 0 → n ≤ 63 → u8 p 4 = 1 → u8 p 1 ≤ 3 → u16 p 2 ≤ 255 →
    u16 p 2 % widthLanes (u8 p 1) = 0 → 6 ≤ u8 p 5 → u8 p 5 ≤ 9 → u8 p 6 ≤ 3 → u8 p 7 = 0 →
    (∀ i, i < widthLanes (u8 p 1) → (a.lane (u16 p 2 + i)).role = .voxad ∧ ∀ k ∈ a.linksOn (u16 p 2 + i), k = n) →
    (a.link n).role = .off →
    exec (.linkConfig rq) s = .next (finish 0x3001 rq (ok ((a.onLink n (fun l =>
      { l with
        role := .trunk
        width := u8 p 1
        firstLane := u16 p 2
        maxClass := u8 p 5
        honourVc0 := bit (u8 p 6) 0
        cause := 0
        peer := {}
        failMask := 0
        idleTrunks := 0
        skew := 0 })).startConfigured n)))) ∧
  (∀ rq s a p i, Served 0x3001 rq s a → rq.payload = p → p.length = 8 → u8 p 0 ≤ 63 → 1 ≤ u8 p 4 → u8 p 4 ≤ 4 → u8 p 1 ≤ 3 → u16 p 2 ≤ 255 →
    u16 p 2 % widthLanes (u8 p 1) = 0 → 6 ≤ u8 p 5 → u8 p 5 ≤ 9 → u8 p 6 ≤ 3 → u8 p 7 = 0 → i < widthLanes (u8 p 1) →
    (a.lane (u16 p 2 + i)).role ≠ .voxad →
    exec (.linkConfig rq) s = .next (finish 0x3001 rq (fail 8 a))) ∧
  (∀ rq s a p, Served 0x3002 rq s a → rq.payload = p → p.length = 4 → u8 p 0 ≤ 63 → fld p 1 3 = 0 →
    exec (.linkStatus rq) s = .next (finish 0x3002 rq (okWith (a.linkStatus (u8 p 0)) a))) ∧
  (∀ rq s a p, Served 0x3003 rq s a → rq.payload = p → p.length = 4 → u8 p 0 ≤ 63 → fld p 1 3 = 0 →
    exec (.linkCounters rq) s = .next (finish 0x3003 rq (okWith (a.linkCounters (u8 p 0)) a))) ∧
  (∀ rq s a p n, Served 0x3004 rq s a → rq.payload = p → p.length = 4 → n = u8 p 0 → n ≤ 63 → u8 p 1 = 0 → u16 p 2 = 0 →
    (a.link n).role ≠ .off → (a.link n).state = .down →
    exec (.linkRetrain rq) s = .next (finish 0x3004 rq (ok (((a.onLink n (fun l => { l with state := .wake, cause := 0 })).failHeld
      n).startConfigured n)))) ∧
  (∀ rq s a p n, Served 0x3004 rq s a → rq.payload = p → p.length = 4 → n = u8 p 0 → n ≤ 63 → u8 p 1 = 0 → u16 p 2 = 0 →
    (a.link n).role = .parent → (a.link n).state = .up →
    exec (.linkRetrain rq) s = .next (finish 0x3004 rq (fail 8 a)))

/-- Nodes and joins (R171 to R176, R200): NODE_CONFIG and ROLE_SET write the node ID and the role where no join stands in the way,
HIER_CONFIG its times, the apex answers a JOIN with the planned node ID and installs the route on the link it came from, and a
ROUTE_UPDATE from a child installs its routes and goes on to the primary parent. -/
def Obligations.NodesJoin : Prop :=
  (∀ rq s a p, Served 0x3010 rq s a → rq.payload = p → p.length = 4 → u16 p 0 ≤ 0x3FFE → u16 p 2 = 0 →
    (a.hier.joined = false ∨ a.hier.apexRole = true) → (a.hier.apexRole = false ∨ a.hier.joinedSerials = []) →
    exec (.nodeConfig rq) s = .next (finish 0x3010 rq (ok (a.onKeep (fun k => { k with nodeId := u16 p 0 }))))) ∧
  (∀ rq s a p, Served 0x3010 rq s a → rq.payload = p → p.length = 4 → u16 p 0 ≤ 0x3FFE → u16 p 2 = 0 → a.hier.joined = true →
    a.hier.apexRole = false → exec (.nodeConfig rq) s = .next (finish 0x3010 rq (fail 8 a))) ∧
  (∀ rq s a p, Served 0x3011 rq s a → rq.payload = p → p.length = 4 → u8 p 0 ≤ 1 → fld p 1 3 = 0 → a.hier.roleFixed = false →
    exec (.roleSet rq) s = .next (finish 0x3011 rq (ok (a.onHier (fun h =>
      { h with apexRole := u8 p 0 = 1, tier := 0 }))))) ∧
  (∀ rq s a p, Served 0x3011 rq s a → rq.payload = p → p.length = 4 → u8 p 0 ≤ 1 → fld p 1 3 = 0 → a.hier.roleFixed = true →
    exec (.roleSet rq) s = .next (finish 0x3011 rq (fail 8 a))) ∧
  (∀ rq s a p, Served 0x3012 rq s a → rq.payload = p → p.length = 8 → 1 ≤ u16 p 0 → u16 p 0 ≤ 1000 → 100 ≤ u16 p 2 → u16 p 2 ≤ 10000 →
    1 ≤ u8 p 4 → u8 p 4 ≤ 8 → fld p 5 3 = 0 →
    exec (.hierConfig rq) s = .next (finish 0x3012 rq (ok (a.onHier (fun h =>
      { h with timeoutMs := u16 p 0, commitMarginUs := u16 p 2, relayFanout := u8 p 4 }))))) ∧
  (∀ rq s a, Served 0x3013 rq s a → rq.payload = [] → exec (.hierStatus rq) s = .next (finish 0x3013 rq (okWith a.hierStatus a))) ∧
  (∀ rq s a p, Served 0x3014 rq s a → rq.payload = p → p.length = 4 → 1 ≤ u16 p 2 → u16 p 2 ≤ 2000 → u16 p 0 + u16 p 2 ≤ 16384 →
    exec (.routeRead rq) s = .next (finish 0x3014 rq (okWith (leBytes 2 (u16 p 2) ++ zeros 2 ++ (List.range (u16 p 2)).flatMap (fun i =>
      bytes [(Tbl.at a.hier.routes (u16 p 0 + i) {}).slot0, (Tbl.at a.hier.routes (u16 p 0 + i) {}).slot1])) a))) ∧
  (∀ rq s a p, Served 0x3015 rq s a → rq.payload = p → p.length = 16 → u16 p 0 = 1 → u16 p 2 = 0 → u16 (p.drop 4) 10 = 0 →
    1 ≤ u16 (p.drop 4) 8 → u16 (p.drop 4) 8 ≤ 0x3FFE → a.hier.apexRole = true → a.keep.plan.length < 16382 →
    exec (.nodePlanWrite rq) s = .next (finish 0x3015 rq (ok (a.onKeep (fun k =>
      { k with plan := k.plan.filter (fun e => e.1 != u64 (p.drop 4) 0) ++ [(u64 (p.drop 4) 0, u16 (p.drop 4) 8)] }))))) ∧
  (∀ rq s a p n node t, Served 0x3016 rq s a → rq.payload = p → rq.port = .link n → p.length = 12 → u8 p 11 = 0 → s.hier.apexRole = true →
    a.joinVerdict (u64 p 0) (u16 p 8) = (0, node) →
    t = ((((a.onHier (fun h =>
        { h with joinedSerials := h.joinedSerials.filter (fun e => e.1 != u64 p 0) ++ [(u64 p 0, node)] })).installRoute node n).raise 12
        0x11 node (leBytes 8 (u64 p 0))).resendDecisions node).routesChanged →
    exec (.join rq) s = .next (finish 0x3016 rq (okWith (leBytes 2 node ++ bytes [u8 p 10 + 1, 0] ++ leBytes 2 t.node ++ zeros 2)
      (t.relayNext t.hier.relayFanout)))) ∧
  (∀ n at_ s, (s.advance at_).usableParent n = true → s.hier.joinPending.contains n = false →
    exec (.joinRetry n at_) s = .next ((s.advance at_).sendJoin n)) ∧
  (∀ rq s n p l q r t, rq.port = .link n → rq.payload = p → s.serving rq.port = true → (s.link n).role = .child → u8 p 0 = 1 → u8 p 1 = 0 →
    1 ≤ u16 p 2 → u16 p 2 ≤ 1000 → p.length = 4 + 2 * u16 p 2 → l = updateNodes p → (∀ k ∈ l, 1 ≤ k ∧ k ≤ 0x3FFE) →
    t = (each l (fun k s => s.installRoute k n) s).relayNext s.hier.relayFanout → t.hier.apexRole = false → t.parents = q :: r →
    exec (.routeUpdate rq) s = .next (t.sendRouteUpdate q 1 l)) ∧
  (∀ rq s n p, rq.port = .link n → rq.payload = p → (u8 p 1 ≠ 0 ∨ ∃ k ∈ updateNodes p, k = 0 ∨ 0x3FFE < k) →
    exec (.routeUpdate rq) s = .next s)

/-- Packets between devices (R40, R177 to R183): a REQUEST from a parent that admission lets run goes to its galley, a broken
transaction header is counted as a hop drop, a RESPONSE closes its transaction and answers the port whose command it was, and a
command whose answer or route does not come within timeout_ms ends with TIMEOUT or LINK_LOST. -/
def Obligations.PacketsCrossLinks : Prop :=
  (∀ n vc b s s1 x pkt rq, blocksOf b.length ≤ s.creditRoom n vc → s1 = s.gotBlocks n vc (blocksOf b.length) → x = parseTx b → pkt = b.drop 8 →
    rq = { requestOf (.link n) pkt with vc := vc, txid := x.txid } → (s1.link n).state = .up → (s1.link n).role = .parent →
    txOk b = true → x.content = 0 → x.kind = 0 → s1.serving (.link n) = true → lengthOk pkt = true → crcOk pkt = true →
    u16 pkt 0 ≠ 0x3016 → verdict (u16 pkt 0) rq (s1.received rq) = .run → (s1.received rq).unjoined rq = false →
    exec (.linkPacketReceived n vc b) s = .next ((arrive rq s1).enqueue (u16 pkt 0) rq)) ∧
  (∀ n vc b s, (s.link n).state = .up → s.creditRoom n vc < blocksOf b.length →
    exec (.linkPacketReceived n vc b) s = .next ((s.gotBlocks n vc (s.creditRoom n vc)).onLink n (fun l =>
      { l with counters := { l.counters with
        creditErrors := l.counters.creditErrors + BitVec.ofNat 32 (blocksOf b.length - s.creditRoom n vc) } }))) ∧
  (∀ n vc b s s1, blocksOf b.length ≤ s.creditRoom n vc → s1 = s.gotBlocks n vc (blocksOf b.length) → (s1.link n).state = .up → txOk b = false →
    exec (.linkPacketReceived n vc b) s = .next (s1.onHier (fun h => { h with hopDrops := h.hopDrops + 1 }))) ∧
  (∀ n vc b s s1 t h, blocksOf b.length ≤ s.creditRoom n vc → s1 = s.gotBlocks n vc (blocksOf b.length) → (s1.link n).state = .up → txOk b = true → (parseTx b).kind = 1 →
    (parseTx b).content = 0 → lengthOk (b.drop 8) = true → crcOk (b.drop 8) = true → s1.findTxn n vc (parseTx b).txid = some t →
    t.inLink = none → t.handle = some h → u8 (b.drop 8) 7 ≠ 10 → u8 (b.drop 8) 7 ≠ 12 →
    exec (.linkResponse n vc b) s = .next (((s1.closeTxn n t).portReply h t.replays (b.drop 8)).routesChanged)) ∧
  (∀ n vc x at_ s s1 t, s1 = (s.advance at_).countLink n → s1.findTxn n vc x = some t → t.start + s1.timeoutOf t ≤ (s1.link n).counted vc →
    exec (.transactionTimeout n vc x at_) s = .next (((s1.onHier (fun h =>
      { h with timeouts := h.timeouts + 1 })).closeTxn n t).txnFailed n t 13)) ∧
  (∀ n vc x at_ s s1 t, s1 = (s.advance at_).countLink n → s1.findTxn n vc x = some t → (s1.link n).counted vc < t.start + s1.timeoutOf t →
    exec (.transactionTimeout n vc x at_) s = .next s1) ∧
  (∀ tag orig at_ s w h, s.hier.waiting.find? (fun w =>
      (parseHeader w.packet).tag = tag && (parseHeader w.packet).originator = orig && w.until_ ≤ (s.advance at_).now) = some w →
    w.handle = some h →
    exec (.routeWaitTimeout tag orig at_) s = .next (((s.advance at_).onHier (fun q =>
      { q with waiting := q.waiting.erase w })).portReply h w.replays ((s.advance at_).replyTo w.packet 10)))

/-- System formes at the apex (R184, R185, R187, R190, R191, R200): staging puts a record's bytes, pushing takes a staged forme to
PUSHING, a run of a held forme sends PREPARE to every node, an answer is recorded, the decision instant counts a silent node as refused
with TIMEOUT and aborts unless partial is allowed, and the run completes 2 s after T. -/
def Obligations.SystemFormesRun : Prop :=
  (∀ rq s a p id node n, Served 0x3020 rq s a → rq.payload = p → id = u32 p 0 → node = u16 p 4 → n = u16 p 12 → id ≠ 0 → node ≠ 0 →
    node ≤ 0x3FFE → 1 ≤ n → n ≤ 4000 → p.length = 16 + n → u16 p 6 = 0 → u16 p 14 = 0 → u32 p 8 + n ≤ recordMax →
    a.hier.apexRole = true → Tbl.get? a.hier.sysFormes id = none → a.hier.sysFormes.length < 4 →
    exec (.sysFormeStage rq) s = .next (finish 0x3020 rq (ok (a.onHier (fun h =>
      { h with sysFormes := Tbl.put h.sysFormes id (SysForme.mk 0
          [(node, { record := Memory.writeN [] (u32 p 8) (p.drop 16), size := u32 p 8 + n })] 0 false 0 none none 0 0 0 false) }))))) ∧
  (∀ rq s a p id f node x sb, Served 0x3021 rq s a → sb = decide (a.twin.role = .standby) → rq.payload = p → p.length = 4 → id = u32 p 0 → a.hier.apexRole = true →
    Tbl.get? a.hier.sysFormes id = some f → f.state = 0 → f.nodes = [(node, x)] → node ≠ a.node →
    recordOk id (Memory.read x.record 7).toNat x = true →
    exec (.sysFormePush rq) s = .next (finish 0x3021 rq (accepted (((a.onSysForme id (fun f =>
      { f with
        state := 1
        rate := (Memory.read x.record 7).toNat
        pushHandle := if sb then none else some (handleOf 0x3021 rq)
        nodes := Tbl.map f.nodes (fun _ y => { y with pushed := flag sb, pushStatus := 0 }) })).pushSegment id node 0).pushDone id)))) ∧
  (∀ id s f, Tbl.get? s.hier.sysFormes id = some f → f.state = 1 → (∀ e ∈ f.nodes, e.2.pushed = 1) →
    exec (.sysFormePushDone id) s = .next ((s.onSysForme id (fun f => { f with state := 2, pushHandle := none })).completeOpt
      f.pushHandle 0 (leBytes 2 f.nodes.length ++ leBytes 2 f.nodes.length ++ leBytes 2 0 ++ leBytes 2 0xFFFF))) ∧
  (∀ rq s a p id f t b sb, Served 0x3022 rq s a → sb = decide (a.twin.role = .standby) → rq.payload = p → p.length = 24 → u8 p 4 ≤ 1 →
    fld p 5 3 = 0 → u32 p 16 < 1000000000 → u32 p 20 = 0 → id = u32 p 0 → t = timeAt p 8 16 → a.hier.apexRole = true →
    Tbl.get? a.hier.sysFormes id = some f → f.state = 2 → b = a.newSysTag.2 →
    a.now + 2 * (framePeriod f.rate).getD 0 ≤ t → t ≤ a.now + 86400000000000 →
    exec (.sysFormeRun rq) s = .next (finish 0x3022 rq (accepted (each f.nodes (fun e s => s.sendPrepare id t a.newSysTag.1 e.1 e.2)
      (b.newSysTag.2.onSysForme id (fun f =>
        { f with
          state := 3
          partialOk := u8 p 4 = 1
          t := t
          runHandle := if sb then none else some (handleOf 0x3022 rq)
          decision := 0
          prepareTag := a.newSysTag.1
          tag := b.newSysTag.1
          replayed := false
          nodes := Tbl.map f.nodes (fun _ y =>
            { y with
              answer := 255
              lockup := 0
              errDest := 65535
              errReason := 0
              committed := false
              decisionAnswer := 255 }) })))))) ∧
  (∀ rq s a p id f t, Served 0x3022 rq s a → rq.payload = p → p.length = 24 → u8 p 4 ≤ 1 → fld p 5 3 = 0 → u32 p 16 < 1000000000 →
    u32 p 20 = 0 → id = u32 p 0 → t = timeAt p 8 16 → a.hier.apexRole = true → Tbl.get? a.hier.sysFormes id = some f → f.state = 2 →
    t < a.now + 2 * (framePeriod f.rate).getD 0 →
    exec (.sysFormeRun rq) s = .next (finish 0x3022 rq (fail 11 a))) ∧
  (∀ id node d r s f x, Tbl.get? s.hier.sysFormes id = some f → f.state = 3 → Tbl.get? f.nodes node = some x → x.answer = 255 →
    Tbl.has (Tbl.put f.nodes node { x with answer := 0, errDest := d, errReason := r }) (fun _ y => y.answer = 255) = true →
    exec (.prepareAnswer id node 0 d r) s = .next (s.onSysForme id (fun f =>
      { f with nodes := Tbl.put f.nodes node { x with answer := 0, errDest := d, errReason := r } }))) ∧
  (∀ id at_ s s1 f node x, s1 = s.advance at_ → Tbl.get? s.hier.sysFormes id = some f → f.state = 3 → f.partialOk = false → s.twin.role ≠ .standby →
    f.nodes = [(node, x)] → x.answer = 255 → f.t ≤ s1.now + 1000000 + s.hier.commitMarginUs * 1000 →
    exec (.sysDecisionTime id at_) s = .next ((((s1.onSysForme id (fun f =>
      { f with
        state := 5
        decision := 2
        nodes := [(node, { x with answer := 13, committed := false })] })).raise 4 0x10 id
        (bytes [2] ++ leBytes 2 0 ++ leBytes 2 1)).sendDecision id node f.tag false).checkRun id)) ∧
  (∀ id (s : State), s.twin.role = .standby → s.decide id = s) ∧
  (∀ rq s a p f, Served 0x3023 rq s a → rq.payload = p → p.length = 4 → a.hier.apexRole = true →
    Tbl.get? a.hier.sysFormes (u32 p 0) = some f → f.state ≤ 3 →
    exec (.sysFormeAbort rq) s = .next (finish 0x3023 rq (ok (a.abortSys (u32 p 0) f)))) ∧
  (∀ rq s a p f, Served 0x3024 rq s a → rq.payload = p → p.length = 8 → 1 ≤ u16 p 6 → u16 p 6 ≤ 500 → a.hier.apexRole = true →
    Tbl.get? a.hier.sysFormes (u32 p 0) = some f →
    exec (.sysFormeStatus rq) s = .next (finish 0x3024 rq (okWith (bytes [f.state, 0]
      ++ leBytes 2 ((f.nodes.drop (u16 p 4)).take (u16 p 6)).length ++ zeros 4
      ++ ((f.nodes.drop (u16 p 4)).take (u16 p 6)).flatMap (fun e => statusRecord e.1 e.2)) a))) ∧
  (∀ id at_ s f, Tbl.get? s.hier.sysFormes id = some f → f.state = 4 → f.t + 2000000000 ≤ (s.advance at_).now →
    exec (.sysRunTimeout id at_) s = .next ((s.advance at_).finishRun id))

/-- A node's part in a system forme (R185, R186, R188, R190): FORME_PUSH stores a segment, PREPARE holds a checked record as a
pending forme, COMMIT and ABORT decide it, a node without a decision discards it at T + 1 s, and the apex records a lock-up report. -/
def Obligations.NodesFollowDecisions : Prop :=
  (∀ rq s a p id n, Served 0x3028 rq s a → rq.payload = p → id = u32 p 0 → n = u16 p 8 → u32 p 4 = 0 → 1 ≤ n → n ≤ 4000 →
    p.length = 12 + n → u8 p 10 ≤ 1 → u8 p 11 = 0 → a.hier.pushed.length < 8 →
    exec (.formePush rq) s = .next (finish 0x3028 rq (ok (a.onHier (fun h =>
      { h with pushed := Tbl.put h.pushed id (Pushed.mk (Memory.writeN [] 0 (p.drop 12)) n (u8 p 10 = 1)) }))))) ∧
  (∀ rq s a p id r b es t, Served 0x3029 rq s a → rq.payload = p → p.length = 32 → u16 p 6 = 0 → u32 p 12 = 0 → u32 p 24 < 1000000000 →
    u32 p 28 = 0 → id = u32 p 0 → id ≠ 0 → t = timeAt p 16 24 → Tbl.get? a.hier.pushed id = some r → r.complete = true →
    b = Memory.readN r.bytes 0 r.size → es = parseRecord b → a.lat.standing.id ≠ id → a.forme id = none → a.lat.pending.length < 8 →
    u32 b 0 = id → u16 b 4 = u16 p 4 → u32 b 8 = u32 p 8 → (framePeriod (u8 b 7)).isNone = false →
    a.formeError es (u16 p 4) (u32 p 8) = (0xFFFF, 0) → a.lockupTimeError id t = 0 → a.groupsReach (groupsOf es) t = true →
    exec (.prepare rq) s = .next (finish 0x3029 rq (okWith (leBytes 2 0xFFFF ++ bytes [0, 0])
      ((each (a.newStoreSources es) State.ensureStore (a.onLat (fun l =>
        { l with pending := l.pending ++ [{
          id := id
          state := .closed
          merge := bit (u8 b 6) 0
          rate := u8 b 7
          entries := es
          crc := u32 p 8
          t := some t
          origT := t
          plates := a.platesAdded es
          prepared := true
          apex := rq.originator % 16384 }] }))).wakeGroups (groupsOf es))))) ∧
  (∀ rq s a p f, Served 0x302A rq s a → rq.payload = p → p.length = 4 → a.forme (u32 p 0) = some f → f.prepared = true →
    f.decision = .none → f.noDecision = false →
    exec (.commit rq) s = .next (finish 0x302A rq (ok (a.onForme (u32 p 0) (fun f => { f with decision := .commit }))))) ∧
  (∀ rq s a p, Served 0x302A rq s a → rq.payload = p → p.length = 4 → a.forme (u32 p 0) = none →
    exec (.commit rq) s = .next (finish 0x302A rq (fail 8 a))) ∧
  (∀ rq s a p f, Served 0x302B rq s a → rq.payload = p → p.length = 4 → a.forme (u32 p 0) = some f → f.prepared = true →
    f.state = .closed →
    exec (.abort rq) s = .next (finish 0x302B rq (ok ((a.dropForme (u32 p 0)).freePushed (u32 p 0))))) ∧
  (∀ id at_ s f t, s.forme id = some f → f.prepared = true → f.noDecision = true → f.decision = .none → f.t = some t →
    t + 1000000000 ≤ (s.advance at_).now →
    exec (.decisionExpiry id at_) s = .next (((((s.advance at_).dropForme id).raise 4 3 id (bytes [3])).reportLockup f 2).freePushed
      id)) ∧
  (∀ rq s n p, rq.port = .link n → rq.payload = p → s.serving rq.port = true → p.length = 20 → u8 p 4 ≤ 2 → u8 p 5 = 0 → s.hier.apexRole = true →
    exec (.lockupReport rq) s = .next (s.lockupReported (u32 p 0) (rq.originator % 16384) (u8 p 4 + 1)))

/-- Snapshots and migration (R192 to R196): a snapshot is armed for an instant at least 100 us ahead, latched at it and then copied
to keep memory, the apex arms its own and its nodes' snapshots, and a migration cut takes the new epoch at its index. -/
def Obligations.SnapshotsAndCuts : Prop :=
  (∀ rq s a p, Served 0x3030 rq s a → rq.payload = p → p.length = 20 → u16 p 4 < 1024 → u8 p 6 ≤ 1 → u8 p 7 = 0 → u32 p 16 < 1000000000 →
    a.now + 100000 ≤ timeAt p 8 16 → timeAt p 8 16 ≤ a.now + 86400000000000 → a.hier.snaps.length < 4 →
    exec (.snapshotAt rq) s = .next (finish 0x3030 rq (accepted (a.onHier (fun q =>
      { q with snaps := q.snaps ++ [{
        id := u32 p 0
        set := u16 p 4
        keep := u8 p 6 = 1
        t := timeAt p 8 16
        handle := handleOf 0x3030 rq }] }))))) ∧
  (∀ rq s a p, Served 0x3030 rq s a → rq.payload = p → p.length = 20 → u16 p 4 < 1024 → u8 p 6 ≤ 1 → u8 p 7 = 0 → u32 p 16 < 1000000000 →
    timeAt p 8 16 < a.now + 100000 → exec (.snapshotAt rq) s = .next (finish 0x3030 rq (fail 11 a))) ∧
  (∀ id at_ s x, s.hier.snaps.find? (fun x => x.id = id && x.t ≤ (s.advance at_).now) = some x →
    exec (.snapshotLatched id at_) s = .next (((((s.advance at_).onHier (fun h =>
      { h with snaps := h.snaps.erase x })).latch x).raise 14 0x20 x.id
      (leBytes 2 x.set ++ timeBytes x.t)).complete x.handle 0 [])) ∧
  (∀ s, s.hier.keepDue = true →
    exec .snapshotKeepWrite s = .next ((s.onKeep (fun k => { k with snapshot := s.hier.shadow })).onHier (fun h =>
      { h with keepDue := false }))) ∧
  (∀ rq s a p, Served 0x3031 rq s a → rq.payload = p → p.length = 20 → u16 p 4 < 1024 → u8 p 6 ≤ 1 → u8 p 7 = 0 → u32 p 16 < 1000000000 →
    a.now + 100000 ≤ timeAt p 8 16 → timeAt p 8 16 ≤ a.now + 86400000000000 → a.hier.snaps.length < 4 → a.hier.apexRole = true →
    a.hier.joinedSerials = [] → a.twin.role ≠ .standby →
    exec (.sysSnapshot rq) s = .next (finish 0x3031 rq (accepted ((a.onHier (fun q =>
      { q with
        snaps := q.snaps ++ [{
          id := u32 p 0
          set := u16 p 4
          keep := u8 p 6 = 1
          t := timeAt p 8 16
          handle := silentHandle }]
        sysSnaps := q.sysSnaps ++ [{
          id := u32 p 0
          waiting := [a.node]
          nodes := 1
          handle := handleOf 0x3031 rq }] })).snapAnswered (u32 p 0) a.node 1)))) ∧
  (∀ rq s a p, Served 0x3031 rq s a → rq.payload = p → p.length = 20 → u16 p 4 < 1024 → u8 p 6 ≤ 1 → u8 p 7 = 0 → u32 p 16 < 1000000000 →
    a.now + 100000 ≤ timeAt p 8 16 → timeAt p 8 16 ≤ a.now + 86400000000000 → a.hier.snaps.length < 4 → a.hier.apexRole = true →
    a.twin.role = .standby →
    exec (.sysSnapshot rq) s = .next (finish 0x3031 rq (accepted (a.onHier (fun q =>
      { q with snaps := q.snaps ++ [{
        id := u32 p 0
        set := u16 p 4
        keep := u8 p 6 = 1
        t := timeAt p 8 16
        handle := silentHandle }] }))))) ∧
  (∀ rq s a p q, Served 0x3038 rq s a → rq.payload = p → p.length = 24 → Tbl.get? a.chord.processes (u16 p 0) = some q → u16 p 6 = q.n →
    u16 p 2 ≠ 0 → u16 p 4 ≠ 0 → u64 p 8 + 2 * q.n ≤ u64 p 16 → a.index q.domainB < u64 p 16 →
    exec (.migrateCut rq) s = .next (finish 0x3038 rq (accepted (a.onHier (fun h =>
      { h with cuts := h.cuts ++ [{
        process := u16 p 0
        oldEpoch := u16 p 2
        newEpoch := u16 p 4
        n := u16 p 6
        startIndex := u64 p 8
        cutIndex := u64 p 16
        handle := handleOf 0x3038 rq }] }))))) ∧
  (∀ id at_ s q c, Tbl.get? s.chord.processes id = some q → s.hier.cuts.find? (fun c => c.process = id) = some c → c.newSeen = true →
    c.cutIndex ≤ (s.advance at_).index q.domainB →
    exec (.epochCut id at_) s = .next ((((((s.advance at_).onHier (fun h => { h with cuts := h.cuts.erase c })).onProc id (fun q =>
      { q with epoch := c.newEpoch, prior := q.epoch, cutIndex := c.cutIndex })).raise 10 0x25 id
      (leBytes 2 c.oldEpoch ++ leBytes 2 c.newEpoch ++ leBytes 8 c.cutIndex))).complete c.handle 0
      (leBytes 4 c.dropped ++ bytes [0, 0, 0, 0])))

/-- Audio routes and the base tick (R206, R208, R212, R226, R227): AUDIO_CONFIG sets the zero-crossing time, AUDIO_ROUTE_SET arms its
entries for T or 200 us from now and is refused while a destination would need a bridge too many, a base tick in RUN mixes every
destination of its domain and then switches what is due, a pending gain is taken at a sample of 0, and -32,768 mutes. -/
def Obligations.AudioRoutesSwitch : Prop :=
  (∀ rq s a p, Served 0x5001 rq s a → rq.payload = p → p.length = 4 → 1 ≤ u16 p 0 → u16 p 0 ≤ 100 → u16 p 2 = 0 →
    exec (.audioConfig rq) s = .next (finish 0x5001 rq (ok (a.onAudio (fun x => { x with zcTimeoutMs := u16 p 0 }))))) ∧
  (∀ rq s a p n es plan, Served 0x5002 rq s a → rq.payload = p → n = u16 p 0 → 1 ≤ n → n ≤ 500 → p.length = 20 + 8 * n → u16 p 2 = 0 →
    u32 p 16 = 0 → u32 p 12 < 1000000000 → timeAt p 4 12 ≤ a.now + 86400000000000 → es = records p 20 8 n → es.all audioRouteOk = true →
    distinct (es.map (fun e => u16 e 0)) = true →
    plan = (es.map parseAudioRoute).foldl (fun (t : Tbl AudioRoute) e => Tbl.put t e.1 e.2) a.plannedRoutes →
    Tbl.count plan (fun _ r => r.source != 65535) ≤ 8192 → a.bridges plan true ≤ 1024 → a.bridges plan false ≤ 1024 →
    exec (.audioRouteSet rq) s = .next (finish 0x5002 rq (ok (a.onAudio (fun x =>
      { x with armed := x.armed ++ [{
        t := if timeAt p 4 12 = 0 then a.now + 200000 else max (timeAt p 4 12) a.now
        entries := es.map parseAudioRoute }] }))))) ∧
  (∀ rq s a p n es plan, Served 0x5002 rq s a → rq.payload = p → n = u16 p 0 → 1 ≤ n → n ≤ 500 → p.length = 20 + 8 * n → u16 p 2 = 0 →
    u32 p 16 = 0 → u32 p 12 < 1000000000 → timeAt p 4 12 ≤ a.now + 86400000000000 → es = records p 20 8 n → es.all audioRouteOk = true →
    distinct (es.map (fun e => u16 e 0)) = true →
    plan = (es.map parseAudioRoute).foldl (fun (t : Tbl AudioRoute) e => Tbl.put t e.1 e.2) a.plannedRoutes →
    1024 < a.bridges plan true → exec (.audioRouteSet rq) s = .next (finish 0x5002 rq (fail 16 a))) ∧
  (∀ rq s a p, Served 0x5003 rq s a → rq.payload = p → p.length = 4 → 1 ≤ u16 p 2 → u16 p 2 ≤ 500 → u16 p 0 + u16 p 2 ≤ 0x4000 →
    exec (.audioRouteRead rq) s = .next (finish 0x5003 rq (okWith (leBytes 2 (u16 p 2) ++ [0, 0]
      ++ (laneRange (u16 p 0) (u16 p 2)).flatMap (fun d => audioRouteBytes d (a.aDest d).route)) a))) ∧
  (∀ d prev at_ s g, (s.aDest d).pendingGain = some g →
    exec (.gainApply d prev 0 at_) s = .next ((s.advance at_).onADest d (AudioDest.takeGain (s.dstDomB d)
      ((s.advance at_).index (s.dstDomB d)) prev 0)) ∧
      (AudioDest.takeGain (s.dstDomB d) ((s.advance at_).index (s.dstDomB d)) prev 0 (s.aDest d)).route.gain = g ∧
      (AudioDest.takeGain (s.dstDomB d) ((s.advance at_).index (s.dstDomB d)) prev 0 (s.aDest d)).pendingGain = none) ∧
  (∀ (r : AudioRoute) x, r.gain = -32768 → r.apply x = 0) ∧
  (∀ domB at_ s s1 s2 s3 d x b, s1 = s.advance at_ → s.power.state = .run → (∀ e ∈ s1.eth.rx, e.2.poolBase = none) → b = s1.index domB / 8 * 8 → 8 ≤ b → s.audio.playouts = [] →
    s.audio.dests = [(d, x)] → s.dstDomB d = domB → isChordCh d = false →
    s2 = s1.onAudio (fun a => { a with srcs := Tbl.map a.srcs (fun c x =>
      if c < 0x3000 && !isBufCh c && s1.srcDomB c = domB then { x with present := false } else x) }) →
    s3 = s2.mixDest d b → s3.twin.mirrored = false →
    exec (.audioTick domB at_ []) s = .next (((s3.sendBundles domB b).capture domB b).switchRoutes domB b)) ∧
  (∀ domB at_ blocks s, s.power.state ≠ .run → exec (.audioTick domB at_ blocks) s = .next (s.advance at_))

/-- AES3 ports (R216 to R219, R225, R233): configuration, status, a start armed for TRIG_IN, for an instant or refused as late, a
rising edge of TRIG_IN that fixes the armed start indices 250 us ahead, a start index that is reached, a restart that clears PAIR_SLIP,
and what a receiver sees: lock, loss, rate, channel status and a pair slip. -/
def Obligations.AesPortsAct : Prop :=
  (∀ rq s a p, Served 0x5004 rq s a → rq.payload = p → p.length = 32 → u8 p 0 = 1 → u8 p 1 ≤ 63 → u8 p 2 = 3 → u8 p 3 ≤ 63 → u8 p 4 ≤ 1 →
    fld p 5 3 = 0 →
    exec (.aesPortConfig rq) s = .next (finish 0x5004 rq (ok (a.onAudio (fun x =>
      { x with outputs := Tbl.upd x.outputs (u8 p 1) {} (fun q =>
        { q with mode := 3, follow := u8 p 3, csAuto := bit (u8 p 4) 0, template := p.drop 8 }) }))))) ∧
  (∀ rq s a p, Served 0x5005 rq s a → rq.payload = p → p.length = 4 → u8 p 0 ≤ 1 → u8 p 1 ≤ 63 → u8 p 2 ≤ 1 → u8 p 3 = 0 →
    exec (.aesStatus rq) s = .next (finish 0x5005 rq (okWith (a.aesStatus (u8 p 0 = 1) (u8 p 1) (u8 p 2)) a))) ∧
  (∀ rq s a p, Served 0x5006 rq s a → rq.payload = p → p.length = 32 → u8 p 16 = 0 → fld p 17 3 = 0 → u32 p 28 < 1000000000 →
    timeAt p 20 28 ≤ a.now + 86400000000000 →
    exec (.aesStart rq) s = .next (finish 0x5006 rq (accepted (a.onAudio (fun x => { x with starts := x.starts ++
      [{ inMask := u64 p 0, outMask := u64 p 8, trigger := true, handle := handleOf 0x5006 rq }] }))))) ∧
  (∀ rq s a p, Served 0x5006 rq s a → rq.payload = p → p.length = 32 → u8 p 16 = 1 → fld p 17 3 = 0 → u32 p 28 < 1000000000 →
    timeAt p 20 28 ≠ 0 → timeAt p 20 28 < a.now + 250000 → exec (.aesStart rq) s = .next (finish 0x5006 rq (fail 11 a))) ∧
  (∀ rq s a p, Served 0x5007 rq s a → rq.payload = p → p.length = 4 → u8 p 0 ≤ 1 → u8 p 1 ≤ 63 → u8 p 2 ≤ 1 → u8 p 3 = 0 →
    exec (.aesPortRestart rq) s = .next (finish 0x5007 rq (accepted (a.onAes (u8 p 0 = 1) (u8 p 1) (fun q =>
      { q with
        restarting := true
        awaitTrigger := u8 p 2 = 1
        fifo := 0
        restartHandles := q.restartHandles ++ [handleOf 0x5007 rq] }))))) ∧
  (∀ out n at_ s h, (s.aesPort out n).restarting = true → (s.aesPort out n).awaitTrigger = false → (s.aesPort out n).restartHandles = [h] →
    exec (.portRestarted out n at_) s = .next (((((s.advance at_).onAes out n (fun q =>
      { q with
        restarting := false
        pairSlip := false
        swapped := false
        fifo := 8
        restartHandles := [] })).raise 10 5 (aesObject out n)
      (leBytes 8 ((s.advance at_).index (s.aesPort out n).domB))).complete h 0 []))) ∧
  (∀ at_ s, exec (.trigInEdge true at_) s = .next (((s.advance at_).captureEdge 3 at_ 0).onAudio (fun a =>
    { a with starts := a.starts.map (fun x => if x.trigger then x.fix (at_ + 250000) else x) }))) ∧
  (∀ at_ s x t, s.audio.starts = [x] → x.startNs = some t → t ≤ (s.advance at_).now →
    exec (.aesStartIndex at_) s = .next (State.startPorts x ((s.advance at_).onAudio (fun a => { a with starts := [] })))) ∧
  (∀ n cs us s, n ≤ 63 → cs.length = 24 → us.length = 24 → bit (u8 cs 0) 0 = false → nonAudio cs = (s.aSrc (0x2000 + 2 * n)).nonPcm →
    exec (.aesBlockReceived n false cs us) s = .next (s.onAes false n (fun q => { q with csA := cs, userA := us }))) ∧
  (∀ n r s, n ≤ 63 → (s.aesPort false n).locked = false → 28000000 ≤ r → r ≤ 108000000 →
    exec (.portLock n r) s = .next ((s.onAes false n (fun q => { q with locked := true, relocks := q.relocks + 1, rateMhz := r })).raise
      10 1 n (leBytes 4 r))) ∧
  (∀ n s, (s.aesPort false n).locked = true →
    exec (.portLoss n) s = .next ((((s.onAes false n (fun q => { q with locked := false })).onASrc (0x2000 + 2 * n) (fun x =>
      { x with present := false })).onASrc (0x2001 + 2 * n) (fun x => { x with present := false })).raise 10 2 n [])) ∧
  (∀ n r s, (s.aesPort false n).locked = true → (s.aesPort false n).mode = 2 →
    exec (.portRate n r) s = .next (s.onAes false n (fun q => { q with rateMhz := r }))) ∧
  (∀ out n ovf at_ s, n ≤ 63 → (s.aesPort out n).restarting = false →
    exec (.pairSlip out n ovf at_) s = .next (((s.advance at_).onAes out n (fun q =>
      { q with
        pairSlip := true
        swapped := !q.swapped
        slips := q.slips + 1
        fifo := if ovf then 16 else 0 })).raise 10 4 (aesObject out n)
      (leBytes 8 ((s.advance at_).index (s.aesPort out n).domB) ++ leBytes 2 ((s.aesPort out n).slips + 1).toNat)))

/-- Flow maps, bundles, buffers, silence and parameter sets (R220, R222, R223, R228 to R231, R233): each command writes what it
names, a bundle beyond the link's limit is refused with TRUNK_FULL, silence begins after its hold time and ends with a block at the
threshold, and a checked parameter set changes banks at its instant. -/
def Obligations.AudioUnitsAreConfigured : Prop :=
  (∀ rq s a p n, Served 0x5008 rq s a → rq.payload = p → p.length = 8 → u8 p 0 = 0 → u8 p 1 = 0 → n = u16 p 2 → n ≤ 1023 →
    (a.rxFlow n).cfg.kind = 2 → u16 p 4 + (a.rxFlow n).cfg.param ≤ 3840 →
    (∀ e ∈ a.eth.rx, ∀ b, e.2.poolBase = some b → e.1 = n ∨ u16 p 4 + (a.rxFlow n).cfg.param ≤ b ∨ b + e.2.cfg.param ≤ u16 p 4) →
    1000 ≤ u16 p 6 → u16 p 6 ≤ 20000 →
    exec (.audioFlowMap rq) s = .next (finish 0x5008 rq (ok (a.onRx n (fun f =>
      { f with poolBase := some (u16 p 4), linkOffsetUs := u16 p 6 }))))) ∧
  (∀ rq s a p (u : Bundle), Served 0x5009 rq s a → rq.payload = p → p.length = 8 → u8 p 0 ≤ 31 → u8 p 1 = 0 → u8 p 2 ≤ 63 → 1 ≤ u8 p 4 → u8 p 4 ≤ 64 →
    u8 p 5 ≤ 1 → u16 p 6 = 0 → a.bundleStream (u8 p 2) (u8 p 3) false (u8 p 0) = false →
    Tbl.has a.lat.sends (fun _ m => m.link = u8 p 2 && m.stream = u8 p 3) = false →
    (a.linkChargeBut (u8 p 2) 65536 (u8 p 0) + bundleMbps (u8 p 4) (u8 p 5 = 1)) * 1000 ≤ (a.link (u8 p 2)).trunkLimit →
    u = { link := u8 p 2, stream := u8 p 3, channels := u8 p 4, rate96 := u8 p 5 = 1 } →
    exec (.audioTrunkSet rq) s = .next (finish 0x5009 rq (ok (a.onAudio (fun x => { x with sends := Tbl.put x.sends (u8 p 0) u }))))) ∧
  (∀ rq s a p, Served 0x5009 rq s a → rq.payload = p → p.length = 8 → u8 p 0 ≤ 31 → u8 p 1 = 0 → u8 p 2 ≤ 63 → 1 ≤ u8 p 4 → u8 p 4 ≤ 64 →
    u8 p 5 ≤ 1 → u16 p 6 = 0 → a.bundleStream (u8 p 2) (u8 p 3) false (u8 p 0) = false →
    Tbl.has a.lat.sends (fun _ m => m.link = u8 p 2 && m.stream = u8 p 3) = false →
    (a.link (u8 p 2)).trunkLimit < (a.linkChargeBut (u8 p 2) 65536 (u8 p 0) + bundleMbps (u8 p 4) (u8 p 5 = 1)) * 1000 →
    exec (.audioTrunkSet rq) s = .next (finish 0x5009 rq (fail 17 a))) ∧
  (∀ rq s a p n (u : AudioBuf), Served 0x500A rq s a → rq.payload = p → p.length = 24 → u8 p 0 ≤ 15 → u8 p 1 = 0 → 1 ≤ u8 p 3 → u8 p 2 + u8 p 3 ≤ 128 →
    u8 p 4 ≤ 2 → u8 p 5 ≤ 1 → u16 p 6 = 0 → u32 p 20 = 0 → 64 ≤ u32 p 16 → u32 p 16 ≤ 16777216 →
    n = u32 p 16 * (u8 p 3 * packBytes (u8 p 4)) → u64 p 8 + n ≤ 2 ^ 48 → a.rtPinned (u64 p 8) n = true →
    u = { first := u8 p 2, count := u8 p 3, packing := u8 p 4, rate96 := u8 p 5 = 1, base := u64 p 8, frames := u32 p 16 } →
    exec (.audioBufferSet rq) s = .next (finish 0x500A rq (ok (a.onAudio (fun x =>
      { x with captures := Tbl.put x.captures (u8 p 0) u }))))) ∧
  (∀ rq s a p b, Served 0x500B rq s a → rq.payload = p → p.length = 4 → u8 p 0 = 0 → u8 p 1 ≤ 15 → u16 p 2 = 0 →
    b = Tbl.at a.audio.captures (u8 p 1) {} →
    exec (.audioBufferStatus rq) s = .next (finish 0x500B rq (okWith (leBytes 8 b.index ++ leBytes 4 b.wraps.toNat
      ++ leBytes 4 b.faults.toNat) a))) ∧
  (∀ rq s a p, Served 0x500C rq s a → rq.payload = p → p.length = 16 → u16 p 2 = 1 → u16 p 0 ≤ 0x3FFF → -12000 ≤ s16 p 4 → s16 p 4 ≤ -2000 →
    u16 p 6 = 0 → 100 ≤ u32 p 8 → u32 p 8 ≤ 600000 → u8 p 12 ≤ 7 → fld p 13 3 = 0 →
    exec (.silenceConfig rq) s = .next (finish 0x500C rq (ok (a.onASrc (u16 p 0) (fun x =>
      { x with configured := true, threshold := s16 p 4, holdMs := u32 p 8, actions := u8 p 12 }))))) ∧
  (∀ c peak at_ s, (s.aSrc c).nonPcm = false → (s.advance at_).srcPresent c = true → (s.aSrc c).configured = true → (s.aSrc c).silent = false →
    peak ≠ 0 → belowLevel peak (s.aSrc c).threshold = false →
    exec (.audioBlockMeasured c peak at_) s = .next (((s.advance at_).onASrc c (fun x => { x with peak := levelOf peak })).onASrc c
      (fun x => { x with belowSince := none, silent := false }))) ∧
  (∀ c at_ s t, (s.aSrc c).belowSince = some t → (s.aSrc c).configured = true → (s.aSrc c).silent = false → (s.aSrc c).nonPcm = false →
    (s.aSrc c).actions = 1 → t + (s.aSrc c).holdMs * 1000000 ≤ (s.advance at_).now →
    exec (.silence c at_) s = .next (((s.advance at_).onASrc c (fun x => { x with silent := true })).raise 10 6 c
      (leBytes 8 ((s.advance at_).index (s.srcDomB c))))) ∧
  (∀ rq s a p q, Served 0x500D rq s a → rq.payload = p → u16 p 0 ≤ 511 → 1 ≤ u16 p 4 → u16 p 4 ≤ 4000 → p.length = 8 + u16 p 4 → u16 p 6 = 0 →
    u16 p 2 + u16 p 4 ≤ 16384 → Tbl.get? a.chord.processes (u16 p 0) = some q → u16 p 2 + u16 p 4 ≤ 8 * q.paramWords →
    (a.paramSet (u16 p 0)).armed = none →
    exec (.safeloadWrite rq) s = .next (finish 0x500D rq (ok (a.onSet (u16 p 0) (fun x =>
      { x with staged := Memory.writeN x.staged (u16 p 2) (p.drop 8) }))))) ∧
  (∀ rq s a p q, Served 0x500E rq s a → rq.payload = p → p.length = 20 → u16 p 0 ≤ 511 → u16 p 2 ≤ 16384 → u32 p 16 < 1000000000 →
    timeAt p 8 16 ≤ a.now + 86400000000000 → Tbl.get? a.chord.processes (u16 p 0) = some q → u16 p 2 ≤ 8 * q.paramWords →
    (a.paramSet (u16 p 0)).armed = none → crc32c (Memory.readN (a.paramSet (u16 p 0)).staged 0 (u16 p 2)) = u32 p 4 →
    exec (.safeloadSwap rq) s = .next (finish 0x500E rq (accepted (a.onSet (u16 p 0) (fun x =>
      { x with armed := some (max (timeAt p 8 16) a.now), handle := some (handleOf 0x500E rq) }))))) ∧
  (∀ n at_ s t q i, (s.paramSet n).armed = some t → Tbl.get? s.chord.processes n = some q → t ≤ (s.advance at_).now →
    i = (s.advance at_).index q.domainB →
    exec (.safeloadDone n at_) s = .next ((((s.advance at_).onSet n (fun x =>
      { x with active := x.staged, staged := x.active, armed := none, handle := none })).raise 10 10 n (leBytes 8 i)).completeOpt
      (s.paramSet n).handle 0 (leBytes 8 i))) ∧
  (∀ rq s a p, Served 0x500F rq s a → rq.payload = p → p.length = 4 → 1 ≤ u16 p 2 → u16 p 2 ≤ 500 → u16 p 0 + u16 p 2 ≤ 0x4000 →
    exec (.channelStatus rq) s = .next (finish 0x500F rq (okWith (leBytes 2 (u16 p 2) ++ [0, 0]
      ++ (laneRange (u16 p 0) (u16 p 2)).flatMap (fun c => a.channelRecord c)) a)))

/-- Engines, processes, images and delay lines (R246 to R251, R255, R256, R260): an engine without placements takes its block length
and domain, a process is created with channel ranges of its own and deleted once nothing of it is placed, an image is written and
checked, and a delay line over pinned real-time memory is set with its ring cleared. -/
def Obligations.ProcessesAreManaged : Prop :=
  (∀ rq s a p, Served 0x6001 rq s a → rq.payload = p → p.length = 4 → u8 p 0 ≤ 31 → u8 p 1 ≤ 1 → blockOk (u8 p 2) = true → u8 p 3 = 0 →
    a.onEngine (u8 p 0) = [] →
    exec (.engineConfig rq) s = .next (finish 0x6001 rq (ok (a.onChord (fun c =>
      { c with engines := Tbl.put c.engines (u8 p 0) { n := u8 p 2, domainB := u8 p 1 = 1 } }))))) ∧
  (∀ rq s a p, Served 0x6001 rq s a → rq.payload = p → p.length = 4 → u8 p 0 ≤ 31 → u8 p 1 ≤ 1 → blockOk (u8 p 2) = true → u8 p 3 = 0 →
    a.onEngine (u8 p 0) ≠ [] → exec (.engineConfig rq) s = .next (finish 0x6001 rq (fail 8 a))) ∧
  (∀ rq s a p e x, Served 0x6002 rq s a → rq.payload = p → p.length = 4 → e = u8 p 0 → e ≤ 31 → fld p 1 3 = 0 →
    x = Tbl.at a.chord.engines e {} → x.n ≠ 0 → a.onEngine e = [] →
    exec (.engineStatus rq) s = .next (finish 0x6002 rq (okWith (bytes [e, flag x.domainB, x.n, 1]
      ++ leBytes 4 (tickCycles x.domainB x.n) ++ leBytes 4 0 ++ leBytes 2 0 ++ leBytes 2 0) a))) ∧
  (∀ rq s a p id (q : Process), Served 0x6003 rq s a → rq.payload = p → p.length = 24 → id = u16 p 0 → id ≤ 511 → u8 p 2 ≤ 1 →
    blockOk (u8 p 3) = true → u16 p 6 ≤ 256 → u16 p 4 ≤ 2047 → u16 p 4 + u16 p 6 ≤ 2048 → 1 ≤ u16 p 10 → u16 p 10 ≤ 256 →
    u16 p 8 + u16 p 10 ≤ 2048 → u8 p 12 ≤ 15 → u8 p 13 = 0 → u16 p 14 ≤ 2048 → u16 p 16 + u16 p 18 ≤ 32768 → u32 p 20 = 0 →
    Tbl.get? a.chord.processes id = none →
    (∀ e ∈ a.chord.processes, overlap e.2.inFirst e.2.inCount (u16 p 4) (u16 p 6) = false ∧
      overlap e.2.outFirst e.2.outCount (u16 p 8) (u16 p 10) = false) →
    q = {
      domainB := u8 p 2 = 1
      n := u8 p 3
      inFirst := u16 p 4
      inCount := u16 p 6
      outFirst := u16 p 8
      outCount := u16 p 10
      inPair := bit (u8 p 12) 0
      outPair := bit (u8 p 12) 1
      inSmaj := bit (u8 p 12) 2
      outSmaj := bit (u8 p 12) 3
      paramWords := u16 p 14
      restFirst := u16 p 16
      restWords := u16 p 18 } →
    exec (.procCreate rq) s = .next (finish 0x6003 rq (ok ((a.onChord (fun c =>
      { c with processes := Tbl.put c.processes id q })).onSet id (fun _ => {}))))) ∧
  (∀ rq s a p id q, Served 0x6004 rq s a → rq.payload = p → p.length = 4 → id = u16 p 0 → u16 p 2 = 0 →
    Tbl.get? a.chord.processes id = some q → q.placements = [] → (∀ e ∈ a.chord.lines, e.2.process = id → e.2.ring = 0) →
    (a.paramSet id).handle = none →
    exec (.procDelete rq) s = .next (finish 0x6004 rq (ok ((a.onChord (fun c =>
      { c with processes := Tbl.del c.processes id })).onSet id (fun x => { x with armed := none, handle := none }))))) ∧
  (∀ rq s a p id q x r, Served 0x6004 rq s a → rq.payload = p → p.length = 4 → id = u16 p 0 → u16 p 2 = 0 →
    Tbl.get? a.chord.processes id = some q → q.placements = x :: r → exec (.procDelete rq) s = .next (finish 0x6004 rq (fail 8 a))) ∧
  (∀ rq s a p, Served 0x6005 rq s a → rq.payload = p → p.length = 12 + u16 p 8 → u8 p 0 ≤ 3 → fld p 1 3 = 0 → 1 ≤ u16 p 8 → u16 p 8 ≤ 4000 →
    u32 p 4 + u16 p 8 ≤ 393312 → u16 p 10 = 0 →
    exec (.progWrite rq) s = .next (finish 0x6005 rq (ok (a.onChord (fun c =>
      { c with slots := Tbl.upd c.slots (u8 p 0) [] (fun m => Memory.writeN m (u32 p 4) (p.drop 12)) }))))) ∧
  (∀ rq s a p m r, Served 0x6006 rq s a → rq.payload = p → p.length = 4 → u8 p 0 ≤ 3 → fld p 1 3 = 0 →
    m = Tbl.at a.chord.slots (u8 p 0) [] → r = checkImage m →
    exec (.progCheck rq) s = .next (finish 0x6006 rq (okWith (Memory.readN m 6 2 ++ Memory.readN m 8 2 ++ leBytes 4 r.1.cycles
      ++ leBytes 2 r.2.1 ++ bytes [r.2.2, 0]) a))) ∧
  (∀ m, u32 (Memory.readN m 0 96) 0 ≠ 0x92560C4D → checkImage m = ({}, 0xFFFF, 1)) ∧
  (∀ rq s a p q, Served 0x6009 rq s a → rq.payload = p → p.length = 4 → u16 p 2 = 0 → Tbl.get? a.chord.processes (u16 p 0) = some q →
    exec (.procStatus rq) s = .next (finish 0x6009 rq (okWith (procRecord (u16 p 0) q) a))) ∧
  (∀ rq s a p q x r (l : DelayLine), Served 0x600A rq s a → rq.payload = p → p.length = 24 → u16 p 0 ≤ 2047 → u16 p 2 ≤ 511 →
    Tbl.get? a.chord.processes (u16 p 2) = some q → q.placements.filter (fun x => x.engine != 255) = x :: r →
    4 * q.n ≤ u32 p 12 → u32 p 12 ≤ 16777216 → u32 p 12 % q.n = 0 → 2 * q.n ≤ u32 p 8 → u32 p 8 + 2 * q.n ≤ u32 p 12 →
    u64 p 16 + 4 * u32 p 12 ≤ 2 ^ 48 → (∀ y ∈ x :: r, u16 p 4 + q.n ≤ q.dataWords y ∧ u16 p 6 + q.n ≤ q.dataWords y) →
    a.rtPinned (u64 p 16) (4 * u32 p 12) = true →
    l = {
      process := u16 p 2
      sendAddr := u16 p 4
      retAddr := u16 p 6
      delay := u32 p 8
      newDelay := u32 p 8
      ring := u32 p 12
      base := u64 p 16 } →
    exec (.delaySet rq) s = .next (finish 0x600A rq (ok ((a.rtZero (u64 p 16) (4 * u32 p 12)).onChord (fun c =>
      { c with lines := Tbl.put c.lines (u16 p 0) l }))))) ∧
  (∀ rq s a p q x, Served 0x600B rq s a → rq.payload = p → p.length = 10 → Tbl.get? a.chord.processes (u16 p 0) = some q →
    q.placements.find? (fun x => x.epoch = u16 p 2 && x.engine != 255) = some x → u8 p 4 = 0 → u8 p 5 = 0 → 1 ≤ u16 p 8 → u16 p 8 ≤ 400 →
    u16 p 6 + u16 p 8 ≤ q.dataWords x →
    exec (.dmRead rq) s = .next (finish 0x600B rq (okWith ((List.range (u16 p 8)).flatMap (fun i =>
      leInt 5 (Tbl.at x.dm (u16 p 6 + i) {}).re ++ leInt 5 (Tbl.at x.dm (u16 p 6 + i) {}).im)) a)))

/-- Placements (R248, R249, R252, R254, R258): PROC_PLACE loads a checked image on an engine that matches and has the room, at a
tick boundary at least 2 ms ahead, and is refused with LATE for an earlier one; it runs from its start index, a tick runs its program
over the block before, and it stops at its stop index or at an uncorrectable program-memory error, which raises fault kind 0x31. -/
def Obligations.PlacementsRun : Prop :=
  (∀ rq s a p id e q start image (x : Placement), Served 0x6007 rq s a → rq.payload = p → p.length = 16 → id = u16 p 0 → id ≤ 511 →
    u16 p 2 ≠ 0 → e = u8 p 4 → e ≤ 31 → u8 p 5 ≤ 3 → u8 p 7 = 0 → Tbl.get? a.chord.processes id = some q →
    start = a.indexOr q (u64 p 8) → checkImage (Tbl.at a.chord.slots (u8 p 5) []) = (image, 0xFFFF, 0) → start % q.n = 0 →
    q.placements = [] → (Tbl.at a.chord.engines e {}).n = q.n → (Tbl.at a.chord.engines e {}).domainB = q.domainB →
    a.now + 2000000 ≤ indexTime q.domainB start → (a.engineUse e).1 + image.cycles + 32 ≤ tickCycles q.domainB q.n →
    (a.engineUse e).2.1 + image.code.length ≤ 16384 →
    (a.engineUse e).2.2 + (q.inWords + q.outWords + image.dmWords + 2 * q.paramWords) ≤ 32768 →
    x = {
      epoch := u16 p 2
      engine := e
      bundle := u8 p 6
      startIndex := start
      startHandle := some (handleOf 0x6007 rq) } →
    exec (.procPlace rq) s = .next (finish 0x6007 rq (accepted (a.place id q x image)))) ∧
  (∀ rq s a p id e q start image, Served 0x6007 rq s a → rq.payload = p → p.length = 16 → id = u16 p 0 → id ≤ 511 →
    u16 p 2 ≠ 0 → e = u8 p 4 → e ≤ 31 → u8 p 5 ≤ 3 → u8 p 7 = 0 → Tbl.get? a.chord.processes id = some q →
    start = a.indexOr q (u64 p 8) → checkImage (Tbl.at a.chord.slots (u8 p 5) []) = (image, 0xFFFF, 0) → start % q.n = 0 →
    q.placements = [] → (Tbl.at a.chord.engines e {}).n = q.n → (Tbl.at a.chord.engines e {}).domainB = q.domainB →
    indexTime q.domainB start < a.now + 2000000 → exec (.procPlace rq) s = .next (finish 0x6007 rq (fail 11 a))) ∧
  (∀ id epoch at_ s q x, Tbl.get? s.chord.processes id = some q → q.placements.find? (fun x => x.epoch = epoch) = some x →
    x.running = false → x.startIndex ≤ (s.advance at_).index q.domainB →
    exec (.placeStarted id epoch at_) s = .next ((((s.advance at_).onProc id (Process.onPlacement epoch (fun x =>
      { x with running := true, startHandle := none }))).raise 10 0x20 id (leBytes 2 epoch ++ bytes [x.engine]
      ++ leBytes 8 x.startIndex)).completeOpt x.startHandle 0
      (bytes [x.engine, 0] ++ leBytes 2 epoch ++ leBytes 4 x.cycles ++ leBytes 8 x.startIndex))) ∧
  (∀ rq s a p id q stop, Served 0x6008 rq s a → rq.payload = p → p.length = 16 → id = u16 p 0 → id ≤ 511 → u32 p 4 = 0 →
    Tbl.get? a.chord.processes id = some q → stop = a.indexOr q (u64 p 8) →
    q.placements.any (fun x => x.epoch = u16 p 2) = true → stop % q.n = 0 → a.cutOf id q (u16 p 2) = none →
    q.placements.length = 1 → a.now + 2000000 ≤ indexTime q.domainB stop →
    exec (.procUnplace rq) s = .next (finish 0x6008 rq (accepted (a.onProc id (Process.onPlacement (u16 p 2) (fun x =>
      { x with stopIndex := some stop, stopHandle := some (handleOf 0x6008 rq) })))))) ∧
  (∀ id epoch at_ s q x i, Tbl.get? s.chord.processes id = some q → q.placements.find? (fun x => x.epoch = epoch) = some x →
    x.stopIndex = some i → i ≤ (s.advance at_).index q.domainB →
    exec (.placeStopped id epoch at_) s = .next ((s.advance at_).freePlacement id x 1 i)) ∧
  (∀ e id at_ s q x, e ≤ 31 → Tbl.get? s.chord.processes id = some q → q.placements.find? (fun x => x.engine = e) = some x →
    exec (.pmUncorrectable e id at_) s = .next (((s.advance at_).freePlacement id x 2
      ((s.advance at_).index q.domainB)).fault (0x140 + e) 0x31 id)) ∧
  (∀ e at_ s s1 id q x t n, s1 = s.advance at_ → n = (Tbl.at s.chord.engines e {}).n → n ≠ 0 → s.power.state = .run →
    t = s1.index (Tbl.at s.chord.engines e {}).domainB / n * n → s.onEngine e = [(id, q, x)] →
    Tbl.get? s.chord.processes id = some q → q.placements = [x] → x.running = true → x.startIndex + q.n ≤ t → x.stopIndex = none →
    s1.enginePaused e = false → s1.rests q = false → q.resting = false →
    exec (.engineTick e at_) s = .next ((s1.seeEpoch id x.epoch (t - q.n) t).runPlacement id e (t - q.n) q x))

/-- The Chord instructions (R237 to R242, R245): register results saturate at 40 bits and are counted, ADD, SUB, NEG and SWAP write
d, MAC adds a complex product to an accumulator, CLR clears one, an index advances modulo its length, a word outside the data space
reads as 0 and is not written, each an address fault, and TEND ends the run. -/
def Obligations.ChordInstructionsAct : Prop :=
  (∀ n re im (r : Run), 2 ^ 39 ≤ re → -(2 ^ 39) ≤ im → im < 2 ^ 39 →
    (r.setReg n re im).reg n = { re := 2 ^ 39 - 1, im := im } ∧ (r.setReg n re im).sats = r.sats + 1) ∧
  (∀ i (r : Run), cOp i = 0x20 → bit i 51 = false → bit i 45 = false →
    r.step i = r.setReg (bits i 55 52) ((r.reg (bits i 50 47)).re + (r.reg (bits i 44 41)).re)
      ((r.reg (bits i 50 47)).im + (r.reg (bits i 44 41)).im)) ∧
  (∀ i (r : Run), cOp i = 0x21 → bit i 51 = false → bit i 45 = false →
    r.step i = r.setReg (bits i 55 52) ((r.reg (bits i 50 47)).re - (r.reg (bits i 44 41)).re)
      ((r.reg (bits i 50 47)).im - (r.reg (bits i 44 41)).im)) ∧
  (∀ i (r : Run), cOp i = 0x22 → bit i 51 = false →
    r.step i = r.setReg (bits i 55 52) (-(r.reg (bits i 50 47)).re) (-(r.reg (bits i 50 47)).im)) ∧
  (∀ i (r : Run), cOp i = 0x28 → bit i 51 = false →
    r.step i = r.setReg (bits i 55 52) (r.reg (bits i 50 47)).im (r.reg (bits i 50 47)).re) ∧
  (∀ i (r : Run) x y o, cOp i = 0x11 → bit i 51 = false → bit i 45 = false → bit i 39 = false → bit i 38 = false →
    x = r.reg (bits i 50 47) → y = r.reg (bits i 44 41) → o = r.acc (bits i 57 56) →
    r.step i = r.setAcc (bits i 57 56) (o.re + (x.re * y.re - x.im * y.im)) (o.im + (x.re * y.im + x.im * y.re))) ∧
  (∀ i (r : Run), cOp i = 0x18 → (r.step i).acc (bits i 57 56) = { re := 0, im := 0 }) ∧
  (∀ k (g : Gen), 0 < g.length → (g.advance k).index = (g.index + k) % (g.length : Int)) ∧
  (∀ a (r : Run), (r.dmSize : Int) ≤ a → (r.read false a).1 = {} ∧ (r.read false a).2.faults = (a % 65536).toNat :: r.faults) ∧
  (∀ a v (r : Run), (r.dmSize : Int) ≤ a → (r.write false a v).dm = r.dm ∧
    (r.write false a v).faults = (a % 65536).toNat :: r.faults) ∧
  (∀ (code : Array Nat) k pc r, cOp (code.getD pc 0) = 0x01 → Run.go code (k + 1) pc [] r = r)

/-- Imposition (R262 to R275, R411): a sheet is enabled where its store and pixel rate fit and is refused with RESOURCE where they do
not, an enabled sheet stages its configuration and its page records, a disabled one takes its order at once, a frame start swaps what
is due and composes, a folio pause repeats the last frame, and a page of full opacity shows its source. -/
def Obligations.SheetsCompose : Prop :=
  (∀ rq s a p n, Served 0x7001 rq s a → rq.payload = p → p.length = 16 → n = u8 p 0 → n ≤ 31 → u8 p 1 = 1 →
    formatClass (u8 p 2) (u8 p 3) ≠ none → (s32 p 4).natAbs ≤ 41708332 → 4 ≤ u16 p 8 → u16 p 8 ≤ 1019 → 4 ≤ u16 p 10 → u16 p 10 ≤ 1019 →
    4 ≤ u16 p 12 → u16 p 12 ≤ 1019 → u16 p 14 = 0 → (a.sheet n).enabled = false → Tbl.get? a.lat.stores (0x500 + n) = none →
    a.platesUsed + 3 * framePlates (u8 p 2) ≤ 32768 → a.islandRate n + pixelRate1001 (u8 p 2) ≤ 2002000000000 →
    exec (.sheetConfig rq) s = .next (finish 0x7001 rq (ok ((a.onSheet n (fun h =>
      { h with
        enabled := true
        format := u8 p 2
        carriage := u8 p 3
        offset := s32 p 4
        background := ((u16 p 8 : Nat), (u16 p 10 : Nat), (u16 p 12 : Nat))
        staged := none })).ensureStore (0x500 + n, 0xFFFF))))) ∧
  (∀ rq s a p n, Served 0x7001 rq s a → rq.payload = p → p.length = 16 → n = u8 p 0 → n ≤ 31 → u8 p 1 = 1 →
    formatClass (u8 p 2) (u8 p 3) ≠ none → (s32 p 4).natAbs ≤ 41708332 → 4 ≤ u16 p 8 → u16 p 8 ≤ 1019 → 4 ≤ u16 p 10 → u16 p 10 ≤ 1019 →
    4 ≤ u16 p 12 → u16 p 12 ≤ 1019 → u16 p 14 = 0 → (a.sheet n).enabled = false →
    2002000000000 < a.islandRate n + pixelRate1001 (u8 p 2) →
    exec (.sheetConfig rq) s = .next (finish 0x7001 rq (fail 16 a))) ∧
  (∀ rq s a p n (c : StagedSheet), Served 0x7001 rq s a → rq.payload = p → p.length = 16 → n = u8 p 0 → n ≤ 31 → u8 p 1 ≤ 1 →
    formatClass (u8 p 2) (u8 p 3) ≠ none → (s32 p 4).natAbs ≤ 41708332 → 4 ≤ u16 p 8 → u16 p 8 ≤ 1019 → 4 ≤ u16 p 10 → u16 p 10 ≤ 1019 →
    4 ≤ u16 p 12 → u16 p 12 ≤ 1019 → u16 p 14 = 0 → (a.sheet n).enabled = true → (a.sheet n).format = u8 p 2 →
    (a.sheet n).carriage = u8 p 3 →
    c = {
      enable := u8 p 1 = 1
      offset := s32 p 4
      background := ((u16 p 8 : Nat), (u16 p 10 : Nat), (u16 p 12 : Nat))
      notBefore := a.now + 100000 } →
    exec (.sheetConfig rq) s = .next (finish 0x7001 rq (ok (a.onSheet n (fun h => { h with staged := some c }))))) ∧
  (∀ rq s a p n (o : StagedOrder), Served 0x7002 rq s a → rq.payload = p → p.length = 36 → n = u8 p 0 → n ≤ 31 → u8 p 1 = 0 →
    u8 p 3 = 0 → u32 p 28 < 1000000000 → timeAt p 20 28 ≤ a.now + 86400000000000 → u32 p 32 = 0 → (a.sheet n).enabled = false →
    (a.sheet n).stagedOrder = none → o = {
      order := { list := false, pages := [] }
      notBefore := a.swapTime p 20 28
      handles := [handleOf 0x7002 rq] } →
    ({ a.sheet n with stagedOrder := some o }).fetchOver = false →
    exec (.sheetOrder rq) s = .next (finish 0x7002 rq (accepted ((a.onSheet n (fun h =>
      { h with order := { list := false, pages := [] }, stagedOrder := none })).complete (handleOf 0x7002 rq) 0 (timeBytes a.now))))) ∧
  (∀ rq s a p n k (h : Sheet) x, Served 0x7003 rq s a → rq.payload = p → p.length = 52 → n = u8 p 0 → n ≤ 31 → k = u8 p 1 → k ≤ 15 →
    u16 p 2 = 0 → u32 p 12 < 1000000000 → timeAt p 4 12 ≤ a.now + 86400000000000 → u32 p 16 = 0 → a.pageOk (p.drop 20) = true →
    (a.sheet n).enabled = true → Tbl.get? (a.sheet n).stagedPages k = none →
    x = StagedPage.mk (parsePage (p.drop 20)) (a.swapTime p 4 12) [handleOf 0x7003 rq] →
    h = { a.sheet n with stagedPages := Tbl.put (a.sheet n).stagedPages k x } → h.fetchOver = false →
    exec (.pageSet rq) s = .next (finish 0x7003 rq (accepted (a.onSheet n (fun _ => h))))) ∧
  (∀ rq s a p, Served 0x7004 rq s a → rq.payload = p → p.length = 4 → u8 p 0 ≤ 31 → u8 p 1 ≤ 15 → u8 p 2 = 0 → u8 p 3 = 0 →
    exec (.pageRead rq) s = .next (finish 0x7004 rq (okWith (pageBytes (Tbl.at (a.sheet (u8 p 0)).pages (u8 p 1) {})) a))) ∧
  (∀ rq s a p, Served 0x7005 rq s a → rq.payload = p → p.length = 4 → formatClass (u8 p 1) (u8 p 2) ≠ none → u8 p 3 = 0 →
    exec (.impInputConfig rq) s = .next (finish 0x7005 rq (ok (a.onImp (fun i =>
      { i with inputs := Tbl.put i.inputs (u8 p 0) { format := u8 p 1, carriage := u8 p 2 } }))))) ∧
  (∀ rq s a p h, Served 0x7006 rq s a → rq.payload = p → p.length = 4 → u8 p 0 ≤ 31 → fld p 1 3 = 0 → h = a.sheet (u8 p 0) →
    h.enabled = false →
    exec (.sheetStatus rq) s = .next (finish 0x7006 rq (okWith (bytes [u8 p 0, 0, h.format, h.drawn] ++ leBytes 4 h.frames.toNat
      ++ leBytes 4 0 ++ leBytes 4 h.fetch ++ leBytes 2 h.idlePages ++ leBytes 2 h.fetchFaults.toNat ++ timeBytes h.lastStart) a))) ∧
  (∀ n at_ pixels bad s s1 s2, n ≤ 31 → s1 = s.advance at_ → (s.sheet n).enabled = true → s.composes = true → s.underTest [10] n = false →
    (s.sheet n).repeatDue = false → s2 = (s1.swapConfig n).swapSheet n → (s2.sheet n).enabled = true →
    exec (.sheetFrameStart n at_ pixels bad) s = .next (s2.composeSheet n pixels bad)) ∧
  (∀ n at_ pixels bad s, n ≤ 31 → (s.sheet n).enabled = true → s.composes = true → s.underTest [10] n = false →
    (s.sheet n).repeatDue = true →
    exec (.sheetFrameStart n at_ pixels bad) s = .next ((s.advance at_).repeatSheet n)) ∧
  (∀ src dst black, blendPart false 1024 src dst black = clamp 4 1019 src) ∧
  (∀ src dst black, blendPart false 0 src dst black = clamp 4 1019 dst)

/-- Plates and their table (R281 to R284, R305): allocation takes the lowest free plates, freeing moves a plate's generation on and
zeroes it before it may be allocated again, mapping writes an entry with its map count and is refused where too many would be pinned,
unmapping and exporting change what they name, and what reads them reports. -/
def Obligations.PlatesAreManaged : Prop :=
  (∀ rq s a p n got t, Served 0x8001 rq s a → rq.payload = p → p.length = 4 → n = u16 p 0 → 1 ≤ n → n ≤ 512 → u16 p 2 = 0 →
    List.length a.mem.plates + n ≤ 14336 → got = pickPlates (Tbl.keys a.mem.plates) (n + (Tbl.keys a.mem.plates).length) 32768 n →
    t = each got (fun k s => s.onMem (fun m => { m with plates := Tbl.put m.plates k { state := .allocated } })) a →
    exec (.plateAlloc rq) s = .next (finish 0x8001 rq (okWith (leBytes 2 n ++ zeros 2 ++ got.flatMap (fun k => t.plateRef k)) t))) ∧
  (∀ rq s a p n, Served 0x8001 rq s a → rq.payload = p → p.length = 4 → n = u16 p 0 → 1 ≤ n → n ≤ 512 → u16 p 2 = 0 →
    14336 < List.length a.mem.plates + n → exec (.plateAlloc rq) s = .next (finish 0x8001 rq (fail 16 a))) ∧
  (∀ rq s a p k, Served 0x8002 rq s a → rq.payload = p → p.length = 8 → u16 p 0 = 1 → u16 p 2 = 0 → k = u32 (p.drop 4) 0 → 32768 ≤ k →
    k < 47104 → (a.plate k).state = .allocated → (a.plate k).mapCount = 0 →
    exec (.plateFree rq) s = .next (finish 0x8002 rq (ok (a.onMem (fun m =>
      { m with
        plates := Tbl.put m.plates k { state := .zeroing }
        generations := Tbl.upd m.generations k m.bootGeneration (fun g => g + 1) }))))) ∧
  (∀ rq s a p k, Served 0x8002 rq s a → rq.payload = p → p.length = 8 → u16 p 0 = 1 → u16 p 2 = 0 → k = u32 (p.drop 4) 0 → 32768 ≤ k →
    k < 47104 → (a.plate k).mapCount ≠ 0 → exec (.plateFree rq) s = .next (finish 0x8002 rq (fail 8 a))) ∧
  (∀ k s, (s.plate k).state = .zeroing →
    exec (.plateZeroed k) s = .next (s.onMem (fun m =>
      { m with
        plates := Tbl.del m.plates k
        dram := Memory.clear m.dram (k * 2 ^ 21) (2 ^ 21)
        poison := m.poison.filter (fun l => l / 2 ^ 21 != k) }))) ∧
  (∀ rq s a p f first k t (e : Pte), Served 0x8003 rq s a → rq.payload = p → p.length = 24 → u64 p 0 % 2 ^ 21 = 0 → u16 p 8 = 1 →
    first = u64 p 0 / 2 ^ 21 → first < 2 ^ 27 → f = u16 p 10 → f ≤ 7 → (bit f 2 = false ∨ bit f 1 = true) → u16 p 12 = 0 → u8 p 15 = 0 →
    u32 p 20 = 0 → k = u32 p 16 → k < 47104 → (bit f 0 = false ∨ 32768 ≤ k) → (32768 ≤ k → (a.plate k).state = .allocated) →
    a.entryInUse first = false → a.pinsOk [first] (bit f 1) = true →
    e = {
      writable := bit f 0
      pinned := bit f 1
      rt := bit f 2
      remote := false
      node := 0
      plate := k
      generation := BitVec.ofNat 8 (u8 p 14) } →
    t = a.mapEntry first e → (∀ c ∈ t.mem.channels, c.2.state ≠ .parked) →
    exec (.plateMap rq) s = .next (finish 0x8003 rq (ok t))) ∧
  (∀ rq s a p, Served 0x8004 rq s a → rq.payload = p → p.length = 16 → u64 p 0 % 2 ^ 21 = 0 → u16 p 8 = 1 → u64 p 0 / 2 ^ 21 < 2 ^ 27 →
    fld p 10 6 = 0 → a.entryInUse (u64 p 0 / 2 ^ 21) = false →
    exec (.plateUnmap rq) s = .next (finish 0x8004 rq (ok (a.unmapEntry (u64 p 0 / 2 ^ 21))))) ∧
  (∀ rq s a p, Served 0x8005 rq s a → rq.payload = p → p.length = 16 → u64 p 0 % 2 ^ 21 = 0 → 1 ≤ u16 p 8 → u16 p 8 ≤ 500 →
    u64 p 0 / 2 ^ 21 + u16 p 8 ≤ 2 ^ 27 → fld p 10 6 = 0 →
    exec (.plateRead rq) s = .next (finish 0x8005 rq (okWith (leBytes 2 (u16 p 8) ++ zeros 6 ++ (List.range (u16 p 8)).flatMap (fun i =>
      pteBytes (Tbl.get? a.mem.tables (u64 p 0 / 2 ^ 21 + i)))) a))) ∧
  (∀ rq s a p k, Served 0x8006 rq s a → rq.payload = p → p.length = 8 → k = u32 p 0 → u16 p 4 = 1 → u8 p 6 ≤ 2 → u8 p 7 = 0 → 32768 ≤ k →
    k < 47104 → (a.plate k).state = .allocated →
    exec (.plateExport rq) s = .next (finish 0x8006 rq (ok (a.onMem (fun m =>
      { m with plates := Tbl.upd m.plates k {} (fun x => { x with mode := u8 p 6 }) }))))) ∧
  (∀ rq s a p st, Served 0x8007 rq s a → rq.payload = p → p.length = 4 → u16 p 2 = 0 → sourceOk (u16 p 0) = true → u16 p 0 ≠ 0xFFFF →
    Tbl.get? a.lat.stores (u16 p 0) = some st → st.frames = [] →
    exec (.frameStoreInfo rq) s = .next (finish 0x8007 rq (okWith (leBytes 2 (u16 p 0)
      ++ bytes [st.format, st.carriage, st.ppf, 255, 0, 0] ++ st.plates.flatMap (fun k => a.plateRef k)) a)))

/-- Local memory (R276, R278): what is written to a general plate reads back, every other byte stays, and a line written whole is no
longer poisoned while every other poisoned line stays so. -/
def Obligations.MemoryKeepsWhatIsWritten : Prop :=
  (∀ off (data : List Byte) (s : State), 2 ^ 36 ≤ off → ((s.dramWrite off data).dramRead off data.length).1 = data) ∧
  (∀ off (data : List Byte) c (s : State), (c < off ∨ off + data.length ≤ c) → Memory.read (s.dramWrite off data).mem.dram c = Memory.read s.mem.dram c) ∧
  (∀ off (data : List Byte) l (s : State), l ∈ (s.dramWrite off data).mem.poison ↔ l ∈ s.mem.poison ∧ ¬(off ≤ l ∧ l + 64 ≤ off + data.length))

/-- Background DMA (R292 to R296, R305): DMA_SUBMIT queues a job on an idle channel and starts it, a job beyond 64 descriptors is refused
with BUSY, a completed burst of a FILL is stored and the channel goes on, a fault parks the channel, DMA_CONTROL resumes, skips or
aborts, and the last descriptor ends the job. -/
def Obligations.DmaChannelsMove : Prop :=
  (∀ rq s a p ch r j, Served 0x8008 rq s a → rq.payload = p → p.length = 36 → ch = u8 p 0 → 48 ≤ ch → ch ≤ 63 → u8 p 1 = 1 → u16 p 2 = 0 →
    r = (p.drop 4).take 32 → descriptorOk r = true → a.hostUp (parseDescriptor r) = true → (a.chan ch).jobs = [] →
    (a.chan ch).state = .idle → j = DmaJob.mk [parseDescriptor r] (handleOf 0x8008 rq) 0 →
    exec (.dmaSubmit rq) s = .next (finish 0x8008 rq (accepted ((a.onChan ch (fun c => { c with jobs := c.jobs ++ [j] })).dmaStart ch)))) ∧
  (∀ rq s a p ch r, Served 0x8008 rq s a → rq.payload = p → p.length = 36 → ch = u8 p 0 → 48 ≤ ch → ch ≤ 63 → u8 p 1 = 1 → u16 p 2 = 0 →
    r = (p.drop 4).take 32 → descriptorOk r = true → a.hostUp (parseDescriptor r) = true →
    64 ≤ (a.chan ch).jobs.foldl (fun t j => t + j.descriptors.length) 0 →
    exec (.dmaSubmit rq) s = .next (finish 0x8008 rq (fail 2 a))) ∧
  (∀ ch data s d x n, (s.chan ch).current = some d → (s.chan ch).state = .running → s.dmaWaiting ch = false →
    s.dmaHeld d (s.chan ch).progress = false → d.fill = true → d.dstSpace = 0 → s.translate (d.dst + (s.chan ch).progress) true false = .local_ x → n = s.dmaSize d (s.chan ch).progress →
    exec (.dmaBurstDone ch (.moved data)) s = .next (((s.dramWrite x (fillBytes d.src (s.chan ch).progress n)).dmaAdvance ch n).dmaKick
      ch)) ∧
  (∀ ch cause va s, (s.chan ch).state = .running →
    exec (.dmaBurstDone ch (.faulted cause va)) s = .next ((s.onChan ch (fun c =>
      { c with state := .parked, cause := cause, faultVa := va })).fault (0x180 + ch) (0x40 + cause) va)) ∧
  (∀ ch s j r, (s.chan ch).jobs = j :: r → (s.chan ch).state = .running → j.descriptors.length ≤ (s.chan ch).descIndex →
    exec (.dmaJobDone ch) s = .next (((s.onChan ch (fun c => { c with jobs := r })).complete j.handle 0
      (bytes [ch, 0] ++ leBytes 2 (s.chan ch).descIndex ++ zeros 4 ++ leBytes 8 j.moved ++ leBytes 8 0)).dmaStart ch)) ∧
  (∀ rq s a p ch, Served 0x8009 (withOp 0 rq) s a → (withOp 0 rq).payload = p → p.length = 4 → ch = u8 p 0 → u8 p 1 = 0 → 48 ≤ ch →
    ch ≤ 63 → u16 p 2 = 0 → (a.chan ch).state = .parked →
    exec (.dmaControlResume rq) s = .next (finish 0x8009 (withOp 0 rq) (ok ((a.onChan ch (fun c =>
      { c with state := .running })).dmaKick ch)))) ∧
  (∀ rq s a p ch d, Served 0x8009 (withOp 1 rq) s a → (withOp 1 rq).payload = p → p.length = 4 → ch = u8 p 0 → u8 p 1 = 1 → 48 ≤ ch →
    ch ≤ 63 → u16 p 2 = 0 → (a.chan ch).state = .parked → (a.chan ch).current = some d →
    exec (.dmaControlSkip rq) s = .next (finish 0x8009 (withOp 1 rq) (ok ((a.dmaPass ch
      (a.dmaSize d (a.chan ch).progress)).dmaResume ch)))) ∧
  (∀ rq s a p ch, Served 0x8009 (withOp 2 rq) s a → (withOp 2 rq).payload = p → p.length = 4 → ch = u8 p 0 → u8 p 1 = 2 → 48 ≤ ch →
    ch ≤ 63 → u16 p 2 = 0 → (a.chan ch).state = .running →
    exec (.dmaControlAbort rq) s = .next (finish 0x8009 (withOp 2 rq) (ok ((a.dmaForget ch).dmaEnd ch 8 0 0)))) ∧
  (∀ rq s a p ch, Served 0x8009 (withOp 2 rq) s a → (withOp 2 rq).payload = p → p.length = 4 → ch = u8 p 0 → u8 p 1 = 2 → 48 ≤ ch →
    ch ≤ 63 → u16 p 2 = 0 → (a.chan ch).state = .idle →
    exec (.dmaControlAbort rq) s = .next (finish 0x8009 (withOp 2 rq) (fail 8 a))) ∧
  (∀ rq s a p ch c, Served 0x800A rq s a → rq.payload = p → p.length = 4 → ch = u8 p 0 → 48 ≤ ch → ch ≤ 63 → fld p 1 3 = 0 →
    c = a.chan ch →
    exec (.dmaStatus rq) s = .next (finish 0x800A rq (okWith (bytes [ch, c.state.code, c.cause, c.jobs.length] ++ leBytes 2 c.descIndex
      ++ leBytes 2 (c.jobs.foldl (fun t j => t + j.descriptors.length) 0) ++ leBytes 8 c.progress ++ leBytes 8 c.faultVa
      ++ leBytes 8 c.bytesTotal.toNat) a)))

/-- Stacks, cache, bus matrix and remote DMA (R278, R279, R286, R288, R289, R298 to R303, R305): MEM_CONFIG sets the scrub period and the
status commands report, a walk fills a way, the scrubber counts its lines and a line it finds uncorrectable is poisoned, a remote
request for this device is checked, served and answered, an answer goes to the channel that waits for it, and the matrix counts what it
does not provide, goes to ordered mode when a request times out, and returns to service when recovery is released. -/
def Obligations.MatrixServes : Prop :=
  (∀ rq s a p t x, Served 0x800B rq s a → rq.payload = p → p.length = 4 → u8 p 0 ≤ 3 → fld p 1 3 = 0 → a.memStatus (u8 p 0) = (x, t) →
    exec (.memStatus rq) s = .next (finish 0x800B rq (okWith x t))) ∧
  (∀ rq s a p, Served 0x800C rq s a → rq.payload = p → p.length = 4 → 1 ≤ u8 p 0 → u8 p 0 ≤ 24 → fld p 1 3 = 0 →
    exec (.memConfig rq) s = .next (finish 0x800C rq (ok (a.onMem (fun m => { m with scrubHours := u8 p 0 }))))) ∧
  (∀ rq s a, Served 0x800D rq s a → rq.payload = [] → exec (.cacheStatus rq) s = .next (finish 0x800D rq (okWith a.cacheStatus a))) ∧
  (∀ rq s a, Served 0x800E rq s a → rq.payload = [] →
    exec (.matrixStatus rq) s = .next (finish 0x800E rq (okWith (bytes [flag (a.mem.matrixWhy != .none), a.mem.matrixWhy.code,
      flag a.mem.remap, 0] ++ leBytes 4 a.mem.decodeErrors.toNat ++ leBytes 4 a.mem.timeouts.toNat ++ bytes a.mem.outstanding) a))) ∧
  (∀ va s k e, k = va / 2 ^ 21 → s.mem.walks.contains k = true → Tbl.get? s.mem.tables k = some e → e.remote = false → e.plate < 47104 →
    exec (.walkDone va false) s = .next ((s.onMem (fun m =>
      { m with walks := m.walks.erase k ++ m.walkQueue.take 1, walkQueue := m.walkQueue.drop 1 ++ m.walkHeld.take 1, walkHeld := m.walkHeld.drop 1 })).onMem (fun m =>
      { m with cache := trimSet m.tables (k :: m.cache.erase k) (k % 512) }))) ∧
  (∀ n off at_ s, n = off / 4096 % 4 → (s.stack n).scrubDone + 1 < stackLines →
    exec (.scrubRead off .clean at_) s = .next ((s.advance at_).onStack n (fun k =>
      if k.scrubDone + 1 ≥ stackLines then { k with scrubDone := 0, scrubPasses := k.scrubPasses + 1 }
      else { k with scrubDone := k.scrubDone + 1 })) ∧
    ∃ t : State, exec (.scrubRead off .clean at_) s = .next t ∧ (t.stack n).scrubDone = (s.stack n).scrubDone + 1) ∧
  (∀ n b s s1 m k g off r, blocksOf b.length ≤ s.creditRoom n 2 → s1 = s.gotBlocks n 2 (blocksOf b.length) → (s1.link n).state = .up → txOk b = true →
    (parseTx b).content = 1 → (parseTx b).kind = 0 → m = b.drop 8 → dmaMessageOk m = true → u8 m 0 = 1 → u16 m 4 = s1.node → s1.node ≠ 0 →
    s1.mem.matrixWhy = .none → s1.twin.role ≠ .standby → k = u32 m 8 % 2 ^ 21 → g = BitVec.ofNat 8 (u32 m 8 / 2 ^ 24) →
    off = u32 m 12 % 2 ^ 21 → s1.dmaCheck false k g off (u16 m 2) = 0 → r = s1.dramRead (k * 2 ^ 21 + off) (u16 m 2) →
    exec (.readReq n b) s = .next (r.2.dmaRespond n (parseTx b).txid (dmaMessage 2 0 (u16 m 2) (u16 m 6) s1.node k g off r.1))) ∧
  (∀ n b s s1 m k g off, blocksOf b.length ≤ s.creditRoom n 2 → s1 = s.gotBlocks n 2 (blocksOf b.length) → (s1.link n).state = .up → txOk b = true →
    (parseTx b).content = 1 → (parseTx b).kind = 0 → m = b.drop 8 → dmaMessageOk m = true → u8 m 0 = 3 → u16 m 4 = s1.node → s1.node ≠ 0 →
    s1.mem.matrixWhy = .none → s1.twin.role ≠ .standby → k = u32 m 8 % 2 ^ 21 → g = BitVec.ofNat 8 (u32 m 8 / 2 ^ 24) →
    off = u32 m 12 % 2 ^ 21 → s1.dmaCheck true k g off (u16 m 2) = 0 →
    exec (.writeReq n b) s = .next ((s1.dramWrite (k * 2 ^ 21 + off) (m.drop 24)).dmaRespond n (parseTx b).txid
      (dmaMessage 4 0 (u16 m 2) (u16 m 6) s1.node k g off []))) ∧
  (∀ n b s s1 t ch, blocksOf b.length ≤ s.creditRoom n 2 → s1 = s.gotBlocks n 2 (blocksOf b.length) → (s1.link n).state = .up → txOk b = true → (parseTx b).content = 1 →
    (parseTx b).kind = 1 → dmaMessageOk (b.drop 8) = true → s1.findTxn n 2 (parseTx b).txid = some t → t.inLink = none →
    t.dmaChannel = some ch →
    exec (.readData n b) s = .next ((s1.closeTxn n t).dmaAnswered ch (b.drop 8)) ∧
    exec (.writeAck n b) s = .next ((s1.closeTxn n t).dmaAnswered ch (b.drop 8))) ∧
  (∀ m x s, exec (.matrixTimeout m x) s = .next (((s.onMem (fun q => { q with timeouts := q.timeouts + 1 })).matrixOrdered
    .recovery).fault 0x1C1 0x51 (masterIndex m * 2 ^ 45 + x % 2 ^ 45))) ∧
  (∀ m x s, exec (.decodeError m x) s = .next ((s.onMem (fun q => { q with decodeErrors := q.decodeErrors + 1 })).fault 0x1C1 0x50
    (masterIndex m * 2 ^ 45 + x % 2 ^ 45))) ∧
  (∀ s, s.mem.matrixWhy = .recovery →
    exec .matrixRecoveryRelease s = .next ((s.onMem (fun m => { m with matrixWhy := .none })).judgeHold))

/-- Commands of class 0x9 (R306, R311, R318, R322, R323, R329, R331): each write sets what its fields say, TIME_SET is refused while the
time of a reference is followed, a rate outside ±100 ppm and a CLKMON source above 250 MHz are refused, and the reads report. -/
def Obligations.TimeCommandsAct : Prop :=
  (∀ rq s a, Served 0x9001 rq s a → rq.payload = [] →
    exec (.timeRead rq) s = .next (finish 0x9001 rq (okWith (timeBytes a.now ++ leBytes 2 (a.tb.t40 % nsUnits / 2 ^ 24)
      ++ bytes [a.ref.state.code, 0]) a))) ∧
  (∀ rq s a p, Served 0x9002 rq s a → rq.payload = p → p.length = 16 → u32 p 8 < 1000000000 → u32 p 12 = 0 →
    (a.ref.state = .freeRun ∨ a.ref.state = .holdover ∨ a.ref.state = .lost) →
    exec (.timeSet rq) s = .next (finish 0x9002 rq (ok (a.stepTo (timeAt p 0 8 * nsUnits))))) ∧
  (∀ rq s a p, Served 0x9002 rq s a → rq.payload = p → p.length = 16 → u32 p 8 < 1000000000 → u32 p 12 = 0 → a.ref.state = .locked →
    (a.ref.selected = some 2 ∨ a.ref.selected = some 3 ∨ a.ref.selected = some 4) →
    exec (.timeSet rq) s = .next (finish 0x9002 rq (fail 8 a))) ∧
  (∀ rq s a p i, Served 0x9003 rq s a → rq.payload = p → p.length = 16 → i = u8 p 0 → i ≤ 6 → (i < 2 ∨ 4 < i) → u8 p 3 ≤ 1 →
    (i ≠ 5 → u8 p 3 = 0) → u16 p 4 = 0 → u16 p 6 = 0 → u32 p 12 = 0 →
    exec (.refConfig rq) s = .next (finish 0x9003 rq (ok ((a.onCand i (fun c =>
      { c with
        priority := u8 p 1
        configQuality := u8 p 2
        tenm := u8 p 3 = 1
        lane := 0
        asymPs := s32 p 8 })).reselect true)))) ∧
  (∀ rq s a p, Served 0x9004 rq s a → rq.payload = p → p.length = 12 → 5 ≤ u16 p 0 → u16 p 0 ≤ 5000 → u8 p 2 ≤ 60 → u8 p 3 < 4 →
    60 ≤ u32 p 4 → u32 p 4 ≤ 604800 → 1 ≤ u8 p 8 → u8 p 8 ≤ 100 → u16 p 10 = 0 →
    exec (.refGlobal rq) s = .next (finish 0x9004 rq (ok ((a.onRef (fun r =>
      { r with
        slope := u16 p 0
        qualS := u8 p 2
        stepFirst := bit (u8 p 3) 0
        ocxoEnable := bit (u8 p 3) 1
        holdoverMaxS := u32 p 4
        freqLimitPpm := u8 p 8
        qualityLimit := u8 p 9 })).aim.reselect true)))) ∧
  (∀ rq s a i, Served 0x9005 rq s a → rq.payload = [] → a.ref.selected = some i →
    exec (.refStatus rq) s = .next (finish 0x9005 rq (okWith (bytes [i, a.ref.state.code, a.advertised,
        flag a.ref.slewing + 2 * flag a.hasHistory + 4 * flag a.ocxoGood]
      ++ leInt 4 a.ref.remainingNs ++ leBytes 4 ((a.now - a.ref.stateSince) / 1000000000) ++ leInt 4 a.freqPpb
      ++ (List.range 8).flatMap (fun i => a.candRecord i)) a))) ∧
  (∀ rq s a p, Served 0x9006 rq s a → rq.payload = p → p.length = 4 → u8 p 0 ≤ 1 → u8 p 1 ≤ 127 → u8 p 2 ≤ 1 → 2 ≤ u8 p 3 → u8 p 3 ≤ 10 →
    exec (.ptpConfig rq) s = .next (finish 0x9006 rq (ok (a.onPtp (u8 p 0) (fun i =>
      { i with domain := u8 p 1, hybrid := u8 p 2 = 1, announceTimeout := u8 p 3 }))))) ∧
  (∀ rq s a p i, Served 0x9007 rq s a → rq.payload = p → p.length = 4 → u8 p 0 ≤ 1 → fld p 1 3 = 0 → i = a.ptp (u8 p 0) →
    exec (.ptpStatus rq) s = .next (finish 0x9007 rq (okWith (leBytes 8 i.gm ++ bytes [i.clockClass, i.accuracy]
      ++ leBytes 2 i.variance ++ leInt 4 i.offsetNs ++ leBytes 4 i.pathNs ++ leInt 2 i.utcOffset ++ leBytes 2 i.steps.toNat
      ++ leBytes 4 i.syncRx.toNat ++ leBytes 4 i.announceRx.toNat) a))) ∧
  (∀ rq s a p, Served 0x9008 rq s a → rq.payload = p → p.length = 4 → -100000 ≤ s32 p 0 → s32 p 0 ≤ 100000 → a.ref.state = .freeRun →
    exec (.freqTrim rq) s = .next (finish 0x9008 rq (ok (State.aim (a.onRef (fun r =>
      { r with trimPpb := s32 p 0, base := ppbInc (s32 p 0) })))))) ∧
  (∀ rq s a p, Served 0x9008 rq s a → rq.payload = p → p.length = 4 → (s32 p 0 < -100000 ∨ 100000 < s32 p 0) →
    exec (.freqTrim rq) s = .next (finish 0x9008 rq (fail 7 a))) ∧
  (∀ rq s a p, Served 0x9009 rq s a → rq.payload = p → p.length = 4 → u8 p 0 < 32 → fld p 1 3 = 0 →
    exec (.captureConfig rq) s = .next (finish 0x9009 rq (ok (a.onRef (fun r => { r with captureMask := u8 p 0 }))))) ∧
  (∀ rq s a p n, Served 0x900A rq s a → rq.payload = p → p.length = 4 → n = u8 p 0 → 1 ≤ n → n ≤ 64 → fld p 1 3 = 0 →
    exec (.captureRead rq) s = .next (finish 0x900A rq (okWith (bytes [(a.ref.captures.take n).length, a.ref.capturesLost, 0, 0]
      ++ (a.ref.captures.take n).flatMap captureBytes) (a.onRef (fun r => { r with captures := r.captures.drop n }))))) ∧
  (∀ rq s a p hz, Served 0x900B rq s a → rq.payload = p → p.length = 4 → u8 p 1 = 0 → a.clkmonHz (u8 p 0) = some hz →
    hz ≤ 250000000 * (u16 p 2 + 1) → (u8 p 0 < 0x40 ∨ 0x42 < u8 p 0) →
    exec (.clkmonSet rq) s = .next (finish 0x900B rq (ok (a.onRef (fun r =>
      { r with clkmonSource := u8 p 0, clkmonDiv := u16 p 2 }))))) ∧
  (∀ rq s a p hz, Served 0x900B rq s a → rq.payload = p → p.length = 4 → u8 p 1 = 0 → a.clkmonHz (u8 p 0) = some hz →
    250000000 * (u16 p 2 + 1) < hz → exec (.clkmonSet rq) s = .next (finish 0x900B rq (fail 7 a))) ∧
  (∀ rq s a good, Served 0x900C rq s a → rq.payload = [] → good = (fun c => (Tbl.at a.ref.clocks c {}).good) →
    exec (.clockStatus rq) s = .next (finish 0x900C rq (okWith (bytes [flag (good 0) + 2 * flag a.ocxoGood + 4 * flag (good 2)
        + 8 * flag a.ref.xoUnmonitored, a.ref.clkmonSource] ++ leBytes 2 a.ref.clkmonDiv ++ leBytes 6 a.ref.onFallback
      ++ leBytes 2 ((List.range 11).foldl (fun m n => if good (0x10 + n) then m else m + 2 ^ n) 0)
      ++ leBytes 4 a.ref.failures.toNat) a))) ∧
  (∀ rq s a p, Served 0x900D rq s a → rq.payload = p → p.length = 12 → -86399 ≤ s32 p 0 → s32 p 0 ≤ 86399 → u32 p 4 ≤ 86399 →
    u8 p 8 ≤ 1 → u8 p 9 = 0 →
    exec (.tcConfig rq) s = .next (finish 0x900D rq (ok (a.onRef (fun r =>
      { r with localOffset := s32 p 0, jamS := u32 p 4, utcMode := u8 p 8, utcManual := s16 p 10 })))))

/-- Candidates and the selector (R309 to R317, R321, R322): a candidate becomes present, qualifies once it has been present for qual_s,
and is lost at once when absent; the lowest quality value, then priority value, then index is selected; the servo takes the measured
frequency error out of the increment and its sixteenth good update locks; holdover ends in LOST; edges set the phase error and are
captured; PTP messages give the grandmaster, the sync times and the offset. -/
def Obligations.CandidatesAreSelected : Prop :=
  (∀ i at_ pp off hz s t, t = s.advance at_ → i ≤ 7 → (t.cand i).present = false →
    exec (.candidatePresent i at_ pp off hz) s = .next (t.onCand i (fun c =>
      { c with present := true, presentSince := t.now, phasePeriod := pp, phaseNs := reducePhase pp off, freqPpb := hz }))) ∧
  (∀ i at_ s t, t = s.advance at_ → i ≤ 1 → (t.cand i).present = true → (t.cand i).qualified = true →
    exec (.candidateAbsent i at_) s = .next (((t.onCand i (fun c =>
      { c with present := false, qualified := false, losses := c.losses + 1 })).raise 7 3 i (bytes [0])).reselect true)) ∧
  (∀ i at_ off hz s t, t = s.advance at_ → i ≤ 7 → (t.cand i).present = true → (t.cand i).qualified = false →
    (t.cand i).presentSince + t.ref.qualS * 1000000000 ≤ t.now → hz.natAbs ≤ t.ref.freqLimitPpm * 1000 →
    exec (.candidateQualified i at_ off hz) s = .next (((t.onCand i (fun c =>
      { c with qualified := true, phaseNs := reducePhase c.phasePeriod off, freqPpb := hz })).raise 7 3 i (bytes [1])).reselect
        true)) ∧
  (∀ (s : State) i, s.selectorOn = true → s.best = some i → s.ref.selected = none → s.reselect true = s.acquire i true) ∧
  (∀ at_ ph e s, ((s.advance at_).ref.state = .acquiring ∨ (s.advance at_).ref.state = .locked) →
    (s.advance at_).ref.selected ≠ none → s.selectorOn = true → ∃ t : State, exec (.servoUpdate at_ ph e) s = .next t ∧
      t.ref.base = (s.advance at_).ref.base - Int.fdiv (e * nominalInc) 1000000000000 ∧ t.ref.remainingNs = ph ∧
      ((s.advance at_).ref.state = .acquiring → (s.advance at_).ref.goodUpdates = 15 → e.natAbs ≤ 50000 → t.ref.state = .locked)) ∧
  (∀ at_ s t, t = s.advance at_ → t.ref.state = .holdover → t.ref.stateSince + t.ref.holdoverMaxS * 1000000000 ≤ t.now →
    exec (.holdoverExpiry at_) s = .next ((t.setRef .lost).refLost)) ∧
  (∀ i at_ fr asg s t, t = s.advance at_ → i ≤ 1 → (t.cand i).present = true →
    exec (.refSyncEdge i at_ fr asg) s = .next ((t.onCand i (fun c =>
      { c with phaseNs := reducePhase c.phasePeriod ((at_ : Int) - asg - Int.fdiv c.asymPs 1000) })).captureEdge i at_ fr)) ∧
  (∀ at_ fr s t, t = s.advance at_ → (t.cand 5).present = true →
    exec (.ppsEdge at_ fr) s = .next ((t.onCand 5 (fun c =>
      { c with phaseNs := reducePhase c.phasePeriod ((at_ : Int) - ((at_ + 500000000) / 1000000000 * 1000000000 : Nat)
          - Int.fdiv c.asymPs 1000) })).captureEdge 2 at_ fr)) ∧
  (∀ i at_ fr (s : State), bit s.ref.captureMask i = true → s.ref.captures.length < 64 →
    s.captureEdge i at_ fr = s.onRef (fun r => { r with captures := r.captures ++ [{ source := i, t := at_, frac := fr }] })) ∧
  (∀ port t1 t2 mac ip at_ s, port ≤ 1 → exec (.ptpMessage port (.sync t1 t2 mac ip) at_) s = .next (((s.advance at_).onPtp port (fun p =>
    { p with t1 := t1, t2 := t2, syncRx := p.syncRx + 1 })).sendDelayReq port mac ip)) ∧
  (∀ port seq t4 at_ s i, port ≤ 1 → i = s.ptp port → seq = i.reqSeq → (s.cand (2 + port)).present = true →
    ∃ t : State, exec (.ptpMessage port (.delayResp seq t4) at_) s = .next t ∧
      (t.ptp port).offsetNs = Int.fdiv (((i.t2 : Int) - i.t1) - ((t4 : Int) - i.t3)) 2 - Int.fdiv (s.ptpPort port).asymPs 1000 ∧
      (t.cand (2 + port)).phaseNs = (t.ptp port).offsetNs) ∧
  (∀ port seq t4 at_ s, port ≤ 1 → seq ≠ (s.ptp port).reqSeq →
    exec (.ptpMessage port (.delayResp seq t4) at_) s = .next (s.advance at_))

/-- Time over Voxad and the clock monitor (R319, R320, R326 to R328): the parent end launches TIME_SYNC with the next sequence number and
answers DELAY_REQ with its arrival time, the child end sends DELAY_REQ and completes its offset from DELAY_RESP, a message of another
kind is counted, and a window that the monitor refuses is a failure, raises fault code 0x72 and ends the clock's good state. -/
def Obligations.TimeIsCarriedAndWatched : Prop :=
  (∀ n at_ s t q, t = s.advance at_ → (t.link n).state = .up → t.timeParent n = true → q = ((t.link n).seqSync + 1) % 65536 →
    exec (.timeSyncSend n at_) s = .next ((t.onLink n (fun l => { l with seqSync := q })).putLink n 3
      (t.timeMessage 1 q t.now (t.tb.t40 % nsUnits / 2 ^ 24)))) ∧
  (∀ n at_ s t q, t = s.advance at_ → (t.link n).state = .up → t.timeChild n = true → q = ((t.link n).seqReq + 1) % 65536 →
    exec (.delayReqSend n at_) s = .next ((t.onLink n (fun l => { l with seqReq := q, reqT3 := t.now })).putLink n 3
      (t.timeMessage 2 q 0 0))) ∧
  (∀ n m t fr s a, 1 ≤ s.creditRoom n 3 → a = s.gotBlocks n 3 1 → m.length = 40 → u8 m 0 = 2 → a.timeParent n = true →
    exec (.delayReq n m t fr) s = .next (a.putLink n 3 (a.timeMessage 3 (u16 m 2) t fr))) ∧
  (∀ n m t s a, 1 ≤ s.creditRoom n 3 → a = s.gotBlocks n 3 1 → m.length = 40 → u8 m 0 = 1 → (a.link n).role = .twin → a.twin.role = .standby →
    exec (.timeSync n m t) s = .next (a.onLink n (fun l => { l with seqSync := u16 m 2, syncT1 := messageTime m, syncT2 := t }))) ∧
  (∀ n m s a l, 1 ≤ s.creditRoom n 3 → a = s.gotBlocks n 3 1 → m.length = 40 → u8 m 0 = 3 → l = a.link n → l.role = .parent → u16 m 2 = l.seqReq →
    a.hier.primary = n → (a.cand 4).present = true →
    exec (.delayResp n m) s = .next (a.onCand 4 (fun c =>
      { c with phaseNs := Int.fdiv (((l.syncT2 : Int) - l.syncT1) - ((messageTime m : Int) - l.reqT3)) 2
          - Int.fdiv c.asymPs 1000 }))) ∧
  (∀ n m t s, 1 ≤ s.creditRoom n 3 → u8 m 0 ≠ 1 → exec (.timeSync n m t) s = .next ((s.gotBlocks n 3 1).onLink n (fun l =>
    { l with vc3Unknown := l.vc3Unknown + 1 }))) ∧
  (∀ (s : State) kind q t fr, List.length (s.timeMessage kind q t fr) = 40) ∧
  (∀ c n at_ s t m, t = s.advance at_ → 0x10 ≤ c → c ≤ 0x1A → countOk c n = true → m = t.clockMon c → m.good = true → m.stable < 16 →
    exec (.clockWindow c n at_) s = .next (t.onRef (fun r =>
      { r with clocks := Tbl.upd r.clocks c {} (fun m => { m with stable := m.stable + 1 }) }))) ∧
  (∀ c n at_ s, 0x10 ≤ c → c ≤ 0x1A → countOk c n = false → (s.advance at_).ref.failures.toNat + 1 < 2 ^ 32 →
    ∃ t : State, exec (.clockWindow c n at_) s = .next t ∧ (t.clockMon c).good = false ∧ (t.clockMon c).stable = 0 ∧
      t.ref.failures.toNat = (s.advance at_).ref.failures.toNat + 1) ∧
  (∀ n, countOk 0 n = true ↔ 225 ≤ n ∧ n ≤ 275) ∧ (∀ n, countOk 1 n = true ↔ 99 ≤ n ∧ n ≤ 101) ∧
  (∀ n, countOk 2 n = true ↔ 900 ≤ n ∧ n ≤ 1100)

/-- The selector's order (R311): where every priority is a byte, the candidate selected is eligible and no eligible candidate has a lower
quality value, nor the same quality value and a lower priority value, nor the same of both and a lower index. -/
def Obligations.SelectorTakesTheBest : Prop :=
  ∀ (s : State) i, (∀ j, (s.cand j).priority ≤ 255) →
    (s.best = some i ↔ i ≤ 7 ∧ s.eligible i = true ∧ ∀ j, j ≤ 7 → s.eligible j = true → j ≠ i →
      s.candQuality i < s.candQuality j ∨ (s.candQuality i = s.candQuality j ∧ ((s.cand i).priority < (s.cand j).priority ∨
        ((s.cand i).priority = (s.cand j).priority ∧ i < j))))

/-- Pairing (R336, R337, R343, R348): TWIN_CONFIG sets the link and the times, TWIN_PAIR and auto_pair start step 1, TWIN_PAIR is refused
in any other state and on a narrow link, STATE_COPY is executed only on the twin link and gives the standby settings, plates and table
entries, the pair settles with its two events, TWIN_SWAP is armed and taken at its instant, and TWIN_STATUS and TWIN_HEALTH report. -/
def Obligations.TwinsPair : Prop :=
  (∀ rq s a p, Served 0xA001 rq s a → rq.payload = p → p.length = 8 → u8 p 0 = 1 → u8 p 1 ≤ 1 → u8 p 2 ≤ 63 → u8 p 3 = 0 →
    500 ≤ u16 p 4 → u16 p 4 ≤ 60000 → 100 ≤ u16 p 6 → u16 p 6 ≤ 1000 → (a.link (u8 p 2)).role = .twin → a.twin.role = .solo →
    exec (.twinConfig rq) s = .next (finish 0xA001 rq (ok (a.onTwin (fun t =>
      { t with
        enable := true
        autoPair := bit (u8 p 1) 0
        link := u8 p 2
        settleMs := u16 p 4
        mirrorLeadUs := u16 p 6 }))))) ∧
  (∀ rq s a, Served 0xA002 rq s a → rq.payload = [] → a.mayPair = true → 38750000 ≤ (a.link a.twin.link).payload →
    exec (.twinPair rq) s = .next (finish 0xA002 rq (accepted (a.startPair (some (handleOf 0xA002 rq)))))) ∧
  (∀ rq s a, Served 0xA002 rq s a → rq.payload = [] → a.twin.role ≠ .solo → exec (.twinPair rq) s = .next (finish 0xA002 rq (fail 8 a))) ∧
  (∀ rq s a, Served 0xA002 rq s a → rq.payload = [] → a.mayPair = true → (a.link a.twin.link).payload < 38750000 →
    exec (.twinPair rq) s = .next (finish 0xA002 rq (fail 16 a))) ∧
  (∀ at_ s t, t = s.advance at_ → t.twin.autoPair = true → t.twin.position = false → t.boot.phase = 0xFF → t.inField = true →
    t.mayPair = true → t.twinWide = true → exec (.autoPair at_) s = .next (t.startPair none)) ∧
  (∀ rq s a p, Served 0xA012 rq s a → rq.payload = p → onTwinLink rq a = true → u8 p 0 = 7 → a.twin.role = .standby →
    exec (.stateCopy rq) s = .next (finish 0xA012 rq (ok ((a.dramWrite (u32 p 4 * 2 ^ 21 + u32 p 8) (p.drop 12)).onTwin (fun t =>
      { t with copiedBytes := t.copiedBytes + (p.length - 12) }))))) ∧
  (∀ rq s a p body b, Served 0xA012 rq s a → rq.payload = p → onTwinLink rq a = true → u8 p 0 = 1 → a.twin.role = .standby →
    settingBody (u16 p 2) = some body → b = ({ port := .link 255, flags := 8, payload := p.drop 4 } : Request) →
    exec (.stateCopy rq) s = .next (finish 0xA012 rq (ok ((body b a).2.noteSetting (u16 p 2) b (body b a).1.status)))) ∧
  (∀ at_ s t, t = s.advance at_ → t.twin.pairState = 2 → t.twin.role = .standby →
    t.twin.settleFrom + t.twin.settleMs * 1000000 ≤ t.now →
    exec (.settled at_) s = .next (((t.onTwin (fun w => { w with settled := true, pairState := 3, own := [], units := [] })).raise 8 2
      t.twin.link (leBytes 8 t.twin.copiedBytes)).raise 8 3 t.twin.link [])) ∧
  (∀ rq s a p, Served 0xA003 rq s a → rq.payload = p → p.length = 16 → u32 p 8 < 1000000000 → u32 p 12 = 0 → a.twin.role = .active →
    a.twin.mirrored = true → a.twinUp = true → a.peerFit = true → a.twin.fitLost = false → a.twin.swapHandle = none →
    a.now + 1000000 ≤ timeAt p 0 8 →
    exec (.twinSwap rq) s = .next (finish 0xA003 rq (accepted (a.onTwin (fun w =>
      { w with swapAt := some (timeAt p 0 8), swapHandle := some (handleOf 0xA003 rq) }))))) ∧
  (∀ rq s a p, Served 0xA003 rq s a → rq.payload = p → p.length = 16 → u32 p 8 < 1000000000 → u32 p 12 = 0 → a.twin.role ≠ .active →
    exec (.twinSwap rq) s = .next (finish 0xA003 rq (fail 8 a))) ∧
  (∀ at_ s t h x, t = s.advance at_ → t.twin.swapHandle = some h → t.twin.role = .active → t.twin.swapAt ≠ none →
    x = t.twinDrop ((t.now / 1000 + 1) * 1000) 3 →
    exec (.twinSwapDue at_) s = .next (((x.advance (x.twin.tDrop + 1000)).onTwin (fun w =>
      { w with swapAt := none, swapHandle := none })).complete h 0 [])) ∧
  (∀ rq s a t, Served 0xA004 rq s a → rq.payload = [] → t = a.twin →
    exec (.twinStatus rq) s = .next (finish 0xA004 rq (okWith (bytes [t.role.code + 4 * flag t.position + 8 * flag t.act
        + 16 * flag t.peerPin + 32 * flag t.mirrored + 64 * flag t.settled + 128 * flag a.peerFit, t.link, t.pairState, t.cause]
      ++ leBytes 4 t.takeovers.toNat ++ timeBytes t.tDrop ++ leBytes 4 t.mirroredCmds.toNat ++ leBytes 2 t.progress ++ zeros 2) a))) ∧
  (∀ rq s a r, Served 0xA005 rq s a → rq.payload = [] → a.twin.report = some r →
    exec (.twinHealth rq) s = .next (finish 0xA005 rq (okWith r.bytes a))) ∧
  (∀ rq s a, Served 0xA005 rq s a → rq.payload = [] → a.twin.report = none →
    exec (.twinHealth rq) s = .next (finish 0xA005 rq (fail 8 a)))

/-- The pair at work (R335, R339 to R342, R344 to R346): the standby's final status is compared with the active's own, digests leave every
100 us and are compared, a unit without a record is missed, the standby reports each second and the active keeps the report and tells
its absence once, TWIN_PEER's fall makes the standby active, and contention is resolved at position 1. -/
def Obligations.TwinsTakeOver : Prop :=
  (∀ op tag st s, s.twin.role = .active → st ≠ 1 →
    exec (.mirrorStatusReceived op tag st) s = .next (s.mirrorSide op tag (fun e => { e with peer := some st }))) ∧
  (∀ (e : MirrorWait) st (s : State), e.own = some st → e.peer = some st →
    s.mirrorJudge e = s.onPorts (fun p => { p with mirrorPending := p.mirrorPending.erase e })) ∧
  (∀ at_ s t u sdi all l n x v, t = s.advance at_ → t.twin.role = .active → t.twin.mirrored = true → t.twinUp = true →
    t.sdiDigests = (sdi, u) → all = u.twin.own.filter (·.done) ++ sdi → all = l → 1 ≤ l.length → l.length ≤ 340 →
    v = u.onTwin (fun w => { w with own := w.own.filter (fun r => !r.done) }) → n = leBytes 2 l.length ++ zeros 2 ++ l.flatMap digestBytes →
    x = v.ownPacket 0xA010 0 n → exec (.digestsSend at_) s = .next (x.2.putPacket x.2.twin.link 2 0 2 0 8 x.1)) ∧
  (∀ rq s, onTwinLink rq s = true → s.twin.role = .standby → s.twin.settled = true → s.twin.mirrored = true →
    exec (.digests rq) s = .next (each (records rq.payload 4 12 (u16 rq.payload 0)) (fun r s => s.compareDigest (parseDigest r)) s)) ∧
  (∀ (r : DigestRec) (s : State), ∃ t : State, t = s.compareUnit r r.crc ∧ t.twin.compared = s.twin.compared + 1 ∧
    t.twin.sdiMismatch = s.twin.sdiMismatch ∧ Tbl.get? t.twin.units (r.kind * 65536 + r.dest) = some { mismatches := 0 }) ∧
  (∀ d k i at_ s t, t = s.advance at_ → t.twin.role = .standby → t.twin.settled = true → t.twin.mirrored = true →
    exec (.digestMissed d k i at_) s = .next (t.onTwin (fun w =>
      { w with missed := w.missed + 1, own := w.own.filter (fun x => !(x.dest = d && x.kind = k && x.index = i)) }))) ∧
  (∀ at_ s, (s.advance at_).twin.role = .standby → ∃ t : State, exec (.healthSend at_) s = .next t ∧
    t.twin.healthSeq = s.twin.healthSeq + 1 ∧ t.twin.compared = 0 ∧ t.twin.missed = 0 ∧ t.twin.sdiMismatch = 0 ∧ t.twin.firstDest = 65535) ∧
  (∀ (s : State), s.healthReport.length = 48) ∧
  (∀ rq s, onTwinLink rq s = true → s.twin.role = .active → rq.payload.length = 48 →
    exec (.health rq) s = .next (s.onTwin (fun t => { t with report := some { bytes := rq.payload, t := s.now }, lateRaised := false }))) ∧
  (∀ at_ s t r, t = s.advance at_ → t.twin.role = .active → t.twin.lateRaised = false → t.twin.report = some r →
    r.t + 3000000000 ≤ t.now →
    exec (.healthLate at_) s = .next ((t.onTwin (fun w => { w with lateRaised := true })).raise 8 8 0 (leBytes 4 (u32 r.bytes 0)))) ∧
  (∀ at_ s, s.twin.peerPin = true → s.twin.role = .standby → s.topSeverity < 5 → ∃ t : State,
    exec (.twinPeerChange false at_) s = .next (each t.mem.channels (fun e x => x.dmaKick e.1) (t.reselect false).resendRuns) ∧
    t.twin.role = .active ∧ t.twin.act = true ∧
    t.twin.peerPin = false ∧ t.twin.takeovers = s.twin.takeovers + 1 ∧ t.twin.tDrop = (s.advance at_).now / 1000 * 1000) ∧
  (∀ at_ s, s.twin.peerPin = true → s.twin.role = .standby → s.topSeverity = 5 → ∃ t : State,
    exec (.twinPeerChange false at_) s = .next t ∧ t.twin.role = .standby ∧ t.twin.act = s.twin.act) ∧
  (∀ at_ s t, t = s.advance at_ → t.twin.act = true → t.twin.peerPin = true → t.twin.position = false →
    exec (.contention at_) s = .next (((t.onTwin (fun w => { w with fitLost := true })).raise 8 9 0 []).fault 0x250 0x80 0))

/-- The fault collector (R350 to R362): a message counts its source, raises the source's active flag to the source's severity, and is
queued; severity 5 enters the safe state and severity 4 makes an active twin yield; the control core logs the queue in order under
rising sequence numbers; the collector's own parity error is a fault of severity 5; FAULT_N is released 20 us after its last assertion;
the watchdog arms a reset with cause 5. -/
def Obligations.FaultsAreCollected : Prop :=
  (∀ src kind d at_ n s t, t = s.advance at_ → src < 4096 → kind < 256 → 1 ≤ n → n ≤ 65535 → t.i36On = true →
    exec (.faultMessage src kind d at_ n) s = .next (State.classify
      { source := src, kind := kind, detail := d % 2 ^ 48, t := t.now, count := n } t)) ∧
  (∀ (m : FaultMsg) (s : State), isNotice m.kind = false → defaultSeverity m.source ≠ 0 → s.twin.role ≠ .active →
    ∃ t : State, t = State.classify m s ∧ Tbl.at t.faults.counts m.source 0 = (Tbl.at s.faults.counts m.source 0 + m.count) % 2 ^ 32 ∧
      Tbl.at t.faults.active m.source 0 = max (Tbl.at s.faults.active m.source 0) (s.severity m.source) ∧
      (s.severity m.source = 5 → t.faults.safe = true) ∧ (4 ≤ s.severity m.source → t.faults.yielded = true) ∧
      (∀ n, n ≠ m.source → Tbl.get? t.faults.active n = Tbl.get? s.faults.active n)) ∧
  (∀ (m : FaultMsg) (s : State), isNotice m.kind = true → (State.classify m s).faults.active = s.faults.active) ∧
  (∀ s e r, s.faults.queue = e :: r → s.i36On = true → ∃ t : State, exec .faultLogEntry s = .next t ∧ t.faults.queue = r ∧
    t.faults.nextSeq = s.faults.nextSeq + 1 ∧ t.faults.log.length ≤ 256 ∧ t.faults.log.head? = some
      { e with
        seq := s.faults.nextSeq.toNat
        overflow := s.faults.overflowFlag }) ∧
  (∀ reg at_ s, (s.advance at_).i36On = true → s.faults.selfFault = false → ∃ t : State, exec (.selfParity reg at_) s = .next t ∧
    t.faults.selfFault = true ∧ t.faults.safe = true ∧ t.topSeverity = 5 ∧ t.faults.queue = [] ∧ t.twin.role ≠ .active) ∧
  (∀ at_ s t f, t = s.advance at_ → f = t.faults → f.forced = false → f.selfFault = false → f.holdMode = false →
    f.lastAssert + 20000 ≤ t.now →
    exec (.faultNRelease at_) s = .next (t.onFaults (fun f => { f with pinLow := false, releaseDue := false }))) ∧
  (∀ at_ s, s.faults.selfFault = true → exec (.faultNRelease at_) s = .next (s.advance at_)) ∧
  (∀ pc at_ s t, t = s.advance at_ → t.boot.resetDue = none →
    exec (.watchdog pc at_) s = .next ((t.stick 0x2F0 0xF0 pc).onBoot (fun b =>
      { b with resetDue := some (t.now + 1000000), resetDueCause := 5 })))

/-- Commands of class 0xB (R353 to R358, R361 to R363, R365): the log, the counters and the status report, severities are set for sources
that the device has and never for the collector's own, an acknowledgement clears active flags, the safe state is left only when no
source is active at severity 5 and the collector has no fault of its own, and FAULT_N's mode and injections act. -/
def Obligations.FaultCommandsAct : Prop :=
  (∀ rq s a p l, Served 0xB001 rq s a → rq.payload = p → p.length = 8 → 1 ≤ u8 p 4 → u8 p 4 ≤ 16 → fld p 5 3 = 0 →
    l = (a.faults.log.reverse.filter (fun e => u32 p 0 ≤ e.seq)).take (u8 p 4) → l = [] →
    exec (.faultRead rq) s = .next (finish 0xB001 rq (okWith (bytes [0, 0, 0, 0] ++ leBytes 4 a.faults.nextSeq.toNat) a))) ∧
  (∀ rq s a p l (e : FaultMsg), Served 0xB001 rq s a → rq.payload = p → p.length = 8 → 1 ≤ u8 p 4 → u8 p 4 ≤ 16 → fld p 5 3 = 0 →
    l = (a.faults.log.reverse.filter (fun e => u32 p 0 ≤ e.seq)).take (u8 p 4) → l.getLast? = some e →
    exec (.faultRead rq) s = .next (finish 0xB001 rq (okWith (bytes [l.length, 0, 0, 0] ++ leBytes 4 ((e.seq + 1) % 2 ^ 32)
      ++ l.flatMap logBytes) a))) ∧
  (∀ rq s a p, Served 0xB002 rq s a → rq.payload = p → p.length = 8 → u16 p 2 = 1 → 1 ≤ u8 p 4 → u8 p 4 ≤ 5 → fld p 5 3 = 0 →
    u16 p 0 ≤ 4095 → defaultSeverity (u16 p 0) ≠ 0 → u16 p 0 ≠ 0x2FF →
    exec (.faultSeveritySet rq) s = .next (finish 0xB002 rq (ok (a.onFaults (fun f =>
      { f with severities := Tbl.put f.severities (u16 p 0) (u8 p 4) }))))) ∧
  (∀ rq s a p, Served 0xB002 rq s a → rq.payload = p → p.length = 8 → u16 p 2 = 1 → u16 p 0 = 0x2FF →
    exec (.faultSeveritySet rq) s = .next (finish 0xB002 rq (fail 7 a))) ∧
  (∀ rq s a p, Served 0xB003 rq s a → rq.payload = p → p.length = 4 → 1 ≤ u16 p 2 → u16 p 2 ≤ 500 → u16 p 0 + u16 p 2 ≤ 4096 →
    exec (.faultCounters rq) s = .next (finish 0xB003 rq (okWith (leBytes 2 (u16 p 2) ++ zeros 2
      ++ (List.range (u16 p 2)).flatMap (fun i => a.counterRecord (u16 p 0 + i))) a))) ∧
  (∀ rq s a p, Served 0xB004 rq s a → rq.payload = p → p.length = 4 → 1 ≤ u16 p 2 → u16 p 2 ≤ 4096 → u16 p 0 + u16 p 2 ≤ 4096 →
    exec (.faultAck rq) s = .next (finish 0xB004 rq (ok (a.onFaults (fun f =>
      { f with active := f.active.filter (fun e => e.1 < u16 p 0 || u16 p 0 + u16 p 2 ≤ e.1) }))))) ∧
  (∀ rq s a, Served 0xB005 rq s a → rq.payload = [] → a.faults.selfFault = false → (∀ e ∈ a.faults.active, e.2 ≠ 5) →
    a.faults.safe = true →
    exec (.safeClear rq) s = .next (finish 0xB005 rq (ok (((a.onFaults (fun f => { f with safe := false })).onLat (fun l =>
      { l with dests := Tbl.map l.dests (fun d (x : Dest) => { x with safeHold := x.safeHold || d ≤ 0xFF }) })).raise 3 0x101 0 [])))) ∧
  (∀ rq s a e, Served 0xB005 rq s a → rq.payload = [] → e ∈ a.faults.active → e.2 = 5 →
    exec (.safeClear rq) s = .next (finish 0xB005 rq (fail 8 a))) ∧
  (∀ rq s a p, Served 0xB006 rq s a → rq.payload = p → p.length = 4 → u8 p 0 ≤ 1 → u8 p 1 = 0 → 1 ≤ u8 p 2 → u8 p 2 ≤ 5 → u8 p 3 = 0 →
    a.faults.pinLow = false →
    exec (.faultNControl rq) s = .next (finish 0xB006 rq (ok (a.onFaults (fun f =>
      { f with
        holdMode := u8 p 0 = 1
        minSeverity := u8 p 2 }))))) ∧
  (∀ rq s a p, Served 0xB006 rq s a → rq.payload = p → p.length = 4 → u8 p 0 ≤ 1 → u8 p 1 = 1 → 1 ≤ u8 p 2 → u8 p 2 ≤ 5 → u8 p 3 = 0 →
    a.faults.selfFault = true → exec (.faultNControl rq) s = .next (finish 0xB006 rq (fail 8 a))) ∧
  (∀ rq s a f, Served 0xB007 rq s a → rq.payload = [] → f = a.faults →
    exec (.faultStatus rq) s = .next (finish 0xB007 rq (okWith (bytes [a.topSeverity, flag f.safe + 2 * flag f.selfFault
        + 4 * flag f.pinLow + 8 * flag f.holdMode + 16 * flag f.forced, f.queue.length, f.minSeverity]
      ++ leBytes 4 f.overflow.toNat ++ leBytes 4 f.nextSeq.toNat ++ leBytes 2 f.active.length ++ zeros 2) a))) ∧
  (∀ rq s a p, Served 0xB008 rq s a → rq.payload = p → p.length = 12 → u16 p 0 ≤ 4095 → u8 p 3 = 0 → u64 p 4 < 2 ^ 48 →
    exec (.faultInject rq) s = .next (finish 0xB008 rq (ok (a.fault (u16 p 0) (u8 p 2) (u64 p 4))))) ∧
  (∀ rq s a p b, Served 0xB009 rq s a → rq.payload = p → p.length = 12 → u8 p 0 = 0 → fld p 1 3 = 0 → 1 ≤ u16 p 8 → u16 p 8 ≤ 4000 →
    u16 p 10 = 0 → a.hier.shadow = some b → u32 p 4 + u16 p 8 ≤ (b.bytes false).length →
    exec (.snapshotRead rq) s = .next (finish 0xB009 rq (okWith (((b.bytes false).drop (u32 p 4)).take (u16 p 8)) a))) ∧
  (∀ rq s a p, Served 0xB009 rq s a → rq.payload = p → p.length = 12 → u8 p 0 = 1 → fld p 1 3 = 0 → 1 ≤ u16 p 8 → u16 p 8 ≤ 4000 →
    u16 p 10 = 0 → a.keep.snapshot = none → exec (.snapshotRead rq) s = .next (finish 0xB009 rq (fail 8 a)))

/-- Power (R17, R368 to R383, R432): budgets and wake sources are set and the states chosen anew, a budget command with idle_ms outside 100 to
60,000 is refused, the reports say what the device holds, a request reaching a gated island brings its group to RUN, a group idle for
idle_ms lets the states be chosen again, the entry into DORMANT and the wake go step by step, and rails and sensors raise their faults. -/
def Obligations.PowerIsManaged : Prop :=
  (∀ rq s a p, Served 0xC001 rq s a → rq.payload = p → p.length = 24 → 100 ≤ u16 p 20 → u16 p 20 ≤ 60000 → u16 p 22 = 0 →
    exec (.powerBudgetSet rq) s = .next (finish 0xC001 rq (ok (State.choosePower ((each (List.range 5) (fun g s =>
      s.onGroup g (fun q => { q with budget := u32 p (4 * g) })) a).onPower (fun q => { q with idleMs := u16 p 20 })))))) ∧
  (∀ rq s a p, Served 0xC001 rq s a → rq.payload = p → p.length = 24 → (u16 p 20 < 100 ∨ 60000 < u16 p 20) →
    exec (.powerBudgetSet rq) s = .next (finish 0xC001 rq (fail 7 a))) ∧
  (∀ rq s a mw t, Served 0xC002 rq s a → rq.payload = [] → a.packageMw = (mw, t) →
    exec (.powerStatus rq) s = .next (finish 0xC002 rq (okWith (bytes [a.power.state.code, a.dormantBlock]
      ++ leBytes 2 ((List.range 340).filter (fun d => !a.domainOn d)).length
      ++ leBytes 2 ((List.range 5).foldl (fun n g => n + (a.group g).code * 4 ^ g) 0) ++ zeros 2 ++ leBytes 4 mw
      ++ leBytes 4 t.kaEstimate ++ leBytes 4 a.power.wakes.toNat ++ bytes [a.power.lastWake] ++ leInt 1 t.tempMax
      ++ leBytes 2 a.power.lastWakeLane ++ leBytes 8 a.power.lastWakeS) t))) ∧
  (∀ rq s a p, Served 0xC003 rq s a → rq.payload = p → p.length = 8 → u8 p 4 < 32 → fld p 5 3 = 0 →
    exec (.wakeConfig rq) s = .next (finish 0xC003 rq (ok (State.choosePower (a.onPower (fun q =>
      { q with octantMask := u32 p 0, wakeFlags := u8 p 4 })))))) ∧
  (∀ rq s a p, Served 0xC004 rq s a → rq.payload = p → p.length = 4 → 1 ≤ u16 p 2 → u16 p 0 + u16 p 2 ≤ 340 →
    exec (.domainStatus rq) s = .next (finish 0xC004 rq (okWith (leBytes 2 (u16 p 2) ++ zeros 2
      ++ (List.range (u16 p 2)).flatMap (fun i => leBytes 2 (u16 p 0 + i)
        ++ bytes [domainGroup (u16 p 0 + i), flag (a.domainOn (u16 p 0 + i))])) a))) ∧
  (∀ rq s a, Served 0xC005 rq s a → rq.payload = [] → ∃ (b : List Byte) (t : State),
    exec (.railStatus rq) s = .next (finish 0xC005 rq (okWith b t)) ∧ b.length = 56 ∧ t.power = a.power) ∧
  (∀ d (t : State) u, d ≤ 330 → t.power.state ≠ .dormant → t.power.off = false → t.inField = true →
    (t.hasService d = true ∨ t.power.gated.contains d = true) →
    u = t.onGroup (domainGroup d) (fun q => { q with idleSince := if t.groupBusy (domainGroup d) then none else some t.now }) →
    exec (.islandWakeRequest d) t = .next (State.settleDevice (u.setGroup (domainGroup d) .run))) ∧
  (∀ g at_ s t, t = s.advance at_ → t.idleLong g = true → exec (.groupIdleExpiry g at_) s = .next t.choosePower) ∧
  (∀ at_ s t, t = s.advance at_ → t.power.entryStep = 1 → t.dormantBlock = 0 → t.lat.keepDue = none →
    exec (.dormantEntryStep at_) s = .next ((t.onKeep (fun k => { k with context := true })).onPower (fun p =>
      { p with entryStep := 2 }))) ∧
  (∀ at_ s t, t = s.advance at_ → t.power.entryStep = 2 → t.dormantBlock ≠ 0 →
    exec (.dormantEntryStep at_) s = .next (t.onPower (fun p => { p with entryStep := 0, wakingStep := 0 }))) ∧
  (∀ at_ s t, t = s.advance at_ → t.power.entryStep = 3 → t.dormantBlock = 0 → ∃ u : State,
    exec (.dormantEntryStep at_) s = .next u ∧ u.power.state = .dormant ∧ u.power.entryStep = 0 ∧ u.mem.cache = []) ∧
  (∀ at_ s t, t = s.advance at_ → t.power.off = false → t.power.wakingStep = 0 → t.power.state = .dormant → bit t.power.wakeFlags 0 = true →
    exec (.wakeNLow at_) s = .next (t.onPower (fun p =>
      { p with
        wakeNLow := true
        entryStep := 0
        wakingStep := 1
        wakes := p.wakes + 1
        lastWake := 2
        lastWakeS := t.now / 1000000000
        wakeAt := t.now }))) ∧
  (∀ at_ s t n, t = s.advance at_ → t.power.wakingStep = n → (n = 1 ∨ n = 4 ∨ n = 5 ∨ n = 7) →
    exec (.wakeStep at_) s = .next (t.onPower (fun p => { p with wakingStep := n + 1 }))) ∧
  (∀ at_ s t, t = s.advance at_ → t.power.wakingStep = 3 →
    exec (.wakeStep at_) s = .next ((((t.onPower (fun p => { p with wakingStep := 4 })).onKeep (fun k => { k with context := false })).onPcie
      .cpa (fun p => { p with linkL1 := false })).onPcie .cpb (fun p => { p with linkL1 := false }))) ∧
  (∀ i mv at_ s t, t = s.advance at_ → i ≤ 6 → mv < railThreshold i → (Tbl.at t.power.rails i {}).under = false →
    exec (.rail i mv at_) s = .next ((t.onPower (fun p =>
      { p with rails := Tbl.put p.rails i { under := true, mv := mv } })).kaFault 0x91 i)) ∧
  (∀ i mv at_ s t, t = s.advance at_ → i ≤ 6 → railThreshold i ≤ mv → mv < railThreshold i + 10 → (Tbl.at t.power.rails i {}).under = true →
    exec (.rail i mv at_) s = .next (t.onPower (fun p => { p with rails := Tbl.put p.rails i { under := true, mv := mv } }))) ∧
  (∀ l at_ s t, t = s.advance at_ → l.length ≤ 16 → (∀ x ∈ l, x ≤ 105) →
    exec (.tempRead l at_) s = .next (State.choosePower (t.onPower (fun p => { p with temps := l })))) ∧
  (∀ s, s.power.state = .dormant → s.power.off = false → exec .kaBrownout s = .next ((s.resetBy 2).stick 0x260 0x90 0))

/-- Proof runs and live tests (R384 to R393): PROOF_RUN takes a list of known tests on idle units and refuses an unknown test, a unit in
service, and a sixth run; a cancelled run that waits ends with every step aborted; a step that finishes or is aborted is taken out of its
run and written to the result ring under the next sequence number; a live test's last slice writes its result; and the reports say what
is held. -/
def Obligations.ProofRunsAct : Prop :=
  (∀ rq s a p l r, Served 0xD001 rq s a → rq.payload = p → u8 p 0 = 0 → u8 p 1 = 1 → p.length = 12 → u8 p 2 = 0 → u8 p 3 = 0 →
    u8 p 5 = 0 → u16 p 10 = 0 → l = ProofItem.mk (u8 p 4) (u16 p 6) (u16 p 8) → l.units ≠ 0 →
    (∀ k, k < l.units → testUnit l.test (l.first + k) = true ∧ a.mayTest false l.test (l.first + k) = true) → a.proof.runs.length < 5 →
    a.proof.runs ≠ [] → r = ({
      id := a.proof.nextRun
      steps := itemSteps [l]
      total := (itemSteps [l]).length
      handle := handleOf 0xD001 rq
      force := false } : ProofRunSt) →
    exec (.proofRun rq) s = .next (finish 0xD001 rq (accepted (a.onProof (fun q =>
      { q with runs := q.runs ++ [r], nextRun := nextRunId q.nextRun }))))) ∧
  (∀ rq s a p, Served 0xD001 rq s a → rq.payload = p → u8 p 0 = 0 → u8 p 1 = 1 → p.length = 12 → u8 p 2 = 0 → u8 p 3 = 0 →
    u8 p 5 = 0 → u16 p 10 = 0 → u16 p 8 = 1 → testUnit (u8 p 4) (u16 p 6) = false →
    exec (.proofRun rq) s = .next (finish 0xD001 rq (fail 7 a))) ∧
  (∀ rq s a p, Served 0xD001 rq s a → rq.payload = p → u8 p 0 = 0 → u8 p 1 = 1 → p.length = 12 → u8 p 2 = 0 → u8 p 3 = 0 →
    u8 p 5 = 0 → u16 p 10 = 0 → u16 p 8 = 1 → testUnit (u8 p 4) (u16 p 6) = true → a.mayTest false (u8 p 4) (u16 p 6) = false →
    exec (.proofRun rq) s = .next (finish 0xD001 rq (fail 8 a))) ∧
  (∀ rq s a p, Served 0xD001 rq s a → rq.payload = p → u8 p 0 = 0 → u8 p 1 = 1 → p.length = 12 → u8 p 2 = 0 → u8 p 3 = 0 →
    u8 p 5 = 0 → u16 p 10 = 0 → u16 p 8 = 1 → testUnit (u8 p 4) (u16 p 6) = true → a.mayTest false (u8 p 4) (u16 p 6) = true →
    5 ≤ a.proof.runs.length → exec (.proofRun rq) s = .next (finish 0xD001 rq (fail 2 a))) ∧
  (∀ rq s a p r q l x, Served 0xD002 rq s a → rq.payload = p → p.length = 4 → u16 p 2 = 0 → a.proof.runs = q :: l → q.id ≠ u16 p 0 →
    l.find? (fun x => x.id = u16 p 0) = some r → r.steps = [x] →
    ∃ t : State, exec (.proofCancel rq) s = .next (finish 0xD002 rq (ok (t.complete r.handle 0
        ({ r with
          steps := []
          aborted := r.aborted + 1 } : ProofRunSt).map))) ∧ (∀ y ∈ t.proof.runs, y.id ≠ u16 p 0) ∧
      (t.proof.results.head?.map (fun e => (e.runId, e.test, e.unit, e.result, e.cause))) = some (u16 p 0, x.test, x.unit, 2, 2)) ∧
  (∀ rq s a p, Served 0xD002 rq s a → rq.payload = p → p.length = 4 → u16 p 2 = 0 → (∀ x ∈ a.proof.runs, x.id ≠ u16 p 0) →
    exec (.proofCancel rq) s = .next (finish 0xD002 rq (fail 8 a))) ∧
  (∀ rq s a p l (e : ProofRec), Served 0xD003 rq s a → rq.payload = p → p.length = 8 → 1 ≤ u8 p 4 → u8 p 4 ≤ 120 → fld p 5 3 = 0 →
    l = (a.proof.results.reverse.filter (fun e => u32 p 0 ≤ e.seq)).take (u8 p 4) → l.getLast? = some e →
    exec (.proofResults rq) s = .next (finish 0xD003 rq (okWith (bytes [l.length, 0, 0, 0] ++ leBytes 4 ((e.seq + 1) % 2 ^ 32)
      ++ l.flatMap resultBytes) a))) ∧
  (∀ rq s a p, Served 0xD004 rq s a → rq.payload = p → p.length = 4 → u8 p 0 = 7 → sliceFormatOk (u8 p 1) = true → 16 ≤ u8 p 2 →
    u8 p 3 = 0 → a.proof.slices = [] → a.proof.liveFailed = [] →
    exec (.proofLive rq) s = .next (finish 0xD004 rq (ok (a.onProof (fun q =>
      { q with liveMask := 7, sliceFormat := u8 p 1, sliceEvery := u8 p 2 }))))) ∧
  (∀ rq s a, Served 0xD005 rq s a → rq.payload = [] → a.proof.runs = [] →
    exec (.proofStatus rq) s = .next (finish 0xD005 rq (okWith (bytes [0, 0, 0, a.proof.liveMask] ++ leBytes 4 0 ++ leBytes 2 0 ++ zeros 2)
      a))) ∧
  (∀ at_ s t u mw r l x, t = s.advance at_ → t.proof.runs = r :: l → t.faults.safe = false → t.power.state ≠ .dormant →
    t.power.off = false → t.boot.phase = 0xFF → t.packageMw = (mw, u) → r.steps = [x] → x.started = none → x.test = 3 →
    exec (.proofStepStart at_) s = .next (if u.stepFits mw x then
      u.onRun (fun r => { r with steps := startFirst x u.now r.steps }) else u)) ∧
  (∀ t u seen at_ s x, (s.advance at_).runningStep t u = some x →
    exec (.proofStepDone t u seen at_) s = .next ((s.advance at_).endStep x (if seen.passed then 0 else 1) seen.coverage 0 seen.durationUs
      seen.detail)) ∧
  (∀ t u at_ s x, (s.advance at_).runningStep t u = some x → s.faults.safe = true →
    exec (.proofStepAbort t u at_) s = .next ((s.advance at_).endStep x 2 0 4 ((s.advance at_).stepUs x) 0)) ∧
  (∀ (r : ProofRec) (s : State), ∃ t : State, t = s.writeResult r ∧ t.proof.nextSeq = s.proof.nextSeq + 1 ∧ t.proof.results.length ≤ 1024 ∧
    t.proof.results.head? = some
      { r with
        seq := s.proof.nextSeq.toNat
        t := s.now }) ∧
  (∀ n seen at_ s t, t = s.advance at_ → n ≤ 1 → bit t.proof.liveMask 0 = true → t.power.state ≠ .dormant → t.power.off = false →
    t.inField = true → t.boot.phase = 0xFF → Tbl.at t.proof.slices (4096 + n) 0 < 63 → seen.passed = true →
    exec (.liveSlice 16 n seen at_) s = .next (t.onProof (fun p =>
      { p with slices := Tbl.put p.slices (4096 + n) (Tbl.at p.slices (4096 + n) 0 + 1) }))) ∧
  (∀ n seen at_ s t r, t = s.advance at_ → n ≤ 1 → bit t.proof.liveMask 0 = true → t.power.state ≠ .dormant → t.power.off = false →
    t.inField = true → t.boot.phase = 0xFF → Tbl.at t.proof.slices (4096 + n) 0 = 63 → seen.passed = true →
    t.proof.liveFailed.contains (4096 + n) = false →
    r = ProofRec.mk 0 0 16 0 n seen.coverage 0 seen.durationUs (seen.detail % 2 ^ 48) 0 →
    exec (.liveSlice 16 n seen at_) s = .next (State.writeResult r (t.onProof (fun p =>
      { p with slices := Tbl.del p.slices (4096 + n), liveFailed := p.liveFailed.erase (4096 + n) }))))

/-- The life cycle and the key slots (R394 to R403, R415): a slot is used only for a usage it carries, in a life-cycle state it allows, and
while uses are left, and each use of a counted slot takes one; keys are loaded, imported under a valid tag, derived, used and cleared; an
authorised record starts the fuse burn and every LC_TRANSITION draws a new nonce; the burn's end changes the state and resets. -/
def Obligations.KeysAreKept : Prop :=
  (∀ n u (s : State) k, k = s.keySlot n → k.kind ≠ 0 → k.bad = false → bit k.usage u = true → k.inState s.life.lifecycle = true →
    k.volatile = false → k.uses ≠ 0xFFFFFFFF → k.uses ≠ 0 → k.uses ≠ 1 →
    s.useSlot n u = (0, s.onSlot n (fun k => { k with uses := k.uses - 1 }))) ∧
  (∀ n u (s : State) k, k = s.keySlot n → (k.kind = 0 ∨ k.bad = true ∨ bit k.usage u = false) → s.useSlot n u = (7, s)) ∧
  (∀ n u (s : State) k, k = s.keySlot n → k.kind ≠ 0 → k.bad = false → bit k.usage u = true → k.inState s.life.lifecycle = true →
    k.volatile = false → k.uses = 0 → s.useSlot n u = (8, s)) ∧
  (∀ rq s a p k, Served 0xE010 rq s a → rq.payload = p → p.length = 4 → u8 p 0 ≤ 63 → fld p 1 3 = 0 → k = a.keySlot (u8 p 0) →
    exec (.keyInfo rq) s = .next (finish 0xE010 rq (okWith (bytes [u8 p 0, k.kind, k.usage + 32 * flag k.volatile, k.lcMask]
      ++ leBytes 4 k.uses ++ k.kcv ++ leBytes 4 k.label ++ zeros 4) a))) ∧
  (∀ rq s a p, Served 0xE011 rq s a → rq.payload = p → 16 ≤ p.length → (u8 p 0 = 1 ∨ 16 ≤ u8 p 0 ∧ u8 p 0 ≤ 63) → fld p 1 3 = 0 →
    attrOk (p.drop 4) = true → p.length = 16 + keyBytes (u8 p 4) →
    exec (.keyLoad rq) s = .next (finish 0xE011 rq (ok (a.onSlot (u8 p 0) (fun _ => { parseAttr (p.drop 4) with key := p.drop 16 }))))) ∧
  (∀ rq s a p, Served 0xE011 rq s a → rq.payload = p → (u8 p 0 = 0 ∨ 2 ≤ u8 p 0 ∧ u8 p 0 ≤ 15 ∨ 63 < u8 p 0) →
    exec (.keyLoad rq) s = .next (finish 0xE011 rq (fail 7 a))) ∧
  (∀ rq s a p at_ t, Served 0xE012 rq s a → rq.payload = p → 44 ≤ p.length → (u8 p 0 = 1 ∨ 16 ≤ u8 p 0 ∧ u8 p 0 ≤ 63) → u8 p 1 ≤ 63 →
    u16 p 2 = 0 → at_ = (p.drop 4).take 12 → attrOk at_ = true → p.length = 44 + keyBytes (u8 at_ 0) → a.useSlot (u8 p 1) 1 = (0, t) →
    exec (.keyImport rq) s = .next (finish 0xE012 rq
      (match Crypto.gcmOpen (t.keySlot (u8 p 1)).key ((p.drop 16).take 12) at_ (p.drop 44) ((p.drop 28).take 16) with
        | some key => ok (t.onSlot (u8 p 0) (fun _ => { parseAttr at_ with key := key }))
        | none => fail 7 t))) ∧
  (∀ rq s a p at_ k, Served 0xE013 rq s a → rq.payload = p → 16 ≤ u8 p 0 → u8 p 0 ≤ 63 → u8 p 1 = 255 → u8 p 2 ≤ 64 → u8 p 3 ≤ 64 →
    p.length = 16 + u8 p 2 + u8 p 3 → at_ = (p.drop 4).take 12 → attrOk at_ = true → u8 at_ 0 ≠ 3 →
    k = { parseAttr at_ with
      key := Crypto.kdf a.root ((p.drop 16).take (u8 p 2)) (p.drop (16 + u8 p 2)) (8 * keyBytes (u8 at_ 0)) } →
    exec (.keyDerive rq) s = .next (finish 0xE013 rq (okWith k.kcv (a.onSlot (u8 p 0) (fun _ => k))))) ∧
  (∀ rq s a p t, Served 0xE014 rq s a → rq.payload = p → u8 p 0 ≤ 63 → (u8 p 0 < 3 ∨ 15 < u8 p 0) → u8 p 1 = 2 → 1 ≤ u16 p 2 →
    u16 p 2 ≤ 3900 → p.length = 4 + u16 p 2 → a.useSlot (u8 p 0) 4 = (0, t) →
    exec (.keyUse rq) s = .next (finish 0xE014 rq (okWith (Crypto.hmac (t.keySlot (u8 p 0)).key (p.drop 4)) t))) ∧
  (∀ rq s a p t st, Served 0xE014 rq s a → rq.payload = p → u8 p 0 ≤ 63 → (u8 p 0 < 3 ∨ 15 < u8 p 0) → u8 p 1 = 2 → 1 ≤ u16 p 2 →
    u16 p 2 ≤ 3900 → p.length = 4 + u16 p 2 → a.useSlot (u8 p 0) 4 = (st, t) → st ≠ 0 →
    exec (.keyUse rq) s = .next (finish 0xE014 rq (fail st t))) ∧
  (∀ rq s a p, Served 0xE015 rq s a → rq.payload = p → p.length = 4 → (u8 p 0 = 1 ∨ 16 ≤ u8 p 0 ∧ u8 p 0 ≤ 63) → fld p 1 3 = 0 →
    exec (.keyClear rq) s = .next (finish 0xE015 rq (ok (a.onLife (fun l => { l with slots := Tbl.del l.slots (u8 p 0) }))))) ∧
  (∀ rq s a, Served 0xE001 rq s a → rq.payload = [] →
    exec (.lcStatus rq) s = .next (finish 0xE001 rq (okWith (bytes [a.life.lifecycle.code, a.life.serviceEntries, 0, 0]
      ++ leBytes 4 a.nonce ++ bytes [flag a.life.secretOk, 0, 0, 0]) a))) ∧
  (∀ rq s a p t, Served 0xE002 rq s a → rq.payload = p → p.length = 112 → u16 p 10 = 0 → u64 p 0 = Config.serial.toNat →
    u8 p 8 = a.life.lifecycle.code → u32 p 12 = a.nonce → a.useSlot 2 2 = (0, t) → t.life.nextLifecycle = none →
    t.life.lifecycle = .field → u8 p 9 = 3 → t.life.serviceEntries < 8 →
    exec (.lcTransition rq) s = .next (finish 0xE002 rq
      (if Crypto.verify (t.keySlot 2).key (Crypto.sha384 (p.take 16)) (p.drop 16) then ok (t.onLife (fun l =>
        { l with nextLifecycle := some .service, nonceSeq := l.nonceSeq + 1 }))
       else fail 7 (t.onLife (fun l => { l with nonceSeq := l.nonceSeq + 1 }))))) ∧
  (∀ rq s a p, Served 0xE003 rq s a → rq.payload = p → p.length = 196 → u16 p 194 = 0 → a.life.nextLifecycle = none →
    ∃ t : State, exec (.lcProvision rq true) s = .next (finish 0xE003 rq (ok t)) ∧ t.life.nextLifecycle = some .factory ∧
      t.life.k00Hash = Crypto.sha384 (p.take 97) ∧ t.life.k02Hash = Crypto.sha384 ((p.drop 97).take 97) ∧
      (t.keySlot 0).key = p.take 97 ∧ (t.keySlot 2).key = (p.drop 97).take 97) ∧
  (∀ rq s a p, Served 0xE003 rq s a → rq.payload = p → p.length = 196 → u16 p 194 = 0 → a.life.nextLifecycle = none →
    exec (.lcProvision rq false) s = .next (finish 0xE003 rq (fail 16 a))) ∧
  (∀ s, s.life.nextLifecycle = some .service → exec .fuseBurnDone s = .next (State.resetBy 7 (s.onLife (fun l =>
    { l with lifecycle := .service, serviceEntries := l.serviceEntries + 1, nextLifecycle := none })))) ∧
  (∀ s, s.life.nextLifecycle = some .retired → ∃ t : State, exec .fuseBurnDone s = .next t ∧ t.life.lifecycle = .retired ∧
    t.life.slots = [] ∧ t.life.helperBlown = true ∧ t.life.a.state = .empty ∧ t.life.b.state = .empty ∧ t.life.golden.state = .empty)

/-- Folios (R197, R198, R404 to R411, R416): bytes are staged, a store's checks decide its end, the relay's offer, segments and end are
taken from the link whose transfer is received, an activation is armed only for a valid slot that is not older than the running one, at
its instant the slot runs on trial and the pause begins, the pause's end completes it, 60 s later it is confirmed and the rollback
counter takes its epoch, and the golden slot is copied. -/
def Obligations.FoliosAct : Prop :=
  (∀ rq s a p, Served 0xE020 rq s a → rq.payload = p → 8 ≤ p.length → 1 ≤ u16 p 4 → u16 p 4 ≤ 4000 → p.length = 8 + u16 p 4 → u16 p 6 = 0 →
    u32 p 0 + u16 p 4 ≤ 33554304 →
    exec (.folioLoad rq) s = .next (finish 0xE020 rq (ok (a.onLife (fun l =>
      { l with
        staging := Memory.writeN l.staging (u32 p 0) (p.drop 8)
        transport := 0
        stagingVersion := 0
        receiving := none }))))) ∧
  (∀ rq s a p, Served 0xE021 rq s a → rq.payload = p → p.length = 4 → a.life.store = none → a.targetArmed = false →
    exec (.folioStore rq) s = .next (finish 0xE021 rq (accepted (a.startStore (u32 p 0) (handleOf 0xE021 rq) none)))) ∧
  (∀ rq s a p, Served 0xE021 rq s a → rq.payload = p → p.length = 4 → a.life.store ≠ none →
    exec (.folioStore rq) s = .next (finish 0xE021 rq (fail 2 a))) ∧
  (∀ p n (s : State), folioFormatOk p n = false → s.checkFolio p n = (1, [], s)) ∧
  (∀ p n (s : State), folioFormatOk p n = true → epochOf (u32 p 8) < s.life.rollback → (s.checkFolio p n).1 = 2 ∨ (s.checkFolio p n).1 = 3) ∧
  (∀ s j, s.life.store = some j → j.golden = false → j.reason ≠ 0 →
    exec (.folioStoreDone true) s = .next (((((s.onLife (fun l => { l with store := none })).raise 13 2 j.version (bytes [j.reason])).fault
      0x271 0xA1 j.version)).complete j.handle (reasonResult j.reason) (bytes [j.reason, j.slot, 0, 0] ++ leBytes 4 j.version))) ∧
  (∀ s j t, s.life.store = some j → j.golden = false → j.reason = 0 →
    t = (State.journalSlot j.slot .valid j.version ((s.onLife (fun l => { l with store := none })).journalDone
      (slotRegion j.slot))).onFolio j.slot (fun f => { f with state := .valid }) →
    exec (.folioStoreDone true) s = .next ((((t.onLife (fun l =>
      { l with transport := j.length, stagingVersion := j.version })).raise 13 1 j.version (bytes [j.slot])).complete j.handle 0
        (bytes [0, j.slot, 0, 0] ++ leBytes 4 j.version)).startRelay j.version)) ∧
  (∀ rq s a p, Served 0x3040 rq s a → rq.payload = p → p.length = 16 → a.life.a.holds (u32 p 0) ((p.drop 8).take 8) = false →
    a.life.b.holds (u32 p 0) ((p.drop 8).take 8) = false → a.life.rollback ≤ epochOf (u32 p 0) → a.life.store = none →
    a.life.receiving = none →
    exec (.folioOffer rq) s = .next (finish 0x3040 rq (okWith (bytes [1, 0, 0, 0] ++ leBytes 4 0) (a.onLife (fun l =>
      { l with
        receiving := some (linkOf rq)
        receiveVersion := u32 p 0
        receiveLength := u32 p 4
        stagingLength := 0
        staging := []
        transport := 0
        stagingVersion := 0 }))))) ∧
  (∀ rq s a p, Served 0x3040 rq s a → rq.payload = p → p.length = 16 → a.life.a.holds (u32 p 0) ((p.drop 8).take 8) = true →
    exec (.folioOffer rq) s = .next (finish 0x3040 rq (okWith (bytes [0, 0, 0, 0] ++ leBytes 4 0) a))) ∧
  (∀ rq s a p n, Served 0x3041 rq s a → rq.payload = p → n = u16 p 8 → 1 ≤ n → n ≤ 4000 → p.length = 12 + n → u16 p 10 = 0 →
    u32 p 4 + n ≤ 33554304 → a.life.receiving = some (linkOf rq) → a.life.receiveVersion = u32 p 0 → u32 p 4 ≤ a.life.stagingLength →
    u32 p 4 + n ≤ a.life.receiveLength →
    exec (.folioSegment rq) s = .next (finish 0x3041 rq (ok (a.onLife (fun l =>
      { l with
        staging := Memory.writeN l.staging (u32 p 4) (p.drop 12)
        transport := 0
        stagingVersion := 0
        stagingLength := max l.stagingLength (u32 p 4 + n) }))))) ∧
  (∀ rq s a p, Served 0x3042 rq s a → rq.payload = p → p.length = 4 → a.life.store = none → a.life.receiving = some (linkOf rq) →
    a.life.receiveVersion = u32 p 0 → a.life.stagingLength = a.life.receiveLength → a.targetArmed = false →
    exec (.folioEnd rq) s = .next (finish 0x3042 rq (accepted (a.startStore a.life.receiveLength (handleOf 0x3042 rq)
      a.life.receiving)))) ∧
  (∀ rq s a p, Served 0x3042 rq s a → rq.payload = p → p.length = 4 → a.life.store = none → a.life.receiving ≠ some (linkOf rq) →
    exec (.folioEnd rq) s = .next (finish 0x3042 rq (fail 8 a))) ∧
  (∀ rq s a r, Served 0x3043 rq s a → rq.payload = [] → r = a.hier.relay →
    exec (.relayStatus rq) s = .next (finish 0x3043 rq (okWith (leBytes 4 r.version ++ bytes [r.children, r.done,
      a.childTransfers.length, r.failed] ++ leBytes 8 r.bytesSent) a))) ∧
  (∀ rq s a p f t, Served 0xE022 rq s a → rq.payload = p → p.length = 16 → u8 p 0 ≤ 1 → u8 p 1 = 0 → u16 p 2 = 0 → u32 p 12 < 1000000000 →
    f = a.folioSlot (u8 p 0) → f.state = .valid → a.folioVersion ≤ f.version → a.life.rollback ≤ epochOf f.version →
    a.life.activation = none → a.life.paused = none → t = timeAt p 4 12 → a.now + 100000000 ≤ t → t ≤ a.now + 86400000000000 →
    a.lat.pending = [] →
    exec (.folioActivate rq) s = .next (finish 0xE022 rq (accepted (a.onLife (fun l =>
      { l with activation := some { slot := u8 p 0, t := t, handle := handleOf 0xE022 rq } }))))) ∧
  (∀ rq s a p, Served 0xE022 rq s a → rq.payload = p → p.length = 16 → u8 p 0 ≤ 1 → u8 p 1 = 0 → u16 p 2 = 0 → u32 p 12 < 1000000000 →
    (a.folioSlot (u8 p 0)).version < a.folioVersion →
    exec (.folioActivate rq) s = .next (finish 0xE022 rq (fail 8 a))) ∧
  (∀ at_ s x, (s.advance at_).life.activation = some x → ∃ t : State, exec (.folioActivationDue at_) s = .next t ∧
    t.life.activation = none ∧ t.life.paused = some x ∧ t.life.running = x.slot ∧ t.life.previousSlot = s.life.running ∧
    t.life.selectSlot = x.slot ∧ t.life.selectTrial = true ∧ t.life.trialSince = some x.t ∧ t.faults.yielded = false) ∧
  (∀ at_ s, (s.advance at_).life.paused ≠ none → exec (.controlPauseEnd at_) s = .next (timedDue (s.advance at_).endPause)) ∧
  (∀ (s : State) x, s.life.paused = some x → s.endPause.life.paused = none) ∧
  (∀ at_ s t u n, t = s.advance at_ → t.life.trialSince = some u → u + 60000000000 ≤ t.now → t.faults.yielded = false →
    t.life.selectTrial = true → n = epochOf (t.folioSlot t.life.selectSlot).version → ∃ x : State, exec (.trialConfirm at_) s = .next x ∧
    x.life.selectTrial = false ∧ x.life.trialSince = none ∧ x.life.rollback = max t.life.rollback n) ∧
  (∀ at_ s u, s.life.trialSince = some u → (s.advance at_).now < u + 60000000000 →
    exec (.trialConfirm at_) s = .next (s.advance at_)) ∧
  (∀ rq s a l, Served 0xE023 rq s a → rq.payload = [] → l = a.life →
    exec (.folioStatus rq) s = .next (finish 0xE023 rq (okWith (bytes [l.running, l.rollback, flag l.activation.isSome, 0]
      ++ leBytes 4 l.a.version ++ leBytes 4 l.b.version ++ leBytes 4 l.golden.version
      ++ bytes [l.a.state.code, l.b.state.code, l.golden.state.code, flag (!l.selectTrial)] ++ leBytes 4 l.recovered.toNat) a))) ∧
  (∀ rq s a f, Served 0xE024 rq s a → rq.payload = [] → a.life.store = none → a.life.running ≤ 1 → f = a.folioSlot a.life.running →
    exec (.folioGolden rq) s = .next (finish 0xE024 rq (accepted (((State.journalSlot 2 .writing f.version (a.onLife (fun l =>
      { l with store := some { golden := true, slot := 2, version := f.version, handle := handleOf 0xE024 rq } }))).journalIntent
        4).onFolio 2 (fun _ => { f with state := .writing })).judgeHold))) ∧
  (∀ s j, s.life.store = some j → j.golden = true → s.life.running ≤ 1 →
    exec (.folioGoldenDone true) s = .next ((State.onFolio 2 (fun f => { f with state := .valid }) (State.journalSlot 2 .valid j.version
      ((s.onLife (fun l => { l with store := none })).journalDone 4))).complete j.handle 0 []))

/-- Resets and start-up (R394, R407 to R409, R413, R417 to R425, R434): each reset leaves the device HELD with its cause and what resets
keep, a brown-out or power-on reset alone loses the time base, the straps are sampled at release, every phase ends in the next one or in
the code that the rules give, and the profile is written when it is due. -/
def Obligations.StartUpProceeds : Prop :=
  (∀ s, ∃ t : State, exec .powerOn s = .next t ∧ t.boot.phase = 0 ∧ t.boot.cause = 1 ∧ t.power.off = false ∧ t.tb = {} ∧
    t.life = s.life.afterReset ∧ t.keep.records = s.keep.records) ∧
  (∀ s, ∃ t : State, exec .powerLoss s = .next t ∧ t.power.off = true ∧ t.boot.phase = 0 ∧ t.life = s.life.afterReset) ∧
  (∀ s, s.power.off = false → exec .pwrgoodFall s = .next ((s.resetBy 3).onBoot (fun b => { b with pwrgood := false }))) ∧
  (∀ s, s.power.off = false → exec .resetNLow s = .next ((s.resetBy 4).onBoot (fun b => { b with resetN := false }))) ∧
  (∀ c (s : State), 3 ≤ c → (s.resetBy c).tb = s.tb ∧ (s.resetBy c).faults.sticky = s.faults.sticky ∧ (s.resetBy c).boot.phase = 0 ∧
    (s.resetBy c).keep.nodeId = s.keep.nodeId ∧ (s.resetBy c).lanes.flash = s.lanes.flash ∧ (s.resetBy c).life.lifecycle = s.life.lifecycle ∧
    (s.resetBy c).mem = {} ∧ (s.boot.phase ≠ 0 → (s.resetBy c).boot.cause = c)) ∧
  (∀ n (s : State) k, s.life.slots = [(n, k)] → (s.resetBy 3).life.slots = if k.volatile then [] else [(n, k)]) ∧
  (∀ x at_ s t, t = s.advance at_ → t.power.off = false → t.boot.phase = 0 → ∃ u : State, exec (.resetRelease x at_) s = .next u ∧
    u.boot.phase = 1 ∧ u.boot.bootSrc = x.bootSrc ∧ u.boot.cluster = x.clusterId % 8 ∧ u.hier.apexRole = x.role ∧
    u.twin.position = x.twinPos ∧ u.boot.cause = t.boot.cause) ∧
  (∀ at_ s, s.boot.phase = 1 → exec (.phaseClocks true at_) s = .next ((s.advance at_).toPhase 3)) ∧
  (∀ at_ s, s.boot.phase = 3 → s.life.lifecycle = .field →
    exec (.phaseFuses at_) s = .next (((s.advance at_).onLife (fun l => { l with nonceSeq := l.nonceSeq + 1 })).toPhase 4)) ∧
  (∀ at_ s, s.boot.phase = 3 → s.life.lifecycle = .blank →
    exec (.phaseFuses at_) s = .next (((s.advance at_).onLife (fun l => { l with nonceSeq := l.nonceSeq + 1 })).toPhase 0xF0)) ∧
  (∀ at_ s, s.boot.phase = 3 → s.life.lifecycle = .retired →
    exec (.phaseFuses at_) s = .next (((s.advance at_).onLife (fun l => { l with nonceSeq := l.nonceSeq + 1 })).toPhase 0xF1)) ∧
  (∀ n at_ s, s.boot.phase = 4 → 1 ≤ n → n ≤ 4 → s.life.helperBlown = false → ∃ t : State, exec (.phaseRoot n at_) s = .next t ∧
    t.boot.phase = 5 ∧ t.life.secretOk = true ∧ t.keep.bootCounter = (s.keep.bootCounter + 1) % 2 ^ 32) ∧
  (∀ n at_ s, s.boot.phase = 4 → (n = 0 ∨ 4 < n) → ∃ t : State, exec (.phaseRoot n at_) s = .next t ∧ t.boot.phase = 0xF2) ∧
  (∀ at_ s, s.boot.phase = 5 → openIntent s.life.journal = none → s.life.a.state = .valid → s.life.b.state = .empty →
    s.life.golden.state = .valid → exec (.phaseJournal at_) s = .next ((s.advance at_).toPhase 6)) ∧
  (∀ at_ s, s.boot.phase = 6 → s.boot.bootSrc = false → s.life.selectSlot = 0 → s.life.selectTrial = false → s.life.tried = [] →
    s.life.a.state = .valid → (∀ n, n < 4 → (s.stack n).trained = false) →
    exec (.phaseFolio true at_) s = .next (((s.advance at_).onLife (fun l => { l with pendingLoad := 0 })).toPhase 7)) ∧
  (∀ at_ s, s.boot.phase = 6 → s.boot.bootSrc = false → s.life.selectSlot = 0 → s.life.selectTrial = false → s.life.tried = [] →
    s.life.a.state = .valid → exec (.phaseFolio false at_) s = .next ((s.advance at_).passOver 0 2)) ∧
  (∀ at_ s, s.boot.phase = 7 → s.life.pendingLoad ≠ 255 → ∃ t : State, exec (.phaseDram none at_) s = .next t ∧ t.boot.phase = 8 ∧
    ∀ n, n < 4 → (t.stack n).trained = true) ∧
  (∀ k at_ s, s.boot.phase = 7 → ∃ t : State, exec (.phaseDram (some k) at_) s = .next t ∧ t.boot.phase = 0xF4) ∧
  (∀ at_ s, s.boot.phase = 8 → exec (.phaseLoad true at_) s = .next (((s.advance at_).onLife (fun l =>
    { l with running := l.pendingLoad })).toPhase 9)) ∧
  (∀ at_ s t, t = s.advance at_ → s.boot.phase = 8 → exec (.phaseLoad false at_) s = .next ((t.passOver t.life.pendingLoad 2).toPhase
    6)) ∧
  (∀ at_ s x, s.boot.phase = 9 → s.lanes.flash = some x → tableOk x.bytes = true →
    exec (.phaseLanes at_) s = .next (((s.advance at_).onLanes (fun l =>
      { l with inUse := some x, source := 0, staging := x.bytes })).toPhase 10)) ∧
  (∀ at_ s x, s.boot.phase = 9 → s.lanes.flash = none → s.lanes.keep = some x → tableOk x.bytes = true →
    exec (.phaseLanes at_) s = .next (((s.advance at_).onLanes (fun l =>
      { l with inUse := some x, source := 1, staging := x.bytes })).toPhase 10)) ∧
  (∀ at_ s, s.boot.phase = 10 → s.keep.restore = false → exec (.phaseRestore at_) s = .next (((restoreFormes (s.advance at_)).onBoot (fun b =>
    { b with driversOff := false })).toPhase 11)) ∧
  (∀ at_ s, s.boot.phase = 11 → s.faults.sticky = [] → s.faults.held = [] → s.life.fallbacks = [] → s.vox.links = [] →
    exec (.phasePorts at_) s = .next (State.trackGroups (((s.advance at_).onMem (fun m =>
      { m with remap := true, matrixWhy := .none })).toPhase 0xFF |>.onTwin (fun t => { t with role := .solo, act := !t.peerPin }) |>.onFaults
        (fun f => { f with sticky := [], held := [] })))) ∧
  (∀ at_ s t d, t = s.advance at_ → t.boot.profileDue = some d → d ≤ t.now → t.boot.phase = 0xFF →
    exec (.profileWrite at_) s = .next ((t.onKeep (fun k =>
      { k with profile := t.boot.inForce, profileValid := true, profileCopy := 1 - k.profileCopy })).onBoot (fun b =>
        { b with profileDue := none, profileLast := some t.now })))

/-- The compatibility commands (R426): the status in the old layout, a route as ROUTE_SET makes it, a reset 10 ms after the reply with cause
COMMAND, and an immediate activation. -/
def Obligations.CompatibilityCommandsAct : Prop :=
  (∀ rq s a, Served 0xF001 rq s a → rq.payload = [] →
    exec (.legacyStatus rq) s = .next (finish 0xF001 rq (okWith (leBytes 2 0x9256 ++ bytes [a.life.lifecycle.code, a.boot.phase,
      a.topSeverity, a.boot.cause, 0, 0] ++ leBytes 4 a.lat.standing.id ++ leBytes 4 a.ports.heartbeat.toNat) a))) ∧
  (∀ rq s a p e, Served 0xF002 rq s a → rq.payload = p → p.length = 4 → u16 p 0 ≤ 255 → (u16 p 2 ≤ 255 ∨ u16 p 2 = 0xFFFF) →
    e = Entry.mk (u16 p 2) 0 true false 0 →
    exec (.legacyRoute rq) s = .next (finish 0xF002 rq (routeSet (u16 p 0) e false a))) ∧
  (∀ rq s a p, Served 0xF002 rq s a → rq.payload = p → p.length = 4 → u16 p 0 ≤ 255 → u16 p 2 ≤ 255 → a.openForme = none →
    a.platesUsed + a.platesAdded [(u16 p 0, Entry.mk (u16 p 2) 0 true false 0)] ≤ 32768 →
    a.trunkError (u16 p 0) (Entry.mk (u16 p 2) 0 true false 0) = 0 → ∃ t : State,
    exec (.legacyRoute rq) s = .next (finish 0xF002 rq (ok t)) ∧
      t.lat.standing.entries = Tbl.put a.lat.standing.entries (u16 p 0) (Entry.mk (u16 p 2) 0 true false 0)) ∧
  (∀ rq s a p, Served 0xF002 rq s a → rq.payload = p → p.length = 4 → 255 < u16 p 0 →
    exec (.legacyRoute rq) s = .next (finish 0xF002 rq (fail 7 a))) ∧
  (∀ rq s a, Served 0xF003 rq s a → rq.payload = [] → a.boot.resetDue = none →
    exec (.legacyReset rq) s = .next (finish 0xF003 rq (ok (a.onBoot (fun b =>
      { b with resetDue := some (a.now + 10000000), resetDueCause := 6 }))))) ∧
  (∀ at_ s t u, t = s.advance at_ → t.boot.resetDue = some u → u ≤ t.now →
    exec (.legacyResetDue at_) s = .next (t.resetBy t.boot.resetDueCause)) ∧
  (∀ rq s a p f, Served 0xF004 rq s a → rq.payload = p → p.length = 4 → u8 p 0 ≤ 1 → fld p 1 3 = 0 → f = a.folioSlot (u8 p 0) →
    f.state = .valid → a.folioVersion ≤ f.version → a.life.rollback ≤ epochOf f.version → a.life.activation = none → a.life.paused = none →
    exec (.legacyActivate rq) s = .next (finish 0xF004 rq (accepted (a.onLife (fun l =>
      { l with activation := some { slot := u8 p 0, t := (a.now + 1000000 + 999999) / 1000000 * 1000000, handle := handleOf 0xF004 rq } })))))

/-- A step runs the command at the front: with a command at the front of the queue, a step is `exec` of it on the state with the queue's
rest; on an empty queue the device does what it does by itself (DESIGN CHOICE, log 2). -/
def Obligations.StepsRunTheFront : Prop :=
  (∀ c r (s : State), s.pending = c :: r → step s = exec c { s with pending := r }) ∧
  (∀ (s : State), s.pending = [] → step s = .next (idle s)) ∧
  (∀ (s : State) k g q r body, s.pending = [] → s.power.off = false → s.life.paused = none → s.nextPort = some k →
    g = Tbl.at s.ports.galleys k [] → g = q :: r → bodyOf q.opcode = some body →
    step s = .next (runCommand q.opcode body q.request (s.onPorts (fun p =>
      { p with galleys := Tbl.put p.galleys k r, lastServed := k }))))

/-- Every command completes: no step of the block faults and none is refused, whatever state it is taken in (R40 to R43: every request is
answered, and a refusal is an answer). -/
def Obligations.EveryStepIsSafe : Prop := ∀ (s : State), s.StepSafe

/-- Admission in its order (R40): each step's refusal where every earlier step passes, a request for another node forwarded after step 5,
one over a link to a node that has not joined its hierarchy answered LINK_LOST (R173), BUSY for a full timed list in step 9 (R451),
and what an admitted request leaves: its tag recorded in progress, and nothing else but the counters. -/
def Obligations.AdmissionKeepsItsOrder : Prop :=
  (∀ op rq (s : State), headerOk rq s = false → verdict op rq s = .refuse 7 []) ∧
  (∀ op rq (s : State), headerOk rq s = true → opClass op = none → verdict op rq s = .refuse 6 []) ∧
  (∀ op rq (s : State) st, headerOk rq s = true → opClass op ≠ none → (opClass op = some .deviceOnly → deviceTraffic op rq s = true) →
    privilege op rq s = some st → verdict op rq s = .refuse st []) ∧
  (∀ op rq (s : State), headerOk rq s = true → opClass op ≠ none → (opClass op = some .deviceOnly → deviceTraffic op rq s = true) →
    privilege op rq s = none → s.isForMe rq = false → verdict op rq s = .forward) ∧
  (∀ op rq (s : State), headerOk rq s = true → opClass op ≠ none → (opClass op = some .deviceOnly → deviceTraffic op rq s = true) →
    privilege op rq s = none → s.isForMe rq = true → s.unjoined rq = true → verdict op rq s = .refuse 10 []) ∧
  (∀ op rq (s : State), headerOk rq s = true → opClass op ≠ none → (opClass op = some .deviceOnly → deviceTraffic op rq s = true) →
    privilege op rq s = none → s.isForMe rq = true →
    s.unjoined rq = false → validNow op rq.port s = false → verdict op rq s = .refuse 15 []) ∧
  (∀ op rq (s : State), headerOk rq s = true → opClass op ≠ none → opClass op ≠ some .deviceOnly →
    privilege op rq s = none → s.isForMe rq = true →
    s.unjoined rq = false → validNow op rq.port s = true → s.twin.role = .standby → stateChanging op = true →
    standbyAccepts op = false → (rq.port = .cpa ∨ rq.port = .cpb ∨ rq.port = .cpm ∨ rq.port = .cpt) →
    verdict op rq s = .refuse 9 []) ∧
  (∀ op rq (s : State) e, headerOk rq s = true → opClass op ≠ none → opClass op ≠ some .deviceOnly →
    privilege op rq s = none → s.isForMe rq = true →
    s.unjoined rq = false → validNow op rq.port s = true → s.twin.role ≠ .standby →
    s.findTag (tagKey rq.port rq.originator) rq.tag = some e →
    verdict op rq s = .refuse 12 (leBytes 1 e.status ++ [0] ++ leBytes 2 e.length)) ∧
  (∀ op rq (s : State), headerOk rq s = true → opClass op ≠ none → opClass op ≠ some .deviceOnly →
    privilege op rq s = none → s.isForMe rq = true →
    s.unjoined rq = false → validNow op rq.port s = true → s.twin.role ≠ .standby →
    s.findTag (tagKey rq.port rq.originator) rq.tag = none → rq.etref ≠ 0 → ownTime op = true → bit rq.flags 3 = false →
    verdict op rq s = .refuse 7 []) ∧
  (∀ op rq (s : State), headerOk rq s = true → opClass op ≠ none → opClass op ≠ some .deviceOnly →
    privilege op rq s = none → s.isForMe rq = true →
    s.unjoined rq = false → validNow op rq.port s = true → s.twin.role ≠ .standby →
    s.findTag (tagKey rq.port rq.originator) rq.tag = none → rq.etref ≠ 0 → ownTime op = false →
    (s.ahead rq.etref < 50 ∨ 2 ^ 31 ≤ s.ahead rq.etref) → verdict op rq s = .refuse 11 []) ∧
  (∀ op rq (s : State), headerOk rq s = true → opClass op ≠ none → opClass op ≠ some .deviceOnly →
    privilege op rq s = none → s.isForMe rq = true →
    s.unjoined rq = false → validNow op rq.port s = true → s.twin.role = .solo →
    s.findTag (tagKey rq.port rq.originator) rq.tag = none → rq.etref ≠ 0 → ownTime op = false → bit rq.flags 3 = false →
    50 ≤ s.ahead rq.etref → s.ahead rq.etref < 2 ^ 31 → 256 ≤ s.timedUsed → verdict op rq s = .refuse 2 []) ∧
  (∀ op rq (s : State), headerOk rq s = true → opClass op ≠ none → opClass op ≠ some .deviceOnly →
    privilege op rq s = none → s.isForMe rq = true →
    s.unjoined rq = false → validNow op rq.port s = true → s.twin.role = .solo →
    s.findTag (tagKey rq.port rq.originator) rq.tag = none → rq.etref = 0 → (rq.port = .cpa ∨ rq.port = .cpb) →
    rq.replyBytes < largestReply op + 20 → verdict op rq s = .refuse 5 []) ∧
  (∀ op rq (s : State), headerOk rq s = true → opClass op ≠ none → opClass op ≠ some .deviceOnly →
    privilege op rq s = none → s.isForMe rq = true →
    s.unjoined rq = false → validNow op rq.port s = true → s.twin.role = .solo →
    s.findTag (tagKey rq.port rq.originator) rq.tag = none → rq.etref = 0 → (rq.port = .cpm ∨ rq.port = .cpt) →
    64 ≤ (s.galley rq.port).length → verdict op rq s = .refuse 2 []) ∧
  (∀ op rq (s : State), headerOk rq s = true → opClass op ≠ none → opClass op ≠ some .deviceOnly →
    privilege op rq s = none → s.isForMe rq = true →
    s.unjoined rq = false → validNow op rq.port s = true → s.twin.role = .solo →
    s.findTag (tagKey rq.port rq.originator) rq.tag = none → rq.etref = 0 →
    ((rq.port = .cpa ∨ rq.port = .cpb) → largestReply op + 20 ≤ rq.replyBytes) → (s.galley rq.port).length < 64 →
    verdict op rq s = .run) ∧
  (∀ rq (s : State), ∃ p : Ports, arrive rq s = { s with ports := p } ∧
    (arrive rq s).findTag (tagKey rq.port rq.originator) rq.tag = some { tag := rq.tag, status := 1, length := 0 } ∧
    p.galleys = s.ports.galleys ∧ p.timed = s.ports.timed)

/-- A refused request has no effect (R41): where admission refuses, only the ports and the links that carry the reply differ, no tag enters
the tag record, no galley and no timed command changes, and the reply carries the opcode and the tag as received, the refusal's status
and its payload, which is empty but for DUPLICATE's (R38); a packet that fails the length check or the CRC is answered with the opcode and
the tag as received. -/
def Obligations.RefusalsHaveNoEffect : Prop :=
  (∀ op body rq (s : State) st p, listening rq s = true → verdict op rq (s.received rq) = .refuse st p →
    ∃ t b : State, command op body rq s = t ∧ t = { s with ports := t.ports, vox := t.vox } ∧ t.ports.tags = s.ports.tags ∧
      t.ports.galleys = s.ports.galleys ∧ t.ports.timed = s.ports.timed ∧
      t = b.sendReply rq st (packet op rq.tag 1 st (rq.originator % 16384) s.node (s.nowUs % 2 ^ 32) p) ∧
      (st ≠ 12 → p = [])) ∧
  (∀ rq b agree s n u, listening rq s = true → (lengthOk b = false ∨ agree = false) → n = requestOf rq.port b →
    u = s.count rq.port (fun c => { c with received := c.received + 1, refusedOther := c.refusedOther + 1 }) →
    s.receive rq b agree = u.sendReply
      { n with
        slot := rq.slot
        replyAddr := rq.replyAddr
        replyBytes := rq.replyBytes
        vc := rq.vc
        txid := rq.txid } 5 (packet (u16 b 0) (u16 b 2) 1 5 (n.originator % 16384) s.node (s.nowUs % 2 ^ 32) [])) ∧
  (∀ rq b s n u, listening rq s = true → lengthOk b = true → crcOk b = false → n = requestOf rq.port b →
    u = s.count rq.port (fun c => { c with received := c.received + 1, badCrc := c.badCrc + 1 }) →
    s.receive rq b true = u.sendReply
      { n with
        slot := rq.slot
        replyAddr := rq.replyAddr
        replyBytes := rq.replyBytes
        vc := rq.vc
        txid := rq.txid } 4 (packet (u16 b 0) (u16 b 2) 1 4 (n.originator % 16384) s.node (s.nowUs % 2 ^ 32) []))

/-- BUSY leaves no tag (R452): a request that runs at once and whose final status is BUSY leaves no entry of its tag; with any other final
status the entry stays, with that status and the reply's length; a command that completes with BUSY leaves none either; one that admission refuses leaves the tag record as it was; and a request is admitted again exactly when its tag is not in the record, and
answered DUPLICATE when it is. -/
def Obligations.BusyLeavesNoTag : Prop :=
  (∀ op (body : Body) rq s a r, Served op rq s a → r = body rq a → r.2.ports.tags = a.ports.tags → r.1.status = 2 →
    State.findTag (command op body rq s) (tagKey rq.port rq.originator) rq.tag = none) ∧
  (∀ op (body : Body) rq s a r, Served op rq s a → r = body rq a → r.2.ports.tags = a.ports.tags → r.1.status ≠ 1 → r.1.status ≠ 2 →
    State.findTag (command op body rq s) (tagKey rq.port rq.originator) rq.tag
      = some { tag := rq.tag, status := r.1.status, length := r.1.payload.length }) ∧
  (∀ h p (s : State), (s.complete h 2 p).findTag (tagKey h.port h.originator) h.tag = none) ∧
  (∀ op (body : Body) rq (s : State) st p k tag, listening rq s = true → verdict op rq (s.received rq) = .refuse st p →
    (command op body rq s).findTag k tag = s.findTag k tag) ∧
  (∀ op rq (s : State), headerOk rq s = true → opClass op ≠ none → opClass op ≠ some .deviceOnly → privilege op rq s = none →
    s.isForMe rq = true → validNow op rq.port s = true → s.twin.role = .solo → rq.etref = 0 → (s.galley rq.port).length < 64 →
    (rq.port = .cpm ∨ rq.port = .cpt) → (verdict op rq s = .run ↔ s.findTag (tagKey rq.port rq.originator) rq.tag = none)) ∧
  (∀ op rq (s : State) e, headerOk rq s = true → opClass op ≠ none → opClass op ≠ some .deviceOnly → privilege op rq s = none →
    s.isForMe rq = true →
    s.unjoined rq = false → validNow op rq.port s = true → s.twin.role = .solo →
    s.findTag (tagKey rq.port rq.originator) rq.tag = some e →
    verdict op rq s = .refuse 12 (leBytes 1 e.status ++ [0] ++ leBytes 2 e.length))

/-- What answering a command leaves alone: the queue, the time base, the lattice, the Ethernet, audio, CHORD and imposition sections, memory
with every byte of it, the reference, proof runs, the life cycle with its keys and folios, and keep memory stand as the command's own
effect left them; and a command that is refused by its meaning leaves the settings of start-up too. -/
def Obligations.AnsweringKeepsSettings : Prop :=
  (∀ op rq (r : Res × State), SettingsKept r.2 (finish op rq r)) ∧
  (∀ op rq (r : Res × State), ∀ x, Memory.read (finish op rq r).mem.dram x = Memory.read r.2.mem.dram x) ∧
  (∀ op rq (r : Res × State), r.1.status ≠ 0 → r.1.status ≠ 1 → (finish op rq r).boot = r.2.boot) ∧
  (∀ c code obj d (s : State), State.raise c code obj d s =
    { s with ports := (State.raise c code obj d s).ports, vox := (State.raise c code obj d s).vox })

/-- What reset leaves, as the rules give it (R44, R50, R84, R108, R301, R302, R312, R331, R348, R358, R382, R393, R419): HELD with cause 1, time 0 at the
nominal rate, rings off, queues empty, SOLO, no pending forme, FREE_RUN, no fault and no safe state, the matrix in ordered mode for
start-up with REMAP 0, every default of the settings; and memory in its canonical form with nothing listed. -/
def Obligations.ResetLeavesTheDefaults : Prop :=
  State.reset.pending = [] ∧ State.reset.boot.phase = 0 ∧ State.reset.boot.cause = 1 ∧ State.reset.tb.t40 = 0 ∧
  State.reset.tb.inc = 2 ^ 41 ∧ State.reset.ports.cpa.cmdRingEn = false ∧ State.reset.ports.cpa.evtRingEn = false ∧
  State.reset.ports.cpa.cmdRingBase = 0 ∧ State.reset.ports.cpa.evtRingBase = 0 ∧ State.reset.ports.cpb.cmdRingEn = false ∧
  State.reset.ports.cpb.evtRingEn = false ∧ State.reset.ports.cpa.ringErr = false ∧ State.reset.ports.cpa.pba = 0 ∧
  State.reset.ports.eventCount = 0 ∧ State.reset.ports.eventsLost = 0 ∧ State.reset.ports.heartbeat = 0 ∧ State.reset.ports.tags = [] ∧
  State.reset.ports.timed = [] ∧ State.reset.keep.nodeId = 0 ∧ State.reset.twin.role = .solo ∧ State.reset.twin.settleMs = 2000 ∧
  State.reset.twin.mirrorLeadUs = 200 ∧ State.reset.power.state = .run ∧ State.reset.power.idleMs = 1000 ∧
  State.reset.power.octantMask = 2 ^ 32 - 1 ∧ State.reset.power.wakeFlags = 15 ∧ State.reset.ref.state = .freeRun ∧
  State.reset.ref.slope = 100 ∧ State.reset.ref.qualS = 5 ∧ State.reset.ref.stepFirst = true ∧ State.reset.ref.holdoverMaxS = 86400 ∧
  State.reset.ref.freqLimitPpm = 50 ∧ State.reset.ref.qualityLimit = 255 ∧ State.reset.ref.ptp0.domain = 127 ∧
  State.reset.ref.ptp1.announceTimeout = 3 ∧ (∀ i, (State.reset.cand i).configQuality = 248) ∧ State.reset.advertised = 248 ∧
  State.reset.lat.standing.id = 0 ∧ State.reset.lat.pending = [] ∧ State.reset.topSeverity = 0 ∧ State.reset.faults.safe = false ∧
  State.reset.faults.minSeverity = 4 ∧ State.reset.faults.queue = [] ∧ State.reset.faults.overflow = 0 ∧ State.reset.mem.remap = false ∧
  State.reset.mem.matrixWhy = .startup ∧ State.reset.mem.scrubHours = 8 ∧ State.reset.mem.tables = [] ∧ State.reset.mem.plates = [] ∧
  State.reset.proof.sliceFormat = 0x44 ∧ State.reset.proof.sliceEvery = 16 ∧ State.reset.hier.timeoutMs = 10 ∧
  State.reset.hier.relayFanout = 4 ∧ State.reset.mem.dram = [] ∧ Memory.wf State.reset.mem.dram = true ∧
  State.reset.galleyFree .cpa = 64 ∧ State.reset.galleyFree .cpb = 64 ∧ State.reset.galleyFree .cpm = 64 ∧ State.reset.galleyFree .cpt = 64

/-- Every multi-byte field is little-endian (R6): byte i of a field holds bits 8i + 7 to 8i of the value, a field reads back as its value modulo
its width, and a signed field of two or four bytes reads back every value of its range. -/
def Obligations.FieldsAreLittleEndian : Prop :=
  (∀ n v i, i < n → (leBytes n v)[i]? = some (BitVec.ofNat 8 (v / 2 ^ (8 * i)))) ∧ (∀ n v, (leBytes n v).length = n) ∧
  (∀ n v, leNat (leBytes n v) = v % 2 ^ (8 * n)) ∧ (∀ l, leBytes l.length (leNat l) = l) ∧
  (∀ a b n, fld (a ++ b) a.length n = fld b 0 n) ∧ (∀ v : Int, -2 ^ 31 ≤ v → v < 2 ^ 31 → s32 (leInt 4 v) 0 = v) ∧
  (∀ v : Int, -2 ^ 15 ≤ v → v < 2 ^ 15 → s16 (leInt 2 v) 0 = v)

/-- Encodings read back (R35, R36, R71, R149, R150, R154, R179, R265, R405): a packet passes both transport checks and gives back every header field and
its payload; so do a link transaction header, a forme entry, a page record and a plate table entry's bytes with every field in its
range; and a frame or packet cut into VC blocks gives blocks of 62 bytes that join to it again, the first alone marked first and the last
alone marked last. -/
def Obligations.EncodingsReadBack : Prop :=
  (∀ op tag fl st tg og et (d : List Byte), op < 2 ^ 16 → tag < 2 ^ 16 → fl < 2 ^ 8 → st < 2 ^ 8 → tg < 2 ^ 16 → og < 2 ^ 16 →
    et < 2 ^ 32 → d.length ≤ 4096 → ∃ b, b = packet op tag fl st tg og et d ∧ b.length = 20 + d.length ∧ lengthOk b = true ∧
      crcOk b = true ∧ payloadOf b = d ∧ parseHeader b = {
        opcode := op
        tag := tag
        length := d.length
        flags := fl
        status := st
        target := tg
        originator := og
        etref := et }) ∧
  (∀ txid kind path hops content (d : List Byte), txid < 1024 → kind ≤ 2 → path ≤ 1 → hops < 256 → content ≤ 1 → d.length < 2 ^ 16 →
    ∃ b, b = txHeader txid kind path hops content d.length ++ d ∧ txOk b = true ∧ b.drop 8 = d ∧ parseTx b = {
      txid := txid
      kind := kind
      path := path
      hops := hops
      content := content
      bytes := d.length }) ∧
  (∀ dst (e : Entry), dst < 2 ^ 16 → e.source < 2 ^ 16 → e.plane < 4 → -2 ^ 31 ≤ e.offset → e.offset < 2 ^ 31 →
    parseEntry (entryBytes dst e) = (dst, e) ∧ entryReservedOk (entryBytes dst e) = true ∧ (entryBytes dst e).length = 12) ∧
  (∀ r : Page, r.input < 256 → r.blend < 4 → r.opacity < 2 ^ 16 → r.edge < 256 → r.srcX < 2 ^ 16 → r.srcY < 2 ^ 16 → r.srcW < 2 ^ 16 →
    r.srcH < 2 ^ 16 → -2 ^ 15 ≤ r.dstX → r.dstX < 2 ^ 15 → -2 ^ 15 ≤ r.dstY → r.dstY < 2 ^ 15 → r.dstW < 2 ^ 16 → r.dstH < 2 ^ 16 →
    r.keyLow < 2 ^ 16 → r.keyHigh < 2 ^ 16 → parsePage (pageBytes r) = r ∧ (pageBytes r).length = 32) ∧
  (∀ (e : Pte) b, e.node < 2 ^ 14 → e.plate < 2 ^ 21 → b = pteBytes (some e) → b.length = 8 ∧ bit (u32 b 0) 0 = true ∧
    bit (u32 b 0) 1 = e.writable ∧ bit (u32 b 0) 2 = e.pinned ∧ bit (u32 b 0) 3 = e.rt ∧ bit (u32 b 0) 4 = e.remote ∧
    u8 b 1 = e.generation.toNat ∧ u16 b 2 = e.node ∧ u32 b 4 = e.plate) ∧
  (∀ st (d : List Byte), st < 256 → d ≠ [] → (blocksFor st d).flatMap (fun b => (b.drop 2).take (u8 b 1 % 64)) = d ∧
    (blocksFor st d).length = (d.length + 59) / 60 ∧ ∀ i b, (blocksFor st d)[i]? = some b → b.length = 62 ∧ u8 b 0 = st ∧
      (bit (u8 b 1) 6 = true ↔ i = 0) ∧ (bit (u8 b 1) 7 = true ↔ i + 1 = (d.length + 59) / 60))

/-- Local memory keeps its canonical form (R276): from every state whose memory lists rising addresses with no zero byte, every step leaves such a
memory. -/
def Obligations.MemoryKeepsItsForm : Prop :=
  ∀ (s t : State), Memory.wf s.mem.dram = true → step s = .next t → Memory.wf t.mem.dram = true
end

