-- ==== Sys2Proof/Laws/Tables.lean ====
section
/-! SUPPORT. Sparse tables and byte memories: a read after a write, and the canonical form of memory kept by every memory
operation. -/

namespace Sys2Proof

theorem Tbl.get?_put_self {α : Type} (t : Tbl α) (k : Nat) (v : α) : Tbl.get? (Tbl.put t k v) k = some v := by
  induction t with
  | nil => simp [Tbl.put, Tbl.get?]
  | cons e r ih =>
    obtain ⟨i, w⟩ := e
    simp only [Tbl.put]
    split
    · simp [Tbl.get?]
    · split
      · simp [Tbl.get?]
      · rename_i h1 h2
        have h : i ≠ k := fun h => h2 h.symm
        simp [Tbl.get?, h, ih]

theorem Tbl.get?_put_other {α : Type} (t : Tbl α) {j k : Nat} (v : α) (h : j ≠ k) :
    Tbl.get? (Tbl.put t k v) j = Tbl.get? t j := by
  induction t with
  | nil => simp [Tbl.put, Tbl.get?, Ne.symm h]
  | cons e r ih =>
    obtain ⟨i, w⟩ := e
    simp only [Tbl.put]
    split
    · simp [Tbl.get?, Ne.symm h]
    · split
      · rename_i h2
        subst h2
        simp [Tbl.get?, Ne.symm h]
      · simp [Tbl.get?, ih]

@[simp] theorem Tbl.at_put_self {α : Type} (t : Tbl α) (k : Nat) (v d : α) : Tbl.at (Tbl.put t k v) k d = v := by
  simp [Tbl.at, Tbl.get?_put_self]

theorem Tbl.at_put_other {α : Type} (t : Tbl α) {j k : Nat} (v d : α) (h : j ≠ k) :
    Tbl.at (Tbl.put t k v) j d = Tbl.at t j d := by
  simp [Tbl.at, Tbl.get?_put_other t v h]

@[simp] theorem Tbl.at_upd_self {α : Type} (t : Tbl α) (k : Nat) (d : α) (f : α → α) :
    Tbl.at (Tbl.upd t k d f) k d = f (Tbl.at t k d) := by
  simp [Tbl.upd]

theorem Tbl.at_upd_other {α : Type} (t : Tbl α) {j k : Nat} (d d' : α) (f : α → α) (h : j ≠ k) :
    Tbl.at (Tbl.upd t k d f) j d' = Tbl.at t j d' := by
  simp [Tbl.upd, Tbl.at_put_other _ _ _ h]

/-! Memory. -/

/-- Every listed address of a canonical memory lies above the first. -/
theorem Memory.wf_above {a : Nat} {b : Byte} {r : Memory} (h : Memory.wf ((a, b) :: r) = true) :
    ∀ e ∈ r, a < e.1 := by
  induction r generalizing a b with
  | nil => simp
  | cons e r ih =>
    obtain ⟨a', b'⟩ := e
    simp only [Memory.wf, Bool.and_eq_true, decide_eq_true_eq] at h
    obtain ⟨⟨_, h1⟩, h2⟩ := h
    intro x hx
    cases hx with
    | head => exact h1
    | tail _ hx => exact Nat.lt_trans h1 (ih (by simpa [Memory.wf] using h2) x hx)

theorem Memory.wf_tail {e : Nat × Byte} {r : Memory} (h : Memory.wf (e :: r) = true) : Memory.wf r = true := by
  simp only [Memory.wf, Bool.and_eq_true] at h
  exact h.2

theorem Memory.wf_cons {a : Nat} {b : Byte} {r : Memory} (hb : b ≠ 0) (hr : Memory.wf r = true) (h : ∀ e ∈ r, a < e.1) :
    Memory.wf ((a, b) :: r) = true := by
  cases r with
  | nil => simpa [Memory.wf] using hb
  | cons e r =>
    have := h e (by simp)
    simp only [Memory.wf] at hr ⊢
    simp_all

/-- Dropping entries keeps the canonical form. -/
theorem Memory.wf_filter (f : Nat × Byte → Bool) {m : Memory} (h : Memory.wf m = true) : Memory.wf (m.filter f) = true := by
  induction m with
  | nil => rfl
  | cons e r ih =>
    obtain ⟨a, b⟩ := e
    have hr := ih (Memory.wf_tail h)
    simp only [List.filter]
    split
    · refine Memory.wf_cons ?_ hr ?_
      · simp only [Memory.wf, Bool.and_eq_true, bne_iff_ne] at h
        exact h.1.1
      · intro e he
        exact Memory.wf_above h e (List.mem_filter.1 he).1
    · exact hr

theorem Tbl.mem_put {α : Type} {t : Tbl α} {k : Nat} {v : α} {e : Nat × α} (h : e ∈ Tbl.put t k v) : e = (k, v) ∨ e ∈ t := by
  induction t with
  | nil => simp [Tbl.put] at h; exact .inl h
  | cons x r ih =>
    obtain ⟨i, w⟩ := x
    simp only [Tbl.put] at h
    split at h
    · simpa using h
    · split at h
      · rcases List.mem_cons.1 h with h | h
        · exact .inl h
        · exact .inr (by simp [h])
      · rcases List.mem_cons.1 h with h | h
        · exact .inr (by simp [h])
        · rcases ih h with h | h
          · exact .inl h
          · exact .inr (by simp [h])

theorem Memory.wf_put {m : Memory} (a : Nat) {b : Byte} (hb : b ≠ 0) (h : Memory.wf m = true) :
    Memory.wf (Tbl.put (α := Byte) m a b) = true := by
  induction m with
  | nil => simpa [Tbl.put, Memory.wf] using hb
  | cons e r ih =>
    obtain ⟨i, w⟩ := e
    have hw : w ≠ 0 := by
      simp only [Memory.wf, Bool.and_eq_true, bne_iff_ne] at h
      exact h.1.1
    simp only [Tbl.put]
    split
    · rename_i hlt
      refine Memory.wf_cons hb h ?_
      intro x hx
      rcases List.mem_cons.1 hx with rfl | hx
      · exact hlt
      · exact Nat.lt_trans hlt (Memory.wf_above h x hx)
    · split
      · rename_i he
        subst he
        exact Memory.wf_cons hb (Memory.wf_tail h) (Memory.wf_above h)
      · rename_i h1 h2
        refine Memory.wf_cons hw (ih (Memory.wf_tail h)) ?_
        intro x hx
        rcases Tbl.mem_put hx with rfl | hx
        · simp only
          omega
        · exact Memory.wf_above h x hx

/-- Writing a byte keeps the canonical form. -/
theorem Memory.wf_write {m : Memory} (a : Nat) (b : Byte) (h : Memory.wf m = true) : Memory.wf (Memory.write m a b) = true := by
  unfold Memory.write
  split
  · exact Memory.wf_filter _ h
  · rename_i hb
    exact Memory.wf_put a hb h

/-- Writing a run of bytes keeps the canonical form. -/
theorem Memory.wf_writeN (d : List Byte) {m : Memory} (a : Nat) (h : Memory.wf m = true) :
    Memory.wf (Memory.writeN m a d) = true := by
  induction d generalizing m a with
  | nil => exact h
  | cons b r ih => exact ih (a + 1) (Memory.wf_write a b h)

/-- Clearing a range keeps the canonical form. -/
theorem Memory.wf_clear {m : Memory} (a n : Nat) (h : Memory.wf m = true) : Memory.wf (Memory.clear m a n) = true :=
  Memory.wf_filter _ h

theorem Tbl.get?_del_self {α : Type} (t : Tbl α) (k : Nat) : Tbl.get? (Tbl.del t k) k = none := by
  induction t with
  | nil => rfl
  | cons e r ih =>
    obtain ⟨i, w⟩ := e
    unfold Tbl.del at ih ⊢
    simp only [List.filter]
    split
    · rename_i h
      have : i ≠ k := by simpa using h
      simp [Tbl.get?, this, ih]
    · exact ih

theorem Tbl.get?_del_other {α : Type} (t : Tbl α) {j k : Nat} (h : j ≠ k) : Tbl.get? (Tbl.del t k) j = Tbl.get? t j := by
  induction t with
  | nil => rfl
  | cons e r ih =>
    obtain ⟨i, w⟩ := e
    unfold Tbl.del at ih ⊢
    simp only [List.filter]
    split
    · simp only [Tbl.get?, ih]
    · rename_i hk
      have : i = k := by simpa using hk
      subst this
      simp [Tbl.get?, Ne.symm h, ih]

/-- A read after a write to the same address gives the byte written. -/
@[simp] theorem Memory.read_write_self (m : Memory) (a : Nat) (b : Byte) : Memory.read (Memory.write m a b) a = b := by
  unfold Memory.read Memory.write
  split
  · rename_i h
    simp [Tbl.at, Tbl.get?_del_self, h]
  · simp [Tbl.at, Tbl.get?_put_self]

/-- A write leaves every other address alone. -/
theorem Memory.read_write_other (m : Memory) {a c : Nat} (b : Byte) (h : c ≠ a) :
    Memory.read (Memory.write m a b) c = Memory.read m c := by
  unfold Memory.read Memory.write
  split
  · simp [Tbl.at, Tbl.get?_del_other _ h]
  · simp [Tbl.at, Tbl.get?_put_other _ _ h]

/-- A run of bytes written below or above an address leaves it alone. -/
theorem Memory.read_writeN_outside (d : List Byte) (m : Memory) {a c : Nat} (h : c < a ∨ a + d.length ≤ c) :
    Memory.read (Memory.writeN m a d) c = Memory.read m c := by
  induction d generalizing m a with
  | nil => rfl
  | cons b r ih =>
    simp only [List.length_cons] at h
    simp only [Memory.writeN]
    rw [ih (Memory.write m a b) (a := a + 1) (by omega), Memory.read_write_other _ _ (by omega)]

/-- `n` bytes read from an address are `n` bytes. -/
@[simp] theorem Memory.length_readN (m : Memory) (a n : Nat) : (Memory.readN m a n).length = n := by
  simp [Memory.readN]

/-- A run of bytes read is its first part and the rest. -/
theorem Memory.readN_add (m : Memory) (a k n : Nat) :
    Memory.readN m a (k + n) = Memory.readN m a k ++ Memory.readN m (a + k) n := by
  simp [Memory.readN, List.range_add, Nat.add_assoc]

/-- A run of bytes read is its first byte and the rest. -/
theorem Memory.readN_succ (m : Memory) (a n : Nat) :
    Memory.readN m a (n + 1) = Memory.read m a :: Memory.readN m (a + 1) n := by
  rw [Nat.add_comm n 1, Memory.readN_add]
  simp [Memory.readN]

/-- A run of bytes reads back as it was written. -/
@[simp] theorem Memory.readN_writeN_self (d : List Byte) (m : Memory) (a : Nat) :
    Memory.readN (Memory.writeN m a d) a d.length = d := by
  induction d generalizing m a with
  | nil => rfl
  | cons b r ih =>
    rw [List.length_cons, Memory.readN_succ]
    simp only [Memory.writeN, ih]
    rw [Memory.read_writeN_outside r _ (by omega), Memory.read_write_self]

/-- A run of bytes written beside a range leaves what the range reads. -/
theorem Memory.readN_writeN_outside (d : List Byte) (m : Memory) {a c n : Nat} (h : c + n ≤ a ∨ a + d.length ≤ c) :
    Memory.readN (Memory.writeN m a d) c n = Memory.readN m c n := by
  unfold Memory.readN
  refine List.map_congr_left fun i hi => ?_
  have := List.mem_range.mp hi
  exact Memory.read_writeN_outside d m (by omega)

end Sys2Proof
end

