-- ==== Sys2Proof/Laws/State.lean ====
section
/-! SUPPORT. What a change of one section of the state leaves of each section, so that no proof unfolds a record update. -/

namespace Sys2Proof.Machine

variable (s : State)

@[simp] theorem onTb_tb (g : TimeBase → TimeBase) : (s.onTb g).tb = g s.tb := rfl
@[simp] theorem onTb_ports (g : TimeBase → TimeBase) : (s.onTb g).ports = s.ports := rfl
@[simp] theorem onTb_lat (g : TimeBase → TimeBase) : (s.onTb g).lat = s.lat := rfl
@[simp] theorem onTb_lanes (g : TimeBase → TimeBase) : (s.onTb g).lanes = s.lanes := rfl
@[simp] theorem onTb_eth (g : TimeBase → TimeBase) : (s.onTb g).eth = s.eth := rfl
@[simp] theorem onTb_vox (g : TimeBase → TimeBase) : (s.onTb g).vox = s.vox := rfl
@[simp] theorem onTb_hier (g : TimeBase → TimeBase) : (s.onTb g).hier = s.hier := rfl
@[simp] theorem onTb_audio (g : TimeBase → TimeBase) : (s.onTb g).audio = s.audio := rfl
@[simp] theorem onTb_chord (g : TimeBase → TimeBase) : (s.onTb g).chord = s.chord := rfl
@[simp] theorem onTb_imp (g : TimeBase → TimeBase) : (s.onTb g).imp = s.imp := rfl
@[simp] theorem onTb_mem (g : TimeBase → TimeBase) : (s.onTb g).mem = s.mem := rfl
@[simp] theorem onTb_ref (g : TimeBase → TimeBase) : (s.onTb g).ref = s.ref := rfl
@[simp] theorem onTb_twin (g : TimeBase → TimeBase) : (s.onTb g).twin = s.twin := rfl
@[simp] theorem onTb_faults (g : TimeBase → TimeBase) : (s.onTb g).faults = s.faults := rfl
@[simp] theorem onTb_power (g : TimeBase → TimeBase) : (s.onTb g).power = s.power := rfl
@[simp] theorem onTb_proof (g : TimeBase → TimeBase) : (s.onTb g).proof = s.proof := rfl
@[simp] theorem onTb_life (g : TimeBase → TimeBase) : (s.onTb g).life = s.life := rfl
@[simp] theorem onTb_keep (g : TimeBase → TimeBase) : (s.onTb g).keep = s.keep := rfl
@[simp] theorem onTb_boot (g : TimeBase → TimeBase) : (s.onTb g).boot = s.boot := rfl
@[simp] theorem onTb_pending (g : TimeBase → TimeBase) : (s.onTb g).pending = s.pending := rfl

@[simp] theorem onPorts_tb (g : Ports → Ports) : (s.onPorts g).tb = s.tb := rfl
@[simp] theorem onPorts_ports (g : Ports → Ports) : (s.onPorts g).ports = g s.ports := rfl
@[simp] theorem onPorts_lat (g : Ports → Ports) : (s.onPorts g).lat = s.lat := rfl
@[simp] theorem onPorts_lanes (g : Ports → Ports) : (s.onPorts g).lanes = s.lanes := rfl
@[simp] theorem onPorts_eth (g : Ports → Ports) : (s.onPorts g).eth = s.eth := rfl
@[simp] theorem onPorts_vox (g : Ports → Ports) : (s.onPorts g).vox = s.vox := rfl
@[simp] theorem onPorts_hier (g : Ports → Ports) : (s.onPorts g).hier = s.hier := rfl
@[simp] theorem onPorts_audio (g : Ports → Ports) : (s.onPorts g).audio = s.audio := rfl
@[simp] theorem onPorts_chord (g : Ports → Ports) : (s.onPorts g).chord = s.chord := rfl
@[simp] theorem onPorts_imp (g : Ports → Ports) : (s.onPorts g).imp = s.imp := rfl
@[simp] theorem onPorts_mem (g : Ports → Ports) : (s.onPorts g).mem = s.mem := rfl
@[simp] theorem onPorts_ref (g : Ports → Ports) : (s.onPorts g).ref = s.ref := rfl
@[simp] theorem onPorts_twin (g : Ports → Ports) : (s.onPorts g).twin = s.twin := rfl
@[simp] theorem onPorts_faults (g : Ports → Ports) : (s.onPorts g).faults = s.faults := rfl
@[simp] theorem onPorts_power (g : Ports → Ports) : (s.onPorts g).power = s.power := rfl
@[simp] theorem onPorts_proof (g : Ports → Ports) : (s.onPorts g).proof = s.proof := rfl
@[simp] theorem onPorts_life (g : Ports → Ports) : (s.onPorts g).life = s.life := rfl
@[simp] theorem onPorts_keep (g : Ports → Ports) : (s.onPorts g).keep = s.keep := rfl
@[simp] theorem onPorts_boot (g : Ports → Ports) : (s.onPorts g).boot = s.boot := rfl
@[simp] theorem onPorts_pending (g : Ports → Ports) : (s.onPorts g).pending = s.pending := rfl

@[simp] theorem onLat_tb (g : Lattice → Lattice) : (s.onLat g).tb = s.tb := rfl
@[simp] theorem onLat_ports (g : Lattice → Lattice) : (s.onLat g).ports = s.ports := rfl
@[simp] theorem onLat_lat (g : Lattice → Lattice) : (s.onLat g).lat = g s.lat := rfl
@[simp] theorem onLat_lanes (g : Lattice → Lattice) : (s.onLat g).lanes = s.lanes := rfl
@[simp] theorem onLat_eth (g : Lattice → Lattice) : (s.onLat g).eth = s.eth := rfl
@[simp] theorem onLat_vox (g : Lattice → Lattice) : (s.onLat g).vox = s.vox := rfl
@[simp] theorem onLat_hier (g : Lattice → Lattice) : (s.onLat g).hier = s.hier := rfl
@[simp] theorem onLat_audio (g : Lattice → Lattice) : (s.onLat g).audio = s.audio := rfl
@[simp] theorem onLat_chord (g : Lattice → Lattice) : (s.onLat g).chord = s.chord := rfl
@[simp] theorem onLat_imp (g : Lattice → Lattice) : (s.onLat g).imp = s.imp := rfl
@[simp] theorem onLat_mem (g : Lattice → Lattice) : (s.onLat g).mem = s.mem := rfl
@[simp] theorem onLat_ref (g : Lattice → Lattice) : (s.onLat g).ref = s.ref := rfl
@[simp] theorem onLat_twin (g : Lattice → Lattice) : (s.onLat g).twin = s.twin := rfl
@[simp] theorem onLat_faults (g : Lattice → Lattice) : (s.onLat g).faults = s.faults := rfl
@[simp] theorem onLat_power (g : Lattice → Lattice) : (s.onLat g).power = s.power := rfl
@[simp] theorem onLat_proof (g : Lattice → Lattice) : (s.onLat g).proof = s.proof := rfl
@[simp] theorem onLat_life (g : Lattice → Lattice) : (s.onLat g).life = s.life := rfl
@[simp] theorem onLat_keep (g : Lattice → Lattice) : (s.onLat g).keep = s.keep := rfl
@[simp] theorem onLat_boot (g : Lattice → Lattice) : (s.onLat g).boot = s.boot := rfl
@[simp] theorem onLat_pending (g : Lattice → Lattice) : (s.onLat g).pending = s.pending := rfl

@[simp] theorem onLanes_tb (g : Lanes → Lanes) : (s.onLanes g).tb = s.tb := rfl
@[simp] theorem onLanes_ports (g : Lanes → Lanes) : (s.onLanes g).ports = s.ports := rfl
@[simp] theorem onLanes_lat (g : Lanes → Lanes) : (s.onLanes g).lat = s.lat := rfl
@[simp] theorem onLanes_lanes (g : Lanes → Lanes) : (s.onLanes g).lanes = g s.lanes := rfl
@[simp] theorem onLanes_eth (g : Lanes → Lanes) : (s.onLanes g).eth = s.eth := rfl
@[simp] theorem onLanes_vox (g : Lanes → Lanes) : (s.onLanes g).vox = s.vox := rfl
@[simp] theorem onLanes_hier (g : Lanes → Lanes) : (s.onLanes g).hier = s.hier := rfl
@[simp] theorem onLanes_audio (g : Lanes → Lanes) : (s.onLanes g).audio = s.audio := rfl
@[simp] theorem onLanes_chord (g : Lanes → Lanes) : (s.onLanes g).chord = s.chord := rfl
@[simp] theorem onLanes_imp (g : Lanes → Lanes) : (s.onLanes g).imp = s.imp := rfl
@[simp] theorem onLanes_mem (g : Lanes → Lanes) : (s.onLanes g).mem = s.mem := rfl
@[simp] theorem onLanes_ref (g : Lanes → Lanes) : (s.onLanes g).ref = s.ref := rfl
@[simp] theorem onLanes_twin (g : Lanes → Lanes) : (s.onLanes g).twin = s.twin := rfl
@[simp] theorem onLanes_faults (g : Lanes → Lanes) : (s.onLanes g).faults = s.faults := rfl
@[simp] theorem onLanes_power (g : Lanes → Lanes) : (s.onLanes g).power = s.power := rfl
@[simp] theorem onLanes_proof (g : Lanes → Lanes) : (s.onLanes g).proof = s.proof := rfl
@[simp] theorem onLanes_life (g : Lanes → Lanes) : (s.onLanes g).life = s.life := rfl
@[simp] theorem onLanes_keep (g : Lanes → Lanes) : (s.onLanes g).keep = s.keep := rfl
@[simp] theorem onLanes_boot (g : Lanes → Lanes) : (s.onLanes g).boot = s.boot := rfl
@[simp] theorem onLanes_pending (g : Lanes → Lanes) : (s.onLanes g).pending = s.pending := rfl

@[simp] theorem onEth_tb (g : Eth → Eth) : (s.onEth g).tb = s.tb := rfl
@[simp] theorem onEth_ports (g : Eth → Eth) : (s.onEth g).ports = s.ports := rfl
@[simp] theorem onEth_lat (g : Eth → Eth) : (s.onEth g).lat = s.lat := rfl
@[simp] theorem onEth_lanes (g : Eth → Eth) : (s.onEth g).lanes = s.lanes := rfl
@[simp] theorem onEth_eth (g : Eth → Eth) : (s.onEth g).eth = g s.eth := rfl
@[simp] theorem onEth_vox (g : Eth → Eth) : (s.onEth g).vox = s.vox := rfl
@[simp] theorem onEth_hier (g : Eth → Eth) : (s.onEth g).hier = s.hier := rfl
@[simp] theorem onEth_audio (g : Eth → Eth) : (s.onEth g).audio = s.audio := rfl
@[simp] theorem onEth_chord (g : Eth → Eth) : (s.onEth g).chord = s.chord := rfl
@[simp] theorem onEth_imp (g : Eth → Eth) : (s.onEth g).imp = s.imp := rfl
@[simp] theorem onEth_mem (g : Eth → Eth) : (s.onEth g).mem = s.mem := rfl
@[simp] theorem onEth_ref (g : Eth → Eth) : (s.onEth g).ref = s.ref := rfl
@[simp] theorem onEth_twin (g : Eth → Eth) : (s.onEth g).twin = s.twin := rfl
@[simp] theorem onEth_faults (g : Eth → Eth) : (s.onEth g).faults = s.faults := rfl
@[simp] theorem onEth_power (g : Eth → Eth) : (s.onEth g).power = s.power := rfl
@[simp] theorem onEth_proof (g : Eth → Eth) : (s.onEth g).proof = s.proof := rfl
@[simp] theorem onEth_life (g : Eth → Eth) : (s.onEth g).life = s.life := rfl
@[simp] theorem onEth_keep (g : Eth → Eth) : (s.onEth g).keep = s.keep := rfl
@[simp] theorem onEth_boot (g : Eth → Eth) : (s.onEth g).boot = s.boot := rfl
@[simp] theorem onEth_pending (g : Eth → Eth) : (s.onEth g).pending = s.pending := rfl

@[simp] theorem onVox_tb (g : Voxad → Voxad) : (s.onVox g).tb = s.tb := rfl
@[simp] theorem onVox_ports (g : Voxad → Voxad) : (s.onVox g).ports = s.ports := rfl
@[simp] theorem onVox_lat (g : Voxad → Voxad) : (s.onVox g).lat = s.lat := rfl
@[simp] theorem onVox_lanes (g : Voxad → Voxad) : (s.onVox g).lanes = s.lanes := rfl
@[simp] theorem onVox_eth (g : Voxad → Voxad) : (s.onVox g).eth = s.eth := rfl
@[simp] theorem onVox_vox (g : Voxad → Voxad) : (s.onVox g).vox = g s.vox := rfl
@[simp] theorem onVox_hier (g : Voxad → Voxad) : (s.onVox g).hier = s.hier := rfl
@[simp] theorem onVox_audio (g : Voxad → Voxad) : (s.onVox g).audio = s.audio := rfl
@[simp] theorem onVox_chord (g : Voxad → Voxad) : (s.onVox g).chord = s.chord := rfl
@[simp] theorem onVox_imp (g : Voxad → Voxad) : (s.onVox g).imp = s.imp := rfl
@[simp] theorem onVox_mem (g : Voxad → Voxad) : (s.onVox g).mem = s.mem := rfl
@[simp] theorem onVox_ref (g : Voxad → Voxad) : (s.onVox g).ref = s.ref := rfl
@[simp] theorem onVox_twin (g : Voxad → Voxad) : (s.onVox g).twin = s.twin := rfl
@[simp] theorem onVox_faults (g : Voxad → Voxad) : (s.onVox g).faults = s.faults := rfl
@[simp] theorem onVox_power (g : Voxad → Voxad) : (s.onVox g).power = s.power := rfl
@[simp] theorem onVox_proof (g : Voxad → Voxad) : (s.onVox g).proof = s.proof := rfl
@[simp] theorem onVox_life (g : Voxad → Voxad) : (s.onVox g).life = s.life := rfl
@[simp] theorem onVox_keep (g : Voxad → Voxad) : (s.onVox g).keep = s.keep := rfl
@[simp] theorem onVox_boot (g : Voxad → Voxad) : (s.onVox g).boot = s.boot := rfl
@[simp] theorem onVox_pending (g : Voxad → Voxad) : (s.onVox g).pending = s.pending := rfl

@[simp] theorem onHier_tb (g : Hier → Hier) : (s.onHier g).tb = s.tb := rfl
@[simp] theorem onHier_ports (g : Hier → Hier) : (s.onHier g).ports = s.ports := rfl
@[simp] theorem onHier_lat (g : Hier → Hier) : (s.onHier g).lat = s.lat := rfl
@[simp] theorem onHier_lanes (g : Hier → Hier) : (s.onHier g).lanes = s.lanes := rfl
@[simp] theorem onHier_eth (g : Hier → Hier) : (s.onHier g).eth = s.eth := rfl
@[simp] theorem onHier_vox (g : Hier → Hier) : (s.onHier g).vox = s.vox := rfl
@[simp] theorem onHier_hier (g : Hier → Hier) : (s.onHier g).hier = g s.hier := rfl
@[simp] theorem onHier_audio (g : Hier → Hier) : (s.onHier g).audio = s.audio := rfl
@[simp] theorem onHier_chord (g : Hier → Hier) : (s.onHier g).chord = s.chord := rfl
@[simp] theorem onHier_imp (g : Hier → Hier) : (s.onHier g).imp = s.imp := rfl
@[simp] theorem onHier_mem (g : Hier → Hier) : (s.onHier g).mem = s.mem := rfl
@[simp] theorem onHier_ref (g : Hier → Hier) : (s.onHier g).ref = s.ref := rfl
@[simp] theorem onHier_twin (g : Hier → Hier) : (s.onHier g).twin = s.twin := rfl
@[simp] theorem onHier_faults (g : Hier → Hier) : (s.onHier g).faults = s.faults := rfl
@[simp] theorem onHier_power (g : Hier → Hier) : (s.onHier g).power = s.power := rfl
@[simp] theorem onHier_proof (g : Hier → Hier) : (s.onHier g).proof = s.proof := rfl
@[simp] theorem onHier_life (g : Hier → Hier) : (s.onHier g).life = s.life := rfl
@[simp] theorem onHier_keep (g : Hier → Hier) : (s.onHier g).keep = s.keep := rfl
@[simp] theorem onHier_boot (g : Hier → Hier) : (s.onHier g).boot = s.boot := rfl
@[simp] theorem onHier_pending (g : Hier → Hier) : (s.onHier g).pending = s.pending := rfl

@[simp] theorem onAudio_tb (g : Audio → Audio) : (s.onAudio g).tb = s.tb := rfl
@[simp] theorem onAudio_ports (g : Audio → Audio) : (s.onAudio g).ports = s.ports := rfl
@[simp] theorem onAudio_lat (g : Audio → Audio) : (s.onAudio g).lat = s.lat := rfl
@[simp] theorem onAudio_lanes (g : Audio → Audio) : (s.onAudio g).lanes = s.lanes := rfl
@[simp] theorem onAudio_eth (g : Audio → Audio) : (s.onAudio g).eth = s.eth := rfl
@[simp] theorem onAudio_vox (g : Audio → Audio) : (s.onAudio g).vox = s.vox := rfl
@[simp] theorem onAudio_hier (g : Audio → Audio) : (s.onAudio g).hier = s.hier := rfl
@[simp] theorem onAudio_audio (g : Audio → Audio) : (s.onAudio g).audio = g s.audio := rfl
@[simp] theorem onAudio_chord (g : Audio → Audio) : (s.onAudio g).chord = s.chord := rfl
@[simp] theorem onAudio_imp (g : Audio → Audio) : (s.onAudio g).imp = s.imp := rfl
@[simp] theorem onAudio_mem (g : Audio → Audio) : (s.onAudio g).mem = s.mem := rfl
@[simp] theorem onAudio_ref (g : Audio → Audio) : (s.onAudio g).ref = s.ref := rfl
@[simp] theorem onAudio_twin (g : Audio → Audio) : (s.onAudio g).twin = s.twin := rfl
@[simp] theorem onAudio_faults (g : Audio → Audio) : (s.onAudio g).faults = s.faults := rfl
@[simp] theorem onAudio_power (g : Audio → Audio) : (s.onAudio g).power = s.power := rfl
@[simp] theorem onAudio_proof (g : Audio → Audio) : (s.onAudio g).proof = s.proof := rfl
@[simp] theorem onAudio_life (g : Audio → Audio) : (s.onAudio g).life = s.life := rfl
@[simp] theorem onAudio_keep (g : Audio → Audio) : (s.onAudio g).keep = s.keep := rfl
@[simp] theorem onAudio_boot (g : Audio → Audio) : (s.onAudio g).boot = s.boot := rfl
@[simp] theorem onAudio_pending (g : Audio → Audio) : (s.onAudio g).pending = s.pending := rfl

@[simp] theorem onChord_tb (g : Chord → Chord) : (s.onChord g).tb = s.tb := rfl
@[simp] theorem onChord_ports (g : Chord → Chord) : (s.onChord g).ports = s.ports := rfl
@[simp] theorem onChord_lat (g : Chord → Chord) : (s.onChord g).lat = s.lat := rfl
@[simp] theorem onChord_lanes (g : Chord → Chord) : (s.onChord g).lanes = s.lanes := rfl
@[simp] theorem onChord_eth (g : Chord → Chord) : (s.onChord g).eth = s.eth := rfl
@[simp] theorem onChord_vox (g : Chord → Chord) : (s.onChord g).vox = s.vox := rfl
@[simp] theorem onChord_hier (g : Chord → Chord) : (s.onChord g).hier = s.hier := rfl
@[simp] theorem onChord_audio (g : Chord → Chord) : (s.onChord g).audio = s.audio := rfl
@[simp] theorem onChord_chord (g : Chord → Chord) : (s.onChord g).chord = g s.chord := rfl
@[simp] theorem onChord_imp (g : Chord → Chord) : (s.onChord g).imp = s.imp := rfl
@[simp] theorem onChord_mem (g : Chord → Chord) : (s.onChord g).mem = s.mem := rfl
@[simp] theorem onChord_ref (g : Chord → Chord) : (s.onChord g).ref = s.ref := rfl
@[simp] theorem onChord_twin (g : Chord → Chord) : (s.onChord g).twin = s.twin := rfl
@[simp] theorem onChord_faults (g : Chord → Chord) : (s.onChord g).faults = s.faults := rfl
@[simp] theorem onChord_power (g : Chord → Chord) : (s.onChord g).power = s.power := rfl
@[simp] theorem onChord_proof (g : Chord → Chord) : (s.onChord g).proof = s.proof := rfl
@[simp] theorem onChord_life (g : Chord → Chord) : (s.onChord g).life = s.life := rfl
@[simp] theorem onChord_keep (g : Chord → Chord) : (s.onChord g).keep = s.keep := rfl
@[simp] theorem onChord_boot (g : Chord → Chord) : (s.onChord g).boot = s.boot := rfl
@[simp] theorem onChord_pending (g : Chord → Chord) : (s.onChord g).pending = s.pending := rfl

@[simp] theorem onImp_tb (g : Imposition → Imposition) : (s.onImp g).tb = s.tb := rfl
@[simp] theorem onImp_ports (g : Imposition → Imposition) : (s.onImp g).ports = s.ports := rfl
@[simp] theorem onImp_lat (g : Imposition → Imposition) : (s.onImp g).lat = s.lat := rfl
@[simp] theorem onImp_lanes (g : Imposition → Imposition) : (s.onImp g).lanes = s.lanes := rfl
@[simp] theorem onImp_eth (g : Imposition → Imposition) : (s.onImp g).eth = s.eth := rfl
@[simp] theorem onImp_vox (g : Imposition → Imposition) : (s.onImp g).vox = s.vox := rfl
@[simp] theorem onImp_hier (g : Imposition → Imposition) : (s.onImp g).hier = s.hier := rfl
@[simp] theorem onImp_audio (g : Imposition → Imposition) : (s.onImp g).audio = s.audio := rfl
@[simp] theorem onImp_chord (g : Imposition → Imposition) : (s.onImp g).chord = s.chord := rfl
@[simp] theorem onImp_imp (g : Imposition → Imposition) : (s.onImp g).imp = g s.imp := rfl
@[simp] theorem onImp_mem (g : Imposition → Imposition) : (s.onImp g).mem = s.mem := rfl
@[simp] theorem onImp_ref (g : Imposition → Imposition) : (s.onImp g).ref = s.ref := rfl
@[simp] theorem onImp_twin (g : Imposition → Imposition) : (s.onImp g).twin = s.twin := rfl
@[simp] theorem onImp_faults (g : Imposition → Imposition) : (s.onImp g).faults = s.faults := rfl
@[simp] theorem onImp_power (g : Imposition → Imposition) : (s.onImp g).power = s.power := rfl
@[simp] theorem onImp_proof (g : Imposition → Imposition) : (s.onImp g).proof = s.proof := rfl
@[simp] theorem onImp_life (g : Imposition → Imposition) : (s.onImp g).life = s.life := rfl
@[simp] theorem onImp_keep (g : Imposition → Imposition) : (s.onImp g).keep = s.keep := rfl
@[simp] theorem onImp_boot (g : Imposition → Imposition) : (s.onImp g).boot = s.boot := rfl
@[simp] theorem onImp_pending (g : Imposition → Imposition) : (s.onImp g).pending = s.pending := rfl

@[simp] theorem onMem_tb (g : Plates → Plates) : (s.onMem g).tb = s.tb := rfl
@[simp] theorem onMem_ports (g : Plates → Plates) : (s.onMem g).ports = s.ports := rfl
@[simp] theorem onMem_lat (g : Plates → Plates) : (s.onMem g).lat = s.lat := rfl
@[simp] theorem onMem_lanes (g : Plates → Plates) : (s.onMem g).lanes = s.lanes := rfl
@[simp] theorem onMem_eth (g : Plates → Plates) : (s.onMem g).eth = s.eth := rfl
@[simp] theorem onMem_vox (g : Plates → Plates) : (s.onMem g).vox = s.vox := rfl
@[simp] theorem onMem_hier (g : Plates → Plates) : (s.onMem g).hier = s.hier := rfl
@[simp] theorem onMem_audio (g : Plates → Plates) : (s.onMem g).audio = s.audio := rfl
@[simp] theorem onMem_chord (g : Plates → Plates) : (s.onMem g).chord = s.chord := rfl
@[simp] theorem onMem_imp (g : Plates → Plates) : (s.onMem g).imp = s.imp := rfl
@[simp] theorem onMem_mem (g : Plates → Plates) : (s.onMem g).mem = g s.mem := rfl
@[simp] theorem onMem_ref (g : Plates → Plates) : (s.onMem g).ref = s.ref := rfl
@[simp] theorem onMem_twin (g : Plates → Plates) : (s.onMem g).twin = s.twin := rfl
@[simp] theorem onMem_faults (g : Plates → Plates) : (s.onMem g).faults = s.faults := rfl
@[simp] theorem onMem_power (g : Plates → Plates) : (s.onMem g).power = s.power := rfl
@[simp] theorem onMem_proof (g : Plates → Plates) : (s.onMem g).proof = s.proof := rfl
@[simp] theorem onMem_life (g : Plates → Plates) : (s.onMem g).life = s.life := rfl
@[simp] theorem onMem_keep (g : Plates → Plates) : (s.onMem g).keep = s.keep := rfl
@[simp] theorem onMem_boot (g : Plates → Plates) : (s.onMem g).boot = s.boot := rfl
@[simp] theorem onMem_pending (g : Plates → Plates) : (s.onMem g).pending = s.pending := rfl

@[simp] theorem onRef_tb (g : Time → Time) : (s.onRef g).tb = s.tb := rfl
@[simp] theorem onRef_ports (g : Time → Time) : (s.onRef g).ports = s.ports := rfl
@[simp] theorem onRef_lat (g : Time → Time) : (s.onRef g).lat = s.lat := rfl
@[simp] theorem onRef_lanes (g : Time → Time) : (s.onRef g).lanes = s.lanes := rfl
@[simp] theorem onRef_eth (g : Time → Time) : (s.onRef g).eth = s.eth := rfl
@[simp] theorem onRef_vox (g : Time → Time) : (s.onRef g).vox = s.vox := rfl
@[simp] theorem onRef_hier (g : Time → Time) : (s.onRef g).hier = s.hier := rfl
@[simp] theorem onRef_audio (g : Time → Time) : (s.onRef g).audio = s.audio := rfl
@[simp] theorem onRef_chord (g : Time → Time) : (s.onRef g).chord = s.chord := rfl
@[simp] theorem onRef_imp (g : Time → Time) : (s.onRef g).imp = s.imp := rfl
@[simp] theorem onRef_mem (g : Time → Time) : (s.onRef g).mem = s.mem := rfl
@[simp] theorem onRef_ref (g : Time → Time) : (s.onRef g).ref = g s.ref := rfl
@[simp] theorem onRef_twin (g : Time → Time) : (s.onRef g).twin = s.twin := rfl
@[simp] theorem onRef_faults (g : Time → Time) : (s.onRef g).faults = s.faults := rfl
@[simp] theorem onRef_power (g : Time → Time) : (s.onRef g).power = s.power := rfl
@[simp] theorem onRef_proof (g : Time → Time) : (s.onRef g).proof = s.proof := rfl
@[simp] theorem onRef_life (g : Time → Time) : (s.onRef g).life = s.life := rfl
@[simp] theorem onRef_keep (g : Time → Time) : (s.onRef g).keep = s.keep := rfl
@[simp] theorem onRef_boot (g : Time → Time) : (s.onRef g).boot = s.boot := rfl
@[simp] theorem onRef_pending (g : Time → Time) : (s.onRef g).pending = s.pending := rfl

@[simp] theorem onTwin_tb (g : Twin → Twin) : (s.onTwin g).tb = s.tb := rfl
@[simp] theorem onTwin_ports (g : Twin → Twin) : (s.onTwin g).ports = s.ports := rfl
@[simp] theorem onTwin_lat (g : Twin → Twin) : (s.onTwin g).lat = s.lat := rfl
@[simp] theorem onTwin_lanes (g : Twin → Twin) : (s.onTwin g).lanes = s.lanes := rfl
@[simp] theorem onTwin_eth (g : Twin → Twin) : (s.onTwin g).eth = s.eth := rfl
@[simp] theorem onTwin_vox (g : Twin → Twin) : (s.onTwin g).vox = s.vox := rfl
@[simp] theorem onTwin_hier (g : Twin → Twin) : (s.onTwin g).hier = s.hier := rfl
@[simp] theorem onTwin_audio (g : Twin → Twin) : (s.onTwin g).audio = s.audio := rfl
@[simp] theorem onTwin_chord (g : Twin → Twin) : (s.onTwin g).chord = s.chord := rfl
@[simp] theorem onTwin_imp (g : Twin → Twin) : (s.onTwin g).imp = s.imp := rfl
@[simp] theorem onTwin_mem (g : Twin → Twin) : (s.onTwin g).mem = s.mem := rfl
@[simp] theorem onTwin_ref (g : Twin → Twin) : (s.onTwin g).ref = s.ref := rfl
@[simp] theorem onTwin_twin (g : Twin → Twin) : (s.onTwin g).twin = g s.twin := rfl
@[simp] theorem onTwin_faults (g : Twin → Twin) : (s.onTwin g).faults = s.faults := rfl
@[simp] theorem onTwin_power (g : Twin → Twin) : (s.onTwin g).power = s.power := rfl
@[simp] theorem onTwin_proof (g : Twin → Twin) : (s.onTwin g).proof = s.proof := rfl
@[simp] theorem onTwin_life (g : Twin → Twin) : (s.onTwin g).life = s.life := rfl
@[simp] theorem onTwin_keep (g : Twin → Twin) : (s.onTwin g).keep = s.keep := rfl
@[simp] theorem onTwin_boot (g : Twin → Twin) : (s.onTwin g).boot = s.boot := rfl
@[simp] theorem onTwin_pending (g : Twin → Twin) : (s.onTwin g).pending = s.pending := rfl

@[simp] theorem onFaults_tb (g : Faults → Faults) : (s.onFaults g).tb = s.tb := rfl
@[simp] theorem onFaults_ports (g : Faults → Faults) : (s.onFaults g).ports = s.ports := rfl
@[simp] theorem onFaults_lat (g : Faults → Faults) : (s.onFaults g).lat = s.lat := rfl
@[simp] theorem onFaults_lanes (g : Faults → Faults) : (s.onFaults g).lanes = s.lanes := rfl
@[simp] theorem onFaults_eth (g : Faults → Faults) : (s.onFaults g).eth = s.eth := rfl
@[simp] theorem onFaults_vox (g : Faults → Faults) : (s.onFaults g).vox = s.vox := rfl
@[simp] theorem onFaults_hier (g : Faults → Faults) : (s.onFaults g).hier = s.hier := rfl
@[simp] theorem onFaults_audio (g : Faults → Faults) : (s.onFaults g).audio = s.audio := rfl
@[simp] theorem onFaults_chord (g : Faults → Faults) : (s.onFaults g).chord = s.chord := rfl
@[simp] theorem onFaults_imp (g : Faults → Faults) : (s.onFaults g).imp = s.imp := rfl
@[simp] theorem onFaults_mem (g : Faults → Faults) : (s.onFaults g).mem = s.mem := rfl
@[simp] theorem onFaults_ref (g : Faults → Faults) : (s.onFaults g).ref = s.ref := rfl
@[simp] theorem onFaults_twin (g : Faults → Faults) : (s.onFaults g).twin = s.twin := rfl
@[simp] theorem onFaults_faults (g : Faults → Faults) : (s.onFaults g).faults = g s.faults := rfl
@[simp] theorem onFaults_power (g : Faults → Faults) : (s.onFaults g).power = s.power := rfl
@[simp] theorem onFaults_proof (g : Faults → Faults) : (s.onFaults g).proof = s.proof := rfl
@[simp] theorem onFaults_life (g : Faults → Faults) : (s.onFaults g).life = s.life := rfl
@[simp] theorem onFaults_keep (g : Faults → Faults) : (s.onFaults g).keep = s.keep := rfl
@[simp] theorem onFaults_boot (g : Faults → Faults) : (s.onFaults g).boot = s.boot := rfl
@[simp] theorem onFaults_pending (g : Faults → Faults) : (s.onFaults g).pending = s.pending := rfl

@[simp] theorem onPower_tb (g : Power → Power) : (s.onPower g).tb = s.tb := rfl
@[simp] theorem onPower_ports (g : Power → Power) : (s.onPower g).ports = s.ports := rfl
@[simp] theorem onPower_lat (g : Power → Power) : (s.onPower g).lat = s.lat := rfl
@[simp] theorem onPower_lanes (g : Power → Power) : (s.onPower g).lanes = s.lanes := rfl
@[simp] theorem onPower_eth (g : Power → Power) : (s.onPower g).eth = s.eth := rfl
@[simp] theorem onPower_vox (g : Power → Power) : (s.onPower g).vox = s.vox := rfl
@[simp] theorem onPower_hier (g : Power → Power) : (s.onPower g).hier = s.hier := rfl
@[simp] theorem onPower_audio (g : Power → Power) : (s.onPower g).audio = s.audio := rfl
@[simp] theorem onPower_chord (g : Power → Power) : (s.onPower g).chord = s.chord := rfl
@[simp] theorem onPower_imp (g : Power → Power) : (s.onPower g).imp = s.imp := rfl
@[simp] theorem onPower_mem (g : Power → Power) : (s.onPower g).mem = s.mem := rfl
@[simp] theorem onPower_ref (g : Power → Power) : (s.onPower g).ref = s.ref := rfl
@[simp] theorem onPower_twin (g : Power → Power) : (s.onPower g).twin = s.twin := rfl
@[simp] theorem onPower_faults (g : Power → Power) : (s.onPower g).faults = s.faults := rfl
@[simp] theorem onPower_power (g : Power → Power) : (s.onPower g).power = g s.power := rfl
@[simp] theorem onPower_proof (g : Power → Power) : (s.onPower g).proof = s.proof := rfl
@[simp] theorem onPower_life (g : Power → Power) : (s.onPower g).life = s.life := rfl
@[simp] theorem onPower_keep (g : Power → Power) : (s.onPower g).keep = s.keep := rfl
@[simp] theorem onPower_boot (g : Power → Power) : (s.onPower g).boot = s.boot := rfl
@[simp] theorem onPower_pending (g : Power → Power) : (s.onPower g).pending = s.pending := rfl

@[simp] theorem onProof_tb (g : Proof → Proof) : (s.onProof g).tb = s.tb := rfl
@[simp] theorem onProof_ports (g : Proof → Proof) : (s.onProof g).ports = s.ports := rfl
@[simp] theorem onProof_lat (g : Proof → Proof) : (s.onProof g).lat = s.lat := rfl
@[simp] theorem onProof_lanes (g : Proof → Proof) : (s.onProof g).lanes = s.lanes := rfl
@[simp] theorem onProof_eth (g : Proof → Proof) : (s.onProof g).eth = s.eth := rfl
@[simp] theorem onProof_vox (g : Proof → Proof) : (s.onProof g).vox = s.vox := rfl
@[simp] theorem onProof_hier (g : Proof → Proof) : (s.onProof g).hier = s.hier := rfl
@[simp] theorem onProof_audio (g : Proof → Proof) : (s.onProof g).audio = s.audio := rfl
@[simp] theorem onProof_chord (g : Proof → Proof) : (s.onProof g).chord = s.chord := rfl
@[simp] theorem onProof_imp (g : Proof → Proof) : (s.onProof g).imp = s.imp := rfl
@[simp] theorem onProof_mem (g : Proof → Proof) : (s.onProof g).mem = s.mem := rfl
@[simp] theorem onProof_ref (g : Proof → Proof) : (s.onProof g).ref = s.ref := rfl
@[simp] theorem onProof_twin (g : Proof → Proof) : (s.onProof g).twin = s.twin := rfl
@[simp] theorem onProof_faults (g : Proof → Proof) : (s.onProof g).faults = s.faults := rfl
@[simp] theorem onProof_power (g : Proof → Proof) : (s.onProof g).power = s.power := rfl
@[simp] theorem onProof_proof (g : Proof → Proof) : (s.onProof g).proof = g s.proof := rfl
@[simp] theorem onProof_life (g : Proof → Proof) : (s.onProof g).life = s.life := rfl
@[simp] theorem onProof_keep (g : Proof → Proof) : (s.onProof g).keep = s.keep := rfl
@[simp] theorem onProof_boot (g : Proof → Proof) : (s.onProof g).boot = s.boot := rfl
@[simp] theorem onProof_pending (g : Proof → Proof) : (s.onProof g).pending = s.pending := rfl

@[simp] theorem onLife_tb (g : Life → Life) : (s.onLife g).tb = s.tb := rfl
@[simp] theorem onLife_ports (g : Life → Life) : (s.onLife g).ports = s.ports := rfl
@[simp] theorem onLife_lat (g : Life → Life) : (s.onLife g).lat = s.lat := rfl
@[simp] theorem onLife_lanes (g : Life → Life) : (s.onLife g).lanes = s.lanes := rfl
@[simp] theorem onLife_eth (g : Life → Life) : (s.onLife g).eth = s.eth := rfl
@[simp] theorem onLife_vox (g : Life → Life) : (s.onLife g).vox = s.vox := rfl
@[simp] theorem onLife_hier (g : Life → Life) : (s.onLife g).hier = s.hier := rfl
@[simp] theorem onLife_audio (g : Life → Life) : (s.onLife g).audio = s.audio := rfl
@[simp] theorem onLife_chord (g : Life → Life) : (s.onLife g).chord = s.chord := rfl
@[simp] theorem onLife_imp (g : Life → Life) : (s.onLife g).imp = s.imp := rfl
@[simp] theorem onLife_mem (g : Life → Life) : (s.onLife g).mem = s.mem := rfl
@[simp] theorem onLife_ref (g : Life → Life) : (s.onLife g).ref = s.ref := rfl
@[simp] theorem onLife_twin (g : Life → Life) : (s.onLife g).twin = s.twin := rfl
@[simp] theorem onLife_faults (g : Life → Life) : (s.onLife g).faults = s.faults := rfl
@[simp] theorem onLife_power (g : Life → Life) : (s.onLife g).power = s.power := rfl
@[simp] theorem onLife_proof (g : Life → Life) : (s.onLife g).proof = s.proof := rfl
@[simp] theorem onLife_life (g : Life → Life) : (s.onLife g).life = g s.life := rfl
@[simp] theorem onLife_keep (g : Life → Life) : (s.onLife g).keep = s.keep := rfl
@[simp] theorem onLife_boot (g : Life → Life) : (s.onLife g).boot = s.boot := rfl
@[simp] theorem onLife_pending (g : Life → Life) : (s.onLife g).pending = s.pending := rfl

@[simp] theorem onKeep_tb (g : KeepMem → KeepMem) : (s.onKeep g).tb = s.tb := rfl
@[simp] theorem onKeep_ports (g : KeepMem → KeepMem) : (s.onKeep g).ports = s.ports := rfl
@[simp] theorem onKeep_lat (g : KeepMem → KeepMem) : (s.onKeep g).lat = s.lat := rfl
@[simp] theorem onKeep_lanes (g : KeepMem → KeepMem) : (s.onKeep g).lanes = s.lanes := rfl
@[simp] theorem onKeep_eth (g : KeepMem → KeepMem) : (s.onKeep g).eth = s.eth := rfl
@[simp] theorem onKeep_vox (g : KeepMem → KeepMem) : (s.onKeep g).vox = s.vox := rfl
@[simp] theorem onKeep_hier (g : KeepMem → KeepMem) : (s.onKeep g).hier = s.hier := rfl
@[simp] theorem onKeep_audio (g : KeepMem → KeepMem) : (s.onKeep g).audio = s.audio := rfl
@[simp] theorem onKeep_chord (g : KeepMem → KeepMem) : (s.onKeep g).chord = s.chord := rfl
@[simp] theorem onKeep_imp (g : KeepMem → KeepMem) : (s.onKeep g).imp = s.imp := rfl
@[simp] theorem onKeep_mem (g : KeepMem → KeepMem) : (s.onKeep g).mem = s.mem := rfl
@[simp] theorem onKeep_ref (g : KeepMem → KeepMem) : (s.onKeep g).ref = s.ref := rfl
@[simp] theorem onKeep_twin (g : KeepMem → KeepMem) : (s.onKeep g).twin = s.twin := rfl
@[simp] theorem onKeep_faults (g : KeepMem → KeepMem) : (s.onKeep g).faults = s.faults := rfl
@[simp] theorem onKeep_power (g : KeepMem → KeepMem) : (s.onKeep g).power = s.power := rfl
@[simp] theorem onKeep_proof (g : KeepMem → KeepMem) : (s.onKeep g).proof = s.proof := rfl
@[simp] theorem onKeep_life (g : KeepMem → KeepMem) : (s.onKeep g).life = s.life := rfl
@[simp] theorem onKeep_keep (g : KeepMem → KeepMem) : (s.onKeep g).keep = g s.keep := rfl
@[simp] theorem onKeep_boot (g : KeepMem → KeepMem) : (s.onKeep g).boot = s.boot := rfl
@[simp] theorem onKeep_pending (g : KeepMem → KeepMem) : (s.onKeep g).pending = s.pending := rfl

@[simp] theorem onBoot_tb (g : Boot → Boot) : (s.onBoot g).tb = s.tb := rfl
@[simp] theorem onBoot_ports (g : Boot → Boot) : (s.onBoot g).ports = s.ports := rfl
@[simp] theorem onBoot_lat (g : Boot → Boot) : (s.onBoot g).lat = s.lat := rfl
@[simp] theorem onBoot_lanes (g : Boot → Boot) : (s.onBoot g).lanes = s.lanes := rfl
@[simp] theorem onBoot_eth (g : Boot → Boot) : (s.onBoot g).eth = s.eth := rfl
@[simp] theorem onBoot_vox (g : Boot → Boot) : (s.onBoot g).vox = s.vox := rfl
@[simp] theorem onBoot_hier (g : Boot → Boot) : (s.onBoot g).hier = s.hier := rfl
@[simp] theorem onBoot_audio (g : Boot → Boot) : (s.onBoot g).audio = s.audio := rfl
@[simp] theorem onBoot_chord (g : Boot → Boot) : (s.onBoot g).chord = s.chord := rfl
@[simp] theorem onBoot_imp (g : Boot → Boot) : (s.onBoot g).imp = s.imp := rfl
@[simp] theorem onBoot_mem (g : Boot → Boot) : (s.onBoot g).mem = s.mem := rfl
@[simp] theorem onBoot_ref (g : Boot → Boot) : (s.onBoot g).ref = s.ref := rfl
@[simp] theorem onBoot_twin (g : Boot → Boot) : (s.onBoot g).twin = s.twin := rfl
@[simp] theorem onBoot_faults (g : Boot → Boot) : (s.onBoot g).faults = s.faults := rfl
@[simp] theorem onBoot_power (g : Boot → Boot) : (s.onBoot g).power = s.power := rfl
@[simp] theorem onBoot_proof (g : Boot → Boot) : (s.onBoot g).proof = s.proof := rfl
@[simp] theorem onBoot_life (g : Boot → Boot) : (s.onBoot g).life = s.life := rfl
@[simp] theorem onBoot_keep (g : Boot → Boot) : (s.onBoot g).keep = s.keep := rfl
@[simp] theorem onBoot_boot (g : Boot → Boot) : (s.onBoot g).boot = g s.boot := rfl
@[simp] theorem onBoot_pending (g : Boot → Boot) : (s.onBoot g).pending = s.pending := rfl

/-! One object of a table. -/

@[simp] theorem link_onLink_self (n : Nat) (f : Link → Link) : (s.onLink n f).link n = f (s.link n) := by
  simp [State.link, State.onLink]
theorem link_onLink_other {m n : Nat} (f : Link → Link) (h : m ≠ n) : (s.onLink n f).link m = s.link m := by
  simp [State.link, State.onLink, Tbl.at_upd_other _ _ _ _ h]
@[simp] theorem lane_onLane_self (n : Nat) (f : Lane → Lane) : (s.onLane n f).lane n = f (s.lane n) := by
  simp [State.lane, State.onLane]
theorem lane_onLane_other {m n : Nat} (f : Lane → Lane) (h : m ≠ n) : (s.onLane n f).lane m = s.lane m := by
  simp [State.lane, State.onLane, Tbl.at_upd_other _ _ _ _ h]
@[simp] theorem link_emit (m n c : Nat) (d : List Byte) : (s.emit n c d).link m = s.link m := rfl
@[simp] theorem lane_emit (m n c : Nat) (d : List Byte) : (s.emit n c d).lane m = s.lane m := rfl
@[simp] theorem lane_onLink (m n : Nat) (f : Link → Link) : (s.onLink n f).lane m = s.lane m := rfl
@[simp] theorem link_onLane (m n : Nat) (f : Lane → Lane) : (s.onLane n f).link m = s.link m := rfl

/-- Two changes of a link that agree on it are one change. -/
theorem onLink_congr {n : Nat} {f g : Link → Link} (h : f (s.link n) = g (s.link n)) : s.onLink n f = s.onLink n g := by
  unfold State.link at h
  simp only [State.onLink, State.onVox, Tbl.upd, h]
theorem onLane_congr {n : Nat} {f g : Lane → Lane} (h : f (s.lane n) = g (s.lane n)) : s.onLane n f = s.onLane n g := by
  unfold State.lane at h
  simp only [State.onLane, State.onLanes, Tbl.upd, h]

/-! The time base and the records of what a step puts out leave the units alone. -/

@[simp] theorem ports_advance (at_ : Nat) : (s.advance at_).ports = s.ports := by rw [State.advance, onTb_ports]
@[simp] theorem lat_advance (at_ : Nat) : (s.advance at_).lat = s.lat := by rw [State.advance, onTb_lat]
@[simp] theorem lanes_advance (at_ : Nat) : (s.advance at_).lanes = s.lanes := by rw [State.advance, onTb_lanes]
@[simp] theorem eth_advance (at_ : Nat) : (s.advance at_).eth = s.eth := by rw [State.advance, onTb_eth]
@[simp] theorem vox_advance (at_ : Nat) : (s.advance at_).vox = s.vox := by rw [State.advance, onTb_vox]
@[simp] theorem hier_advance (at_ : Nat) : (s.advance at_).hier = s.hier := by rw [State.advance, onTb_hier]
@[simp] theorem audio_advance (at_ : Nat) : (s.advance at_).audio = s.audio := by rw [State.advance, onTb_audio]
@[simp] theorem chord_advance (at_ : Nat) : (s.advance at_).chord = s.chord := by rw [State.advance, onTb_chord]
@[simp] theorem imp_advance (at_ : Nat) : (s.advance at_).imp = s.imp := by rw [State.advance, onTb_imp]
@[simp] theorem mem_advance (at_ : Nat) : (s.advance at_).mem = s.mem := by rw [State.advance, onTb_mem]
@[simp] theorem ref_advance (at_ : Nat) : (s.advance at_).ref = s.ref := by rw [State.advance, onTb_ref]
@[simp] theorem twin_advance (at_ : Nat) : (s.advance at_).twin = s.twin := by rw [State.advance, onTb_twin]
@[simp] theorem faults_advance (at_ : Nat) : (s.advance at_).faults = s.faults := by rw [State.advance, onTb_faults]
@[simp] theorem power_advance (at_ : Nat) : (s.advance at_).power = s.power := by rw [State.advance, onTb_power]
@[simp] theorem proof_advance (at_ : Nat) : (s.advance at_).proof = s.proof := by rw [State.advance, onTb_proof]
@[simp] theorem life_advance (at_ : Nat) : (s.advance at_).life = s.life := by rw [State.advance, onTb_life]
@[simp] theorem keep_advance (at_ : Nat) : (s.advance at_).keep = s.keep := by rw [State.advance, onTb_keep]
@[simp] theorem boot_advance (at_ : Nat) : (s.advance at_).boot = s.boot := by rw [State.advance, onTb_boot]
@[simp] theorem pending_advance (at_ : Nat) : (s.advance at_).pending = s.pending := by rw [State.advance, onTb_pending]
@[simp] theorem link_advance (n at_ : Nat) : (s.advance at_).link n = s.link n := by rw [State.link, State.link, vox_advance]
@[simp] theorem lane_advance (n at_ : Nat) : (s.advance at_).lane n = s.lane n := by rw [State.lane, State.lane, lanes_advance]
@[simp] theorem group_advance (n at_ : Nat) : (s.advance at_).group n = s.group n := by rw [State.group, State.group, power_advance]
@[simp] theorem now_onLink (n : Nat) (f : Link → Link) : (s.onLink n f).now = s.now := rfl
@[simp] theorem now_emit (n c : Nat) (d : List Byte) : (s.emit n c d).now = s.now := rfl
@[simp] theorem now_onLane (n : Nat) (f : Lane → Lane) : (s.onLane n f).now = s.now := rfl

end Sys2Proof.Machine
end

