-- ==== Sys2Proof/Laws/Ops.lean ====
section
/-! SUPPORT. What the shared operations over ports and links can do, said once: each leaves everything but the ports, or everything
but the ports and the links, as it was. -/

namespace Sys2Proof.Machine

/-- `t` differs from `s` in its ports at most. -/
def PortsOnly (s t : State) : Prop := t = { s with ports := t.ports }

/-- `t` differs from `s` in its ports and links at most. -/
def PortsLinksOnly (s t : State) : Prop := t = { s with ports := t.ports, vox := t.vox }

theorem PortsOnly.refl (s : State) : PortsOnly s s := rfl

theorem PortsOnly.trans {s t u : State} (h : PortsOnly s t) (k : PortsOnly t u) : PortsOnly s u := by
  unfold PortsOnly at *
  rw [k, h]

theorem PortsLinksOnly.refl (s : State) : PortsLinksOnly s s := rfl

theorem PortsLinksOnly.trans {s t u : State} (h : PortsLinksOnly s t) (k : PortsLinksOnly t u) : PortsLinksOnly s u := by
  unfold PortsLinksOnly at *
  rw [k, h]

theorem PortsOnly.links {s t : State} (h : PortsOnly s t) : PortsLinksOnly s t := by
  unfold PortsOnly PortsLinksOnly at *
  rw [h]

/-- Memory, the configuration and the queue stay where only ports and links change. -/
theorem PortsLinksOnly.keeps {s t : State} (h : PortsLinksOnly s t) :
    t.tb = s.tb ∧ t.lat = s.lat ∧ t.lanes = s.lanes ∧ t.eth = s.eth ∧ t.hier = s.hier ∧ t.audio = s.audio ∧ t.chord = s.chord ∧
      t.imp = s.imp ∧ t.mem = s.mem ∧ t.ref = s.ref ∧ t.twin = s.twin ∧ t.faults = s.faults ∧ t.power = s.power ∧
      t.proof = s.proof ∧ t.life = s.life ∧ t.keep = s.keep ∧ t.boot = s.boot ∧ t.pending = s.pending := by
  rw [h]
  simp

variable (s : State)

theorem onPorts_only (f : Ports → Ports) : PortsOnly s (s.onPorts f) := rfl

theorem onPcie_only (side : PcieSide) (f : PciePort → PciePort) : PortsOnly s (s.onPcie side f) := by
  cases side <;> rfl

theorem toHost_only (side : PcieSide) (a : Nat) (d : List Byte) : PortsOnly s (s.toHost side a d) := rfl

theorem count_only (p : Port) (f : PortCounters → PortCounters) : PortsOnly s (s.count p f) := by
  cases p <;> rfl

theorem loseEvent_only (p : Port) : PortsOnly s (s.loseEvent p) :=
  (count_only s p _).trans (onPorts_only _ _)

theorem losePcie_only (side : PcieSide) : PortsOnly s (s.losePcie side) :=
  (loseEvent_only s _).trans (onPcie_only _ side _)

theorem signalMsix_only (side : PcieSide) (v : Nat) : PortsOnly s (s.signalMsix side v) := by
  unfold State.signalMsix
  dsimp only
  split
  · split
    · exact onPcie_only s side _
    · exact toHost_only s side _ _
  · exact .refl s

theorem writeEvent_only (side : PcieSide) (e : EventEntry) : PortsOnly s (s.writeEvent side e) :=
  ((toHost_only s side _ _).trans (onPcie_only _ side _)).trans (signalMsix_only _ side _)

/-- An event offered to a port changes ports only (R47). -/
theorem deliver_only (side : PcieSide) (e : EventEntry) : PortsOnly s (s.deliver side e) := by
  unfold State.deliver
  dsimp only
  split
  · exact losePcie_only s side
  split
  · exact writeEvent_only s side e
  split
  · exact onPcie_only s side _
  split
  · split
    · exact (losePcie_only s side).trans (onPcie_only _ side _)
    · exact onPcie_only s side _
  · exact losePcie_only s side

theorem noticeLost_only (side : PcieSide) : PortsOnly s (s.noticeLost side) := by
  unfold State.noticeLost
  dsimp only
  split
  · exact ((onPorts_only s _).trans (writeEvent_only _ side _)).trans (onPcie_only _ side _)
  · exact .refl s

theorem refillHeld_only (side : PcieSide) (n : Nat) : PortsOnly s (State.refillHeld side n s) := by
  induction n generalizing s with
  | zero => exact .refl s
  | succ n ih =>
    unfold State.refillHeld
    split
    · exact .refl s
    · split
      · exact ((onPcie_only s side _).trans (writeEvent_only _ side _)).trans (ih _)
      · exact .refl s

/-- Room that returns in a port's ring changes ports only (R47). -/
theorem refill_only (side : PcieSide) : PortsOnly s (s.refill side) :=
  have first : PortsOnly s (if (s.pcie side).noticeAhead then s.noticeLost side else s) := by
    split
    · exact noticeLost_only s side
    · exact .refl s
  (first.trans (refillHeld_only _ side _)).trans (noticeLost_only _ side)

theorem onTags_only (k : Nat) (f : List TagEntry → List TagEntry) : PortsOnly s (s.onTags k f) := rfl

theorem finishTag_only (k tag status length : Nat) : PortsOnly s (s.finishTag k tag status length) := by
  unfold State.finishTag
  split <;> rfl

theorem onLink_only (n : Nat) (f : Link → Link) : PortsLinksOnly s (s.onLink n f) := rfl

theorem emitWith_only (n channel : Nat) (poison : List Nat) (d : List Byte) :
    PortsOnly s (s.emitWith poison n channel d) := rfl

theorem emit_only (n channel : Nat) (d : List Byte) : PortsLinksOnly s (s.emit n channel d) := rfl

/-- Blocks that leave in the transmitter's order change ports and links only (R162). -/
theorem drainLink_only (n k : Nat) : PortsLinksOnly s (State.drainLink n k s) := by
  induction k generalizing s with
  | zero => exact .refl s
  | succ k ih =>
    unfold State.drainLink
    split
    · exact .refl s
    · exact ((emitWith_only s n _ _ _).links.trans (onLink_only _ n _)).trans (ih _)

theorem drain_only (n : Nat) : PortsLinksOnly s (s.drain n) := drainLink_only s n _

theorem countLink_only (n : Nat) : PortsLinksOnly s (s.countLink n) := rfl

/-- What is put on a link changes ports and links only (R150, R161). -/
theorem putLink_only (n vc : Nat) (d : List Byte) : PortsLinksOnly s (s.putLink n vc d) := by
  unfold State.putLink
  split
  · exact ((countLink_only s n).trans (onLink_only _ n _)).trans (drain_only _ n)
  · exact .refl s

theorem cptRoom_only : PortsOnly s s.cptRoom := by
  unfold State.cptRoom
  split
  · exact .refl s
  · exact (loseEvent_only s _).trans (onPorts_only _ _)

theorem post_only (vc target : Nat) (pkt : List Byte) : PortsLinksOnly s (s.post vc target pkt) := by
  unfold State.post
  split
  · exact putLink_only s _ _ _
  · exact .refl s

/-- A reply put where a port's replies go changes ports and links only (R31, R45, R52, R53, R180). -/
theorem sendReply_only (rq : Request) (status : Nat) (pkt : List Byte) : PortsLinksOnly s (s.sendReply rq status pkt) := by
  unfold State.sendReply
  split
  · split <;> dsimp only <;> split <;> first | exact (onPcie_only s _ _).links | exact (loseEvent_only s _).links
  · split <;> dsimp only <;> split <;> first | exact (onPcie_only s _ _).links | exact (loseEvent_only s _).links
  · split <;> rfl
  · split
    · exact .refl s
    · exact ((cptRoom_only s).trans (onPorts_only _ _)).links
  · split
    · exact .refl s
    · exact putLink_only s _ _ _

/-- A request refused at admission changes ports and links only (R41, R56). -/
theorem refuse_only (op : Nat) (rq : Request) (status : Nat) (p : List Byte) : PortsLinksOnly s (s.refuse op rq status p) := by
  unfold State.refuse
  exact (count_only s _ _).links.trans (sendReply_only _ rq status _)

end Sys2Proof.Machine
end

