-- ==== Sys2Proof/Laws/Ethernet.lean ====
section
/-! SUPPORT. What sending a frame can do, said once: a held frame waits, any other leaves in full or is lost. -/

namespace Sys2Proof.Machine

variable (s : State)

/-- A frame leaves on a MAC whose link is up, with its FCS, and nothing but the ports and the MAC's count moves (R122). -/
theorem sendFrameAt_up (n t : Nat) (f : List Byte) (h : (s.mac n).linkUp = true) :
    s.sendFrameAt n t f = (s.onPorts (fun p => { p with
      ethOut := p.ethOut ++ [{ mac := n, at_ := t, frame := withFcs f }] })).onMac n (fun m => { m with txFrames := m.txFrames + 1 }) := by
  simp [State.sendFrameAt, h]

/-- A frame that leaves at once leaves at the present instant. -/
theorem sendFrame_up (n : Nat) (f : List Byte) (h : (s.mac n).linkUp = true) :
    s.sendFrame n f = (s.onPorts (fun p => { p with
      ethOut := p.ethOut ++ [{ mac := n, at_ := s.now, frame := withFcs f }] })).onMac n (fun m => { m with txFrames := m.txFrames + 1 }) :=
  sendFrameAt_up s n s.now f h

/-- No frame leaves on a MAC whose link is down (R142). -/
theorem sendFrameAt_down (n t : Nat) (f : List Byte) (h : (s.mac n).linkUp = false) : s.sendFrameAt n t f = s := by
  simp [State.sendFrameAt, h]

/-- Sending a frame touches the ports and the Ethernet section at most. -/
theorem sendFrameAt_only (n t : Nat) (f : List Byte) :
    s.sendFrameAt n t f = { s with ports := (s.sendFrameAt n t f).ports, eth := (s.sendFrameAt n t f).eth } := by
  unfold State.sendFrameAt
  split <;> rfl

/-- On a paused priority of a MAC whose link is up a frame is held, and nothing else happens (R139). -/
theorem sendOrHold_paused (n : Nat) (h : HeldFrame) (p : s.paused n h.prio = true) (u : (s.mac n).linkUp = true) :
    s.sendOrHold n h = s.onMac n (fun m => { m with held := m.held ++ [{ h with wait := 0 }] }) := by
  simp [State.sendOrHold, p, u]

/-- A frame of no sender whose priority is not paused leaves after the frame that is on the line, and the command that armed it completes (R139, R141). -/
theorem sendOrHold_open (n : Nat) (h : HeldFrame) (p : s.paused n h.prio = false) (u : (s.mac n).linkUp = true) (k : h.flow = none) :
    s.sendOrHold n h = (s.sendFrameAt n (s.now + h.wait) h.frame).completeOpt h.handle stOk (timeBytes (s.now + h.wait)) := by
  simp [State.sendOrHold, p, u, k]

end Sys2Proof.Machine
end

