-- ==== Sys2Proof/Laws/Requests.lean ====
section
/-! SUPPORT. What admission does with a request, said once: a request that runs at once, one that is refused, one that waits, and
one that no port takes. -/

namespace Sys2Proof.Machine

/-- A request that runs at once is executed and answered in the state that arriving leaves (R40, R42, R43). -/
theorem command_served {op : Nat} {rq : Request} {s a : State} (body : Body) (h : Served op rq s a) :
    command op body rq s = finish op rq (body rq a) := by
  obtain ⟨hr, rfl⟩ := h
  simp only [runs, listening, Bool.and_eq_true, Bool.not_eq_true', decide_eq_true_eq] at hr
  obtain ⟨⟨⟨⟨⟨h1, h0⟩, h2⟩, h3⟩, h4⟩, h5⟩ := hr
  have h3' : verdict op rq (s.count rq.port (fun c => { c with received := c.received + 1 })) = .run := h3
  have h4' : (s.count rq.port (fun c => { c with received := c.received + 1 })).interpreterFree = true := h4
  unfold command
  simp only [h1, h0, h2, h3', h4', Bool.not_true, Bool.false_eq_true, if_false, if_true]
  unfold runCommand finish
  have e : ((s.count rq.port (fun c => { c with received := c.received + 1 })).takeIn rq) = arrive rq s := rfl
  rw [e]
  simp [h5]

/-- A request on a port that takes no packets now changes nothing (R34, R420). -/
theorem command_deaf {op : Nat} {rq : Request} {s : State} (body : Body) (h : s.serving rq.port = false) :
    command op body rq s = s := by
  simp [command, h]

/-- A request that admission refuses is answered and counted, and its body does not run (R40, R41). -/
theorem command_refused {op : Nat} {rq : Request} {s : State} {st : Nat} {p : List Byte} (body : Body)
    (h : listening rq s = true) (hv : verdict op rq (s.received rq) = .refuse st p) :
    command op body rq s = (s.received rq).refuse op rq st p := by
  simp only [listening, Bool.and_eq_true, Bool.not_eq_true'] at h
  have hv' : verdict op rq (s.count rq.port (fun c => { c with received := c.received + 1 })) = .refuse st p := hv
  unfold command
  simp only [h.1.1, h.1.2, h.2, Bool.not_true, Bool.false_eq_true, if_false, hv']
  rfl

/-- An admitted request that finds the interpreter busy waits in its galley (R42). -/
theorem command_waits {op : Nat} {rq : Request} {s : State} (body : Body) (h : listening rq s = true)
    (hv : verdict op rq (s.received rq) = .run) (hb : (s.received rq).interpreterFree = false) :
    command op body rq s = (arrive rq s).enqueue op rq := by
  simp only [listening, Bool.and_eq_true, Bool.not_eq_true'] at h
  have hv' : verdict op rq (s.count rq.port (fun c => { c with received := c.received + 1 })) = .run := hv
  have hb' : (s.count rq.port (fun c => { c with received := c.received + 1 })).interpreterFree = false := hb
  unfold command
  simp only [h.1.1, h.1.2, h.2, Bool.not_true, Bool.false_eq_true, if_false, hv', hb']
  rfl

end Sys2Proof.Machine
end

