-- ==== Sys2Proof/Tests/Slice0.lean ====
section
/-! SUPPORT. Tests: ill-formed commands that the checks refuse; the specification's own worked figures (R36, R86, R224, R241, R268);
and, for each obligation with hypotheses, a state and operands that meet those of each of its clauses. -/

namespace Sys2Proof.Tests

open Sys2Proof Sys2Proof.Machine

set_option Elab.async false

/-! Well-formedness: one ill-formed term for each check of `Request.wf` and `Instr.wf`, and a well-formed one for each constructor
with a check of its own. -/

theorem test_requests_out_of_range_are_ill_formed : ([
    { port := .link 64 },
    { port := .cpm, tag := 2 ^ 16 },
    { port := .cpm, flags := 256 },
    { port := .cpm, status := 256 },
    { port := .cpm, target := 2 ^ 16 },
    { port := .cpm, originator := 2 ^ 16 },
    { port := .cpm, etref := 2 ^ 32 },
    { port := .cpm, payload := zeros 4097 },
    { port := .cpm, slot := 2 ^ 16 },
    { port := .cpm, replyAddr := 2 ^ 64 },
    { port := .cpm, replyBytes := 2 ^ 16 },
    { port := .cpm, vc := 0 },
    { port := .cpm, vc := 3 },
    { port := .cpm, txid := 1024 },
    { port := .cpm, late := true }] : List Request).all (fun rq => !rq.wf) = true := by
  decide +kernel

theorem test_operands_out_of_range_are_ill_formed_1 : ([
    .cmdDoorbell .cpa (2 ^ 16),
    .evtDoorbell .cpa (2 ^ 16),
    .registerWrite .cpa (2 ^ 14) [],
    .registerWrite .cpa 1 (zeros 5000),
    .descriptorFetch .cpa (zeros (32 + 1)) [],
    .windowRead (256) 1,
    .windowRead 1 (2 ^ 16 + 1),
    .undefinedOpcodeRequest (2 ^ 16) { port := .cpm },
    .undefinedOpcodeRequest 1 { port := .link 64 },
    .deviceInfo { port := .link 64 },
    .formeHorizon (2 ^ 32) 1,
    .lockupArm (2 ^ 32) 1,
    .switchInstant (2048) 1,
    .phaseMeasurement (256) 0 1,
    .outputFrameStart (2048) 1,
    .rxLock (256) 1 false 1 1,
    .rxLock 1 (5) false 1 1,
    .rxLock 1 1 false (256) 1,
    .rxLock 1 1 false 1 (256),
    .rxLoss (256) 1,
    .rxLoss 1 (4),
    .rxLoss 1 0,
    .formatChange (256) 1 1,
    .formatChange 1 (256) 1,
    .formatChange 1 1 (256),
    .payloadIdReceived (256) false 1 1 false 1,
    .payloadIdReceived 1 false (2 ^ 32) 1 false 1,
    .payloadIdReceived 1 false 1 (256) false 1,
    .payloadIdReceived 1 false 1 1 false (256),
    .bondSkew (256) 1 false,
    .bondSkew 1 (2 ^ 16) false,
    .ethFrameReceived (64) [] 1,
    .ethFrameReceived 1 (zeros (9618 + 1)) 1,
    .pauseExpiry (64) 1 1,
    .pauseExpiry 1 (8) 1,
    .flowLoss (1024) 1,
    .entryAged (2 ^ 16) 1 1,
    .entryAged 1 (2 ^ 16) 1,
    .packetLaunch (1024) 1 1 1,
    .frameLaunch (64) 1 1] : List Instr).all (fun i => !i.wf) = true := by
  decide +kernel

theorem test_operands_out_of_range_are_ill_formed_2 : ([
    .preemptVerify (64) false,
    .linkUp (64),
    .ethLinkDown (64) 1,
    .ethLinkDown 1 (256),
    .signalDetected (256),
    .signalLost (256),
    .commaDetected (256) false,
    .blockHeader (256) { start := false, dataOk := false, typeSeq := 0, onTime := false },
    .huntTimeout (256),
    .vcBlockReceived (64) 1 [] .none 1,
    .vcBlockReceived 1 (3 + 1) [] .none 1,
    .vcBlockReceived 1 1 (zeros (62 + 1)) .none 1,
    .trainBlockReceived (64) 1 [],
    .trainBlockReceived 1 (8) [],
    .trainBlockReceived 1 1 (zeros (62 + 1)),
    .credit ⟨64, false⟩ 1 1,
    .credit ⟨1, false⟩ 0 1,
    .credit ⟨1, false⟩ (3 + 1) 1,
    .credit ⟨1, false⟩ 1 (2 ^ 16),
    .hold ⟨64, false⟩ 1 1,
    .hold ⟨1, false⟩ (256) 1,
    .hold ⟨1, false⟩ 1 (2 ^ 16),
    .linkDown ⟨64, false⟩ 1,
    .linkDown ⟨1, false⟩ (256),
    .unknownControl ⟨64, false⟩ 1,
    .unknownControl ⟨1, false⟩ (256),
    .wakeBurstEnd (64),
    .retuneComplete (64),
    .stepTimeout (64),
    .noPeerTimeout (64),
    .linkRetry (64),
    .linkTrafficQueued (64),
    .creditSend (64),
    .holdRepeat (64) 1,
    .holdExpiry (64) 1,
    .joinRetry (64) 1,
    .linkPacketReceived (64) 1 [],
    .linkPacketReceived 1 0 [],
    .linkPacketReceived 1 (3 + 1) [],
    .linkResponse (64) 1 []] : List Instr).all (fun i => !i.wf) = true := by
  decide +kernel

theorem test_operands_out_of_range_are_ill_formed_3 : ([
    .linkResponse 1 0 [],
    .linkResponse 1 (3 + 1) [],
    .transactionTimeout (64) 1 1 1,
    .transactionTimeout 1 0 1 1,
    .transactionTimeout 1 (3 + 1) 1 1,
    .transactionTimeout 1 1 (1024) 1,
    .routeWaitTimeout (2 ^ 16) 1 1,
    .routeWaitTimeout 1 (2 ^ 16) 1,
    .sysFormePushDone (2 ^ 32),
    .prepareAnswer (2 ^ 32) 1 1 1 1,
    .prepareAnswer 1 (0x3FFF) 1 1 1,
    .prepareAnswer 1 1 (256) 1 1,
    .prepareAnswer 1 1 1 (2 ^ 16) 1,
    .prepareAnswer 1 1 1 1 (256),
    .sysDecisionTime (2 ^ 32) 1,
    .decisionExpiry (2 ^ 32) 1,
    .sysRunTimeout (2 ^ 32) 1,
    .snapshotLatched (2 ^ 32) 1,
    .epochCut (2 ^ 16) 1,
    .portRestarted false (64) 1,
    .safeloadDone (16) 1,
    .audioTick false 1 [{ channel := 0, samples := [], parity := 256 }],
    .gainApply (0x4000) 0 0 1,
    .audioBlockMeasured (0x4000) 1 1,
    .audioBlockMeasured 1 (2 ^ 24) 1,
    .silence (0x4000) 1,
    .aesBlockReceived (64) false (zeros 24) (zeros 24),
    .aesBlockReceived 1 false (zeros (24 + 1)) (zeros 24),
    .aesBlockReceived 1 false (zeros 24) (zeros (24 + 1)),
    .portLock (64) 1,
    .portLoss (64),
    .portRate (64) 1,
    .pairSlip false (64) false 1,
    .placeStarted (2 ^ 16) 1 1,
    .placeStarted 1 (2 ^ 32) 1,
    .placeStopped (2 ^ 16) 1 1,
    .placeStopped 1 (2 ^ 32) 1,
    .engineTick (32) 1,
    .pmUncorrectable (32) 1 1,
    .pmUncorrectable 1 (2 ^ 16) 1] : List Instr).all (fun i => !i.wf) = true := by
  decide +kernel

theorem test_operands_out_of_range_are_ill_formed_4 : ([
    .sheetFrameStart (32) 1 [] [],
    .plateZeroed (49152),
    .dmaJobDone (64),
    .dmaBurstDone (64) (.moved []),
    .walkDone (2 ^ 48) false,
    .scrubRead (96 * 2 ^ 30) .clean 1,
    .readReq (64) [],
    .readData (64) [],
    .writeReq (64) [],
    .writeAck (64) [],
    .matrixTimeout .core (2 ^ 56),
    .decodeError .core (2 ^ 56),
    .candidatePresent (8) 1 none 0 0,
    .candidateAbsent (8) 1,
    .candidateQualified (8) 1 0 0,
    .refSyncEdge (8) 1 1 1,
    .refSyncEdge 1 1 (2 ^ 16) 1,
    .ptpMessage (2) (.sync 0 0 [] 0) 1,
    .timeSync (64) [] 1,
    .delayReq (64) [] 1 1,
    .delayReq 1 [] 1 (2 ^ 16),
    .delayResp (64) [],
    .timeSyncSend (64) 1,
    .delayReqSend (64) 1,
    .ppsEdge 1 (2 ^ 16),
    .clockWindow (256) 1 1,
    .mirrorStatusReceived (2 ^ 16) 1 1,
    .mirrorStatusReceived 1 (2 ^ 16) 1,
    .mirrorStatusReceived 1 1 (256),
    .digestMissed (2048) 1 1 1,
    .digestMissed 1 (256) 1 1,
    .digestMissed 1 1 (2 ^ 32) 1,
    .faultMessage (4096) 1 1 1 1,
    .faultMessage 1 (256) 1 1 1,
    .faultMessage 1 1 (2 ^ 48) 1 1,
    .faultMessage 1 1 1 1 0,
    .selfParity (2 ^ 16) 1,
    .watchdog (2 ^ 48) 1,
    .groupIdleExpiry (5) 1,
    .islandWakeRequest (340)] : List Instr).all (fun i => !i.wf) = true := by
  decide +kernel

theorem test_operands_out_of_range_are_ill_formed_5 : ([
    .rail (7) 1 1,
    .rail 1 (2 ^ 16) 1,
    .proofStepDone (256) 1 { passed := true, coverage := 0, detail := 0, durationUs := 0 } 1,
    .proofStepDone 1 (2 ^ 16) { passed := true, coverage := 0, detail := 0, durationUs := 0 } 1,
    .proofStepAbort (256) 1 1,
    .proofStepAbort 1 (2 ^ 16) 1,
    .liveSlice (256) 1 { passed := true, coverage := 0, detail := 0, durationUs := 0 } 1,
    .liveSlice 1 (2 ^ 16) { passed := true, coverage := 0, detail := 0, durationUs := 0 } 1,
    .lcProvision { port := .link 64 } false,
    .resetRelease { clusterId := 8 } 1,
    .phaseDram (some 4) 1] : List Instr).all (fun i => !i.wf) = true := by
  decide +kernel

theorem test_operands_in_range_are_well_formed_1 : ([
    .cmdDoorbell .cpa 1,
    .evtDoorbell .cpa 1,
    .registerWrite .cpa 1 [],
    .descriptorFetch .cpa (zeros 32) [],
    .windowRead 1 1,
    .undefinedOpcodeRequest 1 { port := .cpm },
    .deviceInfo { port := .cpm },
    .formeHorizon 1 1,
    .lockupArm 1 1,
    .switchInstant 1 1,
    .phaseMeasurement 1 0 1,
    .outputFrameStart 1 1,
    .rxLock 1 1 false 1 1,
    .rxLoss 1 1,
    .formatChange 1 1 1,
    .payloadIdReceived 1 false 1 1 false 1,
    .bondSkew 1 1 false,
    .ethFrameReceived 1 [] 1,
    .pauseExpiry 1 1 1,
    .flowLoss 1 1,
    .entryAged 1 1 1,
    .packetLaunch 1 1 1 1,
    .frameLaunch 1 1 1,
    .preemptVerify 1 false,
    .linkUp 1,
    .ethLinkDown 1 1,
    .signalDetected 1,
    .signalLost 1,
    .commaDetected 1 false,
    .blockHeader 1 { start := false, dataOk := false, typeSeq := 0, onTime := false },
    .huntTimeout 1,
    .vcBlockReceived 1 1 [] .none 1,
    .trainBlockReceived 1 1 [],
    .credit ⟨1, false⟩ 1 1,
    .hold ⟨1, false⟩ 1 1,
    .linkDown ⟨1, false⟩ 1,
    .unknownControl ⟨1, false⟩ 1,
    .wakeBurstEnd 1,
    .retuneComplete 1,
    .stepTimeout 1] : List Instr).all (fun i => i.wf) = true := by
  decide +kernel

theorem test_operands_in_range_are_well_formed_2 : ([
    .noPeerTimeout 1,
    .linkRetry 1,
    .linkTrafficQueued 1,
    .creditSend 1,
    .holdRepeat 1 1,
    .holdExpiry 1 1,
    .joinRetry 1 1,
    .linkPacketReceived 1 1 [],
    .linkResponse 1 1 [],
    .transactionTimeout 1 1 1 1,
    .routeWaitTimeout 1 1 1,
    .sysFormePushDone 1,
    .prepareAnswer 1 1 1 1 1,
    .sysDecisionTime 1 1,
    .decisionExpiry 1 1,
    .sysRunTimeout 1 1,
    .snapshotLatched 1 1,
    .epochCut 1 1,
    .portRestarted false 1 1,
    .safeloadDone 1 1,
    .audioTick false 1 [],
    .gainApply 1 0 0 1,
    .audioBlockMeasured 1 1 1,
    .silence 1 1,
    .aesBlockReceived 1 false (zeros 24) (zeros 24),
    .portLock 1 1,
    .portLoss 1,
    .portRate 1 1,
    .pairSlip false 1 false 1,
    .placeStarted 1 1 1,
    .placeStopped 1 1 1,
    .engineTick 1 1,
    .pmUncorrectable 1 1 1,
    .sheetFrameStart 1 1 [] [],
    .plateZeroed 1,
    .dmaJobDone 1,
    .dmaBurstDone 1 (.moved []),
    .walkDone 1 false,
    .scrubRead 1 .clean 1,
    .readReq 1 []] : List Instr).all (fun i => i.wf) = true := by
  decide +kernel

theorem test_operands_in_range_are_well_formed_3 : ([
    .readData 1 [],
    .writeReq 1 [],
    .writeAck 1 [],
    .matrixTimeout .core 1,
    .decodeError .core 1,
    .candidatePresent 1 1 none 0 0,
    .candidateAbsent 1 1,
    .candidateQualified 1 1 0 0,
    .refSyncEdge 1 1 1 1,
    .ptpMessage 1 (.sync 0 0 [] 0) 1,
    .timeSync 1 [] 1,
    .delayReq 1 [] 1 1,
    .delayResp 1 [],
    .timeSyncSend 1 1,
    .delayReqSend 1 1,
    .ppsEdge 1 1,
    .clockWindow 1 1 1,
    .mirrorStatusReceived 1 1 1,
    .digestMissed 1 1 1 1,
    .faultMessage 1 1 1 1 1,
    .selfParity 1 1,
    .watchdog 1 1,
    .groupIdleExpiry 1 1,
    .islandWakeRequest 1,
    .rail 1 1 1,
    .proofStepDone 1 1 { passed := true, coverage := 0, detail := 0, durationUs := 0 } 1,
    .proofStepAbort 1 1 1,
    .liveSlice 1 1 { passed := true, coverage := 0, detail := 0, durationUs := 0 } 1,
    .lcProvision { port := .cpm } false,
    .resetRelease {} 1,
    .phaseDram none 1] : List Instr).all (fun i => i.wf) = true := by
  decide +kernel

/-! The states that the witnesses start from. -/

def svc : State := { boot := { phase := 0xFF, pwrgood := true, resetN := true, driversOff := false }, life := { lifecycle := .factory } }
def req (p : List Byte) : Request := { port := .cpt, payload := p }
def forme5 : State := svc.onLat (fun l => { l with pending := [{ id := 5 }] })
def lock5 : State := (svc.onLat (fun l => { l with pending := [{ id := 5, state := .locking, t := some 3000, entries := [(2047, {})], waiting := [2047] }] })).onDest 2047 (fun x => { x with next := some { source := 1 }, nextForme := 5 })
def store7 : State := ((svc.onLane 7 (fun l => { l with role := .sdi, rx := { l.rx with locked := true } })).onLat (fun l => { l with stores := [(7, { frames := [{ seq := 3 }], written := 3 })] })).onDest 0 (fun x => { x with plane := 2, current := { source := 7, plane := 2 } })
def sdi (ns : List Nat) : State := each ns (fun n s => s.onLane n (fun l => { l with role := .sdi })) svc
def tabled (n k : Nat) : State := svc.onLanes (fun l => { l with inUse := some { bytes := [(entryOffset n k, 1)] } })
def locked255 : State := svc.onLane 255 (fun l => { l with role := .sdi, rx := { l.rx with locked := true, rateClass := 1, format := 0x33 } })
def mac0 : State := (svc.onLane 0 (fun l => { l with role := .eth })).onMac 0 (fun m => { m with mode := .r25 })
def macUp : State := mac0.onMac 0 (fun m => { m with linkUp := true, promiscuous := true, preempt := true })
def entry28 : List Byte := zeros 12 ++ [255] ++ zeros 15
def rebuilding : State := svc.onEth (fun e => { e with rebuild := true })
def header32 : List Byte := leBytes 4 0x92567AB1 ++ [1, 0, 0, 0, 0, 0, 0, 0, 0, 1, 10, 8] ++ zeros 12 ++ leBytes 4 (crc32c (zeros 20480))
def staged : State := svc.onLanes (fun l => { l with staging := Memory.writeN [] 0 header32 })
def vox (a : RxAlign) : State := svc.onLane 255 (fun l => { l with role := .voxad, align := a, commas := 1, headers := 31 })
def goodHeader : HeaderSeen := { start := true, dataOk := true, typeSeq := 0x11, onTime := true }
def badHeader : HeaderSeen := { start := false, dataOk := true, typeSeq := 0x11, onTime := true }
def lnk (r : LinkRole) (t : LinkState) : State := svc.onLink 63 (fun l => { l with role := r, state := t, honourVc0 := false })
def trainBlock : List Byte := zeros 56 ++ leBytes 4 (crc32c (zeros 56))
def lreq (p : List Byte) : Request := { port := .link 63, originator := 0x4000, payload := p }
def cross (kind txid : Nat) : List Byte := txHeader txid kind 0 8 0 20 ++ packet 0x0002 5 0 0 0 0x4000 0 []
def asked : State := (lnk .parent .up).onLink 63 (fun l => { l with outstanding := [{ txid := 7, handle := some {} }] })
def apex : State := svc.onHier (fun h => { h with apexRole := true })
def record5 : List Byte := leBytes 4 5 ++ [1, 0, 0, 1] ++ leBytes 4 (crc32c (entryBytes 0 {})) ++ zeros 4 ++ entryBytes 0 {}
def answer5 : NodeAnswer := { record := Memory.writeN [] 0 record5, size := 28 }
def sysIn (n : Nat) : State := apex.onHier (fun h => { h with sysFormes := [(5, { state := n, rate := 1, nodes := [(2, { answer5 with pushed := 1 })] })] })
def below : State := lnk .parent .up
def pushed5 : State := below.onHier (fun h => { h with pushed := [(5, { bytes := Memory.writeN [] 0 record5, size := 28, complete := true })] })
def prepared5 : State := below.onLat (fun l => { l with pending := [{ id := 5, state := .closed, prepared := true, t := some 3000 }] })
def proc3 : State := svc.onChord (fun c => { c with processes := [(3, { paramWords := 1 })] })
def low63 : State := (svc.onLink 63 (fun l => { l with maxClass := 6 })).onLat (fun l => { l with sends := [(0, { link := 63, stream := 1, rate := 5 })] })
def imageBody : List Byte := zeros 72 ++ leBytes 8 (2 ^ 58)
def image2 : Memory := Memory.writeN [] 0 (leBytes 4 0x92560C4D ++ [1, 0, 2, 0, 0, 0, 0, 0, 0, 0, 0, 0] ++ leBytes 4 3887035651 ++ zeros 12 ++ imageBody)
def imageV : Image := { code := [0, 2 ^ 58], gens := List.replicate 8 { space := false, base := 0, length := 0, index := 0, step := 0 }, cycles := 2 }
theorem image2_crc : crc32c imageBody = 3887035651 := by have h : imageBody = zeros 40 ++ (zeros 32 ++ leBytes 8 (2 ^ 58)) := by { decide +kernel }; have h1 : (zeros 40).foldl (fun c b => crcBits crc32cBit 8 (c ^^^ b.zeroExtend 32)) 0xFFFFFFFF#32 = 2795522082#32 := by { decide +kernel }; unfold crc32c; rw [h, List.foldl_append, h1]; decide +kernel
theorem image2_ok : checkImage image2 = (imageV, 0xFFFF, 0) := by have h1 : Memory.readN image2 32 (64 + 8 * u16 (Memory.readN image2 0 96) 6 + 8 * u16 (Memory.readN image2 0 96) 10) = imageBody := by { decide +kernel }; unfold checkImage; simp only [h1, image2_crc]; decide +kernel
def slot2 : State := proc3.onChord (fun c => { c with slots := [(0, image2)], engines := [(31, { n := 8 })] })
def placed (x : Placement) : State := svc.onChord (fun c => { c with processes := [(3, { placements := [x] })], engines := [(31, { n := 8 })] })
def sheetOn : State := (svc.onSheet 31 (fun h => { h with enabled := true, format := 0x33 })).onImp (fun i => { i with inputs := [(0, { format := 0x33 })] })
def plate0 (x : Plate) : State := svc.onMem (fun m => { m with plates := [(47103, x)] })
def chan48 (x : DmaChan) : State := svc.onMem (fun m => { m with channels := [(48, x)], tables := [(0, { writable := true, plate := 32768 })] })
def fill4 : Descriptor := { fill := true }
def job1 : DmaJob := { descriptors := [fill4], handle := {} }
def fillRecord : List Byte := [1, 0, 0, 0, 4, 0, 0, 0] ++ zeros 24
def node9 : State := ((lnk .parent .up).onKeep (fun k => { k with nodeId := 9 })).onMem (fun m => { m with matrixWhy := .none, plates := [(32768, { state := .allocated, mode := 2 })] })
def dmaIn (kind op length : Nat) (data : List Byte) : List Byte := txHeader 7 kind 0 8 1 (24 + data.length) ++ dmaMessage op 0 length 9 2 32768 0 0 data
def cand5 : State := svc.onCand 5 (fun c => { c with priority := 1, present := true, qualified := true })
def ref (t : RefState) : State := svc.onRef (fun r => { r with state := t, selected := some 4 })
def twin (r : TwinRole) : State := ((lnk .twin .up).onLink 63 (fun l => { l with width := 3, rateClass := 9 })).onTwin (fun t => { t with role := r, enable := true, autoPair := true, link := 63, mirrored := true, settled := true, fitLost := false, report := some { bytes := List.replicate 48 255 } })
def idle : State := svc.onPower (fun p => { p with groups := (List.range 5).map (fun g => (g, { idleSince := some 0, budget := 4294967295 })) })
def activeSafe : State := svc.onFaults (fun f => { f with active := [(0x1C1, 5)] })
def probe (l : List ProofRunSt) : State := svc.onProof (fun p => { p with runs := l })
def seen1 : ProofSeen := { passed := true, coverage := 100, detail := 2 ^ 48, durationUs := 7 }
def key16 (k : KeySlot) : State := svc.onLife (fun l => { l with slots := [(16, k)] })
def attr1 : List Byte := [1, 11, 2] ++ zeros 9
def phase (n : Nat) : State := svc.onBoot (fun b => { b with phase := n })
def folioA (v : Nat) : State := svc.onLife (fun l => { l with a := { state := .valid, version := v } })
def tagged : State := svc.onTags 3 (fun _ => [{ tag := 0x3FFF }])
def inField : State := (lnk .parent .up).onLife (fun l => { l with lifecycle := .field, slots := [(2, { kind := 3, usage := 4, lcMask := 4, uses := 0xFFFFFFFF })] })


/-! Worked figures of the specification. -/

/-- A link header as the specification's example of R36 prints it. -/
theorem test_request_header_of_R36 : (packet 0x0002 0x0153 0 0 0 0 0 []).take 16 = bytes [0x02, 0, 0x53, 0x01, 0, 0, 0, 0, 0, 0, 0, 0, 0, 0, 0, 0] := by
  decide +kernel

theorem test_reply_header_of_R36 : (packet 0x0002 0x0153 1 0 0 0x0A41 0x3C0591E0 (zeros 24)).take 16 =
    bytes [0x02, 0, 0x53, 0x01, 0x18, 0, 0x01, 0, 0, 0, 0x41, 0x0A, 0xE0, 0x91, 0x05, 0x3C] := by
  decide +kernel

theorem test_crc_of_nine_digits : crc32c ("123456789".toList.map (fun c => BitVec.ofNat 8 c.toNat)) = 0xE3069283 := by
  decide +kernel

theorem test_crc_of_zeros : crc32c (zeros 32) = 0x8A9136AA := by
  decide +kernel

theorem test_pack_minus_two : (List.range 3).map (fun k => packSample k (-2)) =
    [bytes [0xFE, 0xFF, 0xFF], bytes [0xFE, 0xFF, 0xFF, 0xFF], bytes [0x00, 0xFE, 0xFF, 0xFF]] := by
  decide +kernel

theorem test_dmac_word : cOp 0x4C08E10000000000 = 0x13 ∧ bits 0x4C08E10000000000 49 47 = 1 ∧
    leBytes 8 0x4C08E10000000000 = bytes [0, 0, 0, 0, 0, 0xE1, 0x08, 0x4C] ∧ cError 2 0 0x4C08E10000000000 [] = 0 := by
  decide +kernel

theorem test_neg_saturates : ((Run.step (0x22 * 2 ^ 58) { regs := [(0, { re := -2 ^ 39, im := 5 })] }).reg 0) = { re := 2 ^ 39 - 1, im := -5 } := by
  decide +kernel
def tile : Page := { blend := 0, opacity := 768, edge := 4, dstX := 960, dstY := 540, dstW := 960, dstH := 540 }

theorem test_tile_edge : tile.alpha 961 600 940 = 307 ∧ blendPart false 307 940 64 64 = 327 := by
  decide +kernel

theorem test_tile_centre : tile.alpha 1440 810 940 = 768 ∧ blendPart false 768 940 64 64 = 721 := by
  decide +kernel

theorem test_link_example_of_R86 : ({ width := 2, rateClass := 9, state := .up } : Link).payload = 77500000 ∧
    ({ width := 2, rateClass := 9, state := .up } : Link).trunkLimit = 69750000 := by
  decide +kernel

theorem test_device_info_answers_with_its_header :
    (match exec (.deviceInfo { port := .cpt, tag := 0x0153 })
        ((svc.onKeep (fun k => { k with nodeId := 0x0A41 })).advance (0x3C0591E0 * 1000)) with
      | .next t => (t.ports.cpt.queue.headD []).take 16
      | _ => []) = bytes [0x02, 0, 0x53, 0x01, 0x18, 0, 0x01, 0, 0, 0, 0x41, 0x0A, 0xE0, 0x91, 0x05, 0x3C] := by
  decide +kernel

/-! A lane table that may be committed, and a life-cycle record. -/

/-- A little-endian word of four bytes reads back. -/
theorem fld_word {v : Nat} (h : v < 2 ^ 32) : fld (leBytes 4 v) 0 4 = v := by
  simp only [fld, leBytes, List.drop_zero, List.take_succ_cons, List.take_zero, leNat, BitVec.toNat_ofNat]
  omega

/-- A lane table of zero entries whose header holds a CRC. -/
def tableFor (c : Nat) : Memory :=
  Memory.writeN (Memory.writeN [] 0 (leBytes 4 0x92567AB1 ++ [1, 0, 0, 0, 0, 0, 0, 0, 0, 1, 10, 8] ++ zeros 12)) 28 (leBytes 4 c)

theorem tableFor_crcField (c : Nat) : Memory.readN (tableFor c) 28 4 = leBytes 4 c :=
  Memory.readN_writeN_self (leBytes 4 c) _ 28

theorem tableFor_header (c : Nat) : tableHeaderOk (tableFor c) = true := by
  have h : Memory.readN (tableFor c) 0 (28 + 4) =
      (leBytes 4 0x92567AB1 ++ [1, 0, 0, 0, 0, 0, 0, 0, 0, 1, 10, 8] ++ zeros 12) ++ leBytes 4 c := by
    rw [Memory.readN_add, tableFor_crcField]
    congr 1
    unfold tableFor
    rw [Memory.readN_writeN_outside _ _ (by simp)]
    exact Memory.readN_writeN_self (leBytes 4 0x92567AB1 ++ [1, 0, 0, 0, 0, 0, 0, 0, 0, 1, 10, 8] ++ zeros 12) [] 0
  unfold tableHeaderOk
  simp only [show (32 : Nat) = 28 + 4 from rfl, h]
  generalize leBytes 4 c = r
  simp [u32, u16, u8, zeroAt, fld, leBytes, leNat, zeros]

theorem tableFor_body (c : Nat) : Memory.readN (tableFor c) 32 20480 = zeros 20480 := by
  unfold tableFor
  rw [Memory.readN_writeN_outside _ _ (by simp [leBytes]), Memory.readN_writeN_outside _ _ (by simp [leBytes, zeros])]
  refine List.eq_replicate_iff.2 ⟨Memory.length_readN _ _ _, fun b hb => ?_⟩
  obtain ⟨i, -, rfl⟩ := List.mem_map.1 hb
  rfl

theorem tableFor_ok {c : Nat} (h : crc32c (zeros 20480) = c) : tableOk (tableFor c) = true := by
  have hc : c < 2 ^ 32 := h ▸ BitVec.isLt _
  simp only [tableOk, tableFor_header, tableCrc, tableFor_body, tableFor_crcField, fld_word hc, h, Bool.true_and, decide_true]

/-- A little-endian word of eight bytes reads back. -/
theorem fld_double {v : Nat} (h : v < 2 ^ 64) : fld (leBytes 8 v) 0 8 = v := by
  simp only [fld, leBytes, List.drop_zero, List.take_succ_cons, List.take_zero, leNat, BitVec.toNat_ofNat]
  omega

/-- A life-cycle record for the first nonce of this device. -/
def lcRecord : List Byte :=
  leBytes 8 Config.serial.toNat ++ [2, 3, 0, 0] ++ leBytes 4 (Config.nonce 0).toNat ++ zeros 96

/-! Witnesses. -/

/-- The hypotheses of every clause of RingRegistersAct can be met together. -/
theorem witness_RingRegistersAct :
    (∃ (side : PcieSide) (s : State), s.bar0On = true ∧ (s.pcie side).cmdRingEn = true) ∧
    (∃ (side : PcieSide) (s : State), s.bar0On = true ∧ (s.pcie side).cmdRingEn = false) ∧
    (∃ (side : PcieSide) (index : Nat) (s : State), s.bar0On = true ∧
      ((s.pcie side).evtProducer - BitVec.ofNat 16 index).toNat ≤ ((s.pcie side).evtProducer - (s.pcie side).evtConsumer).toNat) ∧
    (∃ (side : PcieSide) (index : Nat) (s : State), s.bar0On = true ∧
      ((s.pcie side).evtProducer - (s.pcie side).evtConsumer).toNat < ((s.pcie side).evtProducer - BitVec.ofNat 16 index).toNat) ∧
    (∃ (s : State), s.bar0On = true) ∧
    (∃ (side : PcieSide) (s : State), s.bar0On = true ∧ (s.pcie side).evtRingEn = false) ∧
    (∃ (side : PcieSide) (s : State), s.bar0On = true ∧ (s.pcie side).evtRingEn = true) ∧
    (∃ (s : State), s.bar0On = true) := by
  refine ⟨?_, ?_, ?_, ?_, ?_, ?_, ?_, ?_⟩
  · refine ⟨.cpa, svc.onPcie .cpa (fun p => { p with cmdRingEn := true }), ?_, ?_⟩
    all_goals decide +kernel
  · refine ⟨.cpb, svc, ?_, ?_⟩
    all_goals decide +kernel
  · refine ⟨.cpa, 3, svc.onPcie .cpa (fun p => { p with evtProducer := 3, evtConsumer := 1 }), ?_, ?_⟩
    all_goals decide +kernel
  · refine ⟨.cpa, 4, svc.onPcie .cpa (fun p => { p with evtProducer := 3, evtConsumer := 1 }), ?_, ?_⟩
    all_goals decide +kernel
  · refine ⟨svc, ?_⟩
    all_goals decide +kernel
  · refine ⟨.cpb, svc, ?_, ?_⟩
    all_goals decide +kernel
  · refine ⟨.cpa, svc.onPcie .cpa (fun p => { p with evtRingEn := true }), ?_, ?_⟩
    all_goals decide +kernel
  · refine ⟨svc, ?_⟩
    all_goals decide +kernel

/-- The hypotheses of every clause of RingTransfersAct can be met together. -/
theorem witness_RingTransfersAct :
    (∃ (s : State), s.bar0On = true) ∧
    (∃ (s : State), s.bar0On = true) ∧
    (∃ (side : PcieSide) (offset : Nat) (data : List Byte) (s : State), s.bar0On = true ∧ 0x10 ≤ offset ∧
      offset + data.length ≤ 0x18 ∧ (s.pcie side).pba = 0) ∧
    (∃ (side : PcieSide) (offset : Nat) (s : State), s.bar0On = true ∧ 0x1100 ≤ offset ∧ (s.pcie side).pba = 0) ∧
    (∃ (side : PcieSide) (s : State), s.fetches side = true) ∧
    (∃ (side : PcieSide) (s : State) (r : _) (rs : _), (s.pcie side).replies = r :: rs ∧ r.packet ≠ []) ∧
    (∃ (s : State), s.boot.phase ≠ 0 ∧ s.power.off = false ∧ s.life.lifecycle ≠ .blank) := by
  refine ⟨?_, ?_, ?_, ?_, ?_, ?_, ?_⟩
  · refine ⟨svc, ?_⟩
    all_goals decide +kernel
  · refine ⟨svc, ?_⟩
    all_goals decide +kernel
  · refine ⟨.cpa, 0x10, [1, 2, 3, 4, 5, 6, 7, 8], svc, ?_, ?_, ?_, ?_⟩
    all_goals decide +kernel
  · refine ⟨.cpa, 0x1100, svc, ?_, ?_, ?_⟩
    all_goals decide +kernel
  · refine ⟨.cpa, svc.onPcie .cpa (fun p => { p with cmdRingEn := true, cmdProducer := 1 }), ?_⟩
    all_goals decide +kernel
  · refine ⟨.cpa, svc.onPcie .cpa (fun p => { p with replies := [{ packet := [1] }] }), _, _, rfl, ?_⟩
    all_goals decide +kernel
  · refine ⟨svc, ?_, ?_, ?_⟩
    all_goals decide +kernel

/-- The hypotheses of every clause of SerialPortsAnswer can be met together. -/
theorem witness_SerialPortsAnswer :
    (∃ (s : State), s.windowOn .cpm = true) ∧
    (∃ (s : State) (r : _) (rs : _), s.windowOn .cpm = true ∧ s.ports.cpm.replies = r :: rs) ∧
    (∃ (s : State), s.windowOn .cpm = true ∧ s.ports.cpm.replies = []) ∧
    (∃ (s : State), s.windowOn .cpm = true) ∧
    (∃ (s : State) (r : _) (rs : _), s.windowOn .cpt = true ∧ s.ports.cpt.queue = r :: rs) ∧
    (∃ (s : State), s.windowOn .cpt = true) := by
  refine ⟨?_, ?_, ?_, ?_, ?_, ?_⟩
  · refine ⟨svc, ?_⟩
    all_goals decide +kernel
  · refine ⟨svc.onCpm (fun p => { p with replies := [[1]] }), _, _, ?_, rfl⟩
    all_goals decide +kernel
  · refine ⟨svc, ?_, ?_⟩
    all_goals decide +kernel
  · refine ⟨svc, ?_⟩
    all_goals decide +kernel
  · refine ⟨svc.onCpt (fun p => { p with queue := [[1]] }), _, _, ?_, rfl⟩
    all_goals decide +kernel
  · refine ⟨svc, ?_⟩
    all_goals decide +kernel

/-- The hypotheses of every clause of InterpreterCommandsAnswer can be met together. -/
theorem witness_InterpreterCommandsAnswer :
    (∃ (rq : Request) (s : State) (a : State), Served 0x0002 rq s a ∧ rq.payload = []) ∧
    (∃ (rq : Request) (s : State) (a : State), Served 0x0003 rq s a ∧ rq.payload.length = 4 ∧ u8 rq.payload 1 = 0 ∧
      1 ≤ u16 rq.payload 2 ∧ u8 rq.payload 0 + u16 rq.payload 2 ≤ 256) ∧
    (∃ (rq : Request) (s : State) (a : State), Served 0x0004 rq s a ∧ rq.payload.length = 8 ∧ u16 rq.payload 0 % 4 = 0 ∧
      u16 rq.payload 2 % 2 = 0 ∧ ((rq.port = .cpa ∨ rq.port = .cpb ∨ u16 rq.payload 4 = 0)) ∧ u16 rq.payload 6 = 0) ∧
    (∃ (rq : Request) (s : State) (a : State), Served 0x0005 rq s a ∧ rq.payload.length = 2 ∧ u8 rq.payload 1 = 0 ∧
      ((u8 rq.payload 0 ≤ 3 ∨ (64 ≤ u8 rq.payload 0 ∧ u8 rq.payload 0 ≤ 127)))) ∧
    (∃ (rq : Request) (s : State) (a : State), Served 0x0005 rq s a ∧ rq.payload.length = 2 ∧ u8 rq.payload 1 = 0 ∧
      ((u8 rq.payload 0 ≤ 3 ∨ (64 ≤ u8 rq.payload 0 ∧ u8 rq.payload 0 ≤ 127)))) ∧
    (∃ (rq : Request) (s : State) (a : State), Served 0x0001 rq s a) ∧
    (∃ (op : Nat) (rq : Request) (s : State), listening rq s = true ∧ headerOk rq (s.received rq) = true ∧ opClass op = none) ∧
    (∃ (packet : List Byte) (s : State), s.serving .cpm = true ∧ s.replyRoom .cpm = true ∧ lengthOk packet = true ∧
      crcOk packet = true ∧ verdict (u16 packet 0) (requestOf .cpm packet) (s.received { port := .cpm }) = .run) ∧
    (∃ (packet : List Byte) (s : State) (t : _), t = s.onCpt (fun p => { p with ir := 0x40, extest := false, pulsing := false }) ∧
      t.serving .cpt = true ∧ t.replyRoom .cpt = true ∧ lengthOk packet = true ∧ crcOk packet = true ∧
      verdict (u16 packet 0) (requestOf .cpt packet) (t.received { port := .cpt }) = .run) ∧
    (∃ (at_ : Nat) (s : State) (e : _), (s.advance at_).ports.timed = [e] ∧ s.life.paused = none ∧
      e.due * 1000 ≤ (s.advance at_).now) ∧
    (∃ (at_ : Nat) (s : State), 3 ≤ s.boot.phase ∧ (s.advance at_).portsAwake = true ∧ s.twin.retrainDue = false) := by
  refine ⟨?_, ?_, ?_, ?_, ?_, ?_, ?_, ?_, ?_, ?_, ?_⟩
  · refine ⟨req [], svc, _, ⟨?_, rfl⟩, ?_⟩
    all_goals decide +kernel
  · refine ⟨req [255, 0, 1, 0], svc, _, ⟨?_, rfl⟩, ?_, ?_, ?_, ?_⟩
    all_goals decide +kernel
  · refine ⟨req [4, 0, 2, 0, 0, 0, 0, 0], svc, _, ⟨?_, rfl⟩, ?_, ?_, ?_, ?_, ?_⟩
    all_goals decide +kernel
  · refine ⟨req [127, 0], svc, _, ⟨?_, rfl⟩, ?_, ?_, ?_⟩
    all_goals decide +kernel
  · refine ⟨req [3, 0], svc, _, ⟨?_, rfl⟩, ?_, ?_, ?_⟩
    all_goals decide +kernel
  · refine ⟨req [9], svc, _, ⟨?_, rfl⟩⟩
    all_goals decide +kernel
  · refine ⟨0xFFFF, req [], svc, ?_, ?_, ?_⟩
    all_goals decide +kernel
  · refine ⟨packet 0x0002 5 0 0 0 0 0 [], svc, ?_, ?_, ?_, ?_, ?_⟩
    all_goals decide +kernel
  · refine ⟨packet 0x1005 5 0 0 0 0 0 [1, 0, 0, 0], svc, _, rfl, ?_, ?_, ?_, ?_, ?_⟩
    all_goals decide +kernel
  · refine ⟨1000, svc.onPorts (fun p => { p with timed := [{ due := 1 }] }), _, rfl, ?_, ?_⟩
    all_goals decide +kernel
  · refine ⟨4, svc, ?_, ?_, ?_⟩
    all_goals decide +kernel

/-- The hypotheses of every clause of FormesAreBuiltAndScheduled can be met together. -/
theorem witness_FormesAreBuiltAndScheduled :
    (∃ (rq : Request) (s : State) (a : State) (p : List Byte), Served 0x1001 rq s a ∧ rq.payload = p ∧ p.length = 8 ∧
      u32 p 0 ≠ 0 ∧ u8 p 4 ≤ 1 ∧ framePeriod (u8 p 5) ≠ none ∧ u16 p 6 = 0 ∧ a.lat.pending.length < 8 ∧ a.openForme = none ∧
      a.lat.standing.id ≠ u32 p 0 ∧ a.forme (u32 p 0) = none) ∧
    (∃ (rq : Request) (s : State) (a : State) (p : List Byte) (f : _), Served 0x1002 rq s a ∧ rq.payload = p ∧ 1 ≤ u16 p 4 ∧
      u16 p 4 ≤ 340 ∧ p.length = 8 + 12 * u16 p 4 ∧ u16 p 6 = 0 ∧
      (records p 8 12 (u16 p 4)).all (fun r => entryReservedOk r && entryFieldsOk (parseEntry r).1 (parseEntry r).2) = true ∧
      a.forme (u32 p 0) = some f ∧ f.state = .opened) ∧
    (∃ (rq : Request) (s : State) (a : State) (p : List Byte) (r : _), Served 0x1002 rq s a ∧ rq.payload = p ∧
      r ∈ records p 8 12 (u16 p 4) ∧ (entryReservedOk r = false ∨ entryFieldsOk (parseEntry r).1 (parseEntry r).2 = false)) ∧
    (∃ (rq : Request) (s : State) (a : State) (p : List Byte) (r : _), Served 0x1002 rq s a ∧ rq.payload = p ∧
      r ∈ records p 8 12 (u16 p 4) ∧ (entryReservedOk r = false ∨ entryFieldsOk (parseEntry r).1 (parseEntry r).2 = false)) ∧
    (∃ (rq : Request) (s : State) (a : State) (p : List Byte) (f : _), Served 0x1003 rq s a ∧ rq.payload = p ∧ p.length = 12 ∧
      u16 p 6 = 0 ∧ a.forme (u32 p 0) = some f ∧ f.state = .opened ∧ a.formeError f.entries (u16 p 4) (u32 p 8) = (0xFFFF, 0)) ∧
    (∃ (rq : Request) (s : State) (a : State) (p : List Byte) (f : _) (d : _) (r : _), Served 0x1003 rq s a ∧ rq.payload = p ∧
      p.length = 12 ∧ u16 p 6 = 0 ∧ a.forme (u32 p 0) = some f ∧ f.state = .opened ∧
      a.formeError f.entries (u16 p 4) (u32 p 8) = (d, r) ∧ r ≠ 0) ∧
    (∃ (rq : Request) (s : State) (a : State) (p : List Byte) (f : _) (t : _), Served 0x1004 rq s a ∧ rq.payload = p ∧
      p.length = 24 ∧ u32 p 4 = 0 ∧ u32 p 20 = 0 ∧ u32 p 16 < 1000000000 ∧
      t = (if timeAt p 8 16 = 0 then a.now + 2000000 else timeAt p 8 16) ∧ a.forme (u32 p 0) = some f ∧ a.now + 2000000 ≤ t ∧
      t ≤ a.now + 86400 * 1000000000 ∧ a.spacingBad (u32 p 0) t = false ∧ f.prepared = false ∧
      (f.state = .opened ∨ f.state = .closed)) ∧
    (∃ (rq : Request) (s : State) (a : State) (p : List Byte) (f : _) (t : _), Served 0x1004 rq s a ∧ rq.payload = p ∧
      p.length = 24 ∧ u32 p 4 = 0 ∧ u32 p 20 = 0 ∧ u32 p 16 < 1000000000 ∧
      t = (if timeAt p 8 16 = 0 then a.now + 2000000 else timeAt p 8 16) ∧ a.forme (u32 p 0) = some f ∧ a.now + 2000000 ≤ t ∧
      t ≤ a.now + 86400 * 1000000000 ∧ a.spacingBad (u32 p 0) t = false ∧ f.prepared = false ∧
      (f.state = .opened ∨ f.state = .closed)) ∧
    (∃ (rq : Request) (s : State) (a : State) (p : List Byte) (f : _), Served 0x1005 rq s a ∧ rq.payload = p ∧ p.length = 4 ∧
      a.forme (u32 p 0) = some f ∧ f.prepared = false ∧ (f.state = .opened ∨ f.state = .closed)) := by
  refine ⟨?_, ?_, ?_, ?_, ?_, ?_, ?_, ?_, ?_⟩
  · refine ⟨req [5, 0, 0, 0, 1, 8, 0, 0], svc, _, _, ⟨?_, rfl⟩, rfl, ?_, ?_, ?_, ?_, ?_, ?_, ?_, ?_, ?_⟩
    all_goals decide +kernel
  · refine ⟨req ([5, 0, 0, 0, 1, 0, 0, 0] ++ entryBytes 2047 { source := 3, plane := 2 }), forme5, _, _, _, ⟨?_, rfl⟩, rfl, ?_, ?_, ?_, ?_, ?_, rfl, ?_⟩
    all_goals decide +kernel
  · refine ⟨req ([5, 0, 0, 0, 1, 0, 0, 0] ++ entryBytes 2047 { source := 3, plane := 3 }), forme5, _, _, entryBytes 2047 { source := 3, plane := 3 }, ⟨?_, rfl⟩, rfl, ?_, ?_⟩
    all_goals decide +kernel
  · refine ⟨req ([5, 0, 0, 0, 1, 0, 0, 0] ++ zeros 7 ++ [255, 0, 0, 0, 0]), forme5, _, _, zeros 7 ++ [255, 0, 0, 0, 0], ⟨?_, rfl⟩, rfl, ?_, ?_⟩
    all_goals decide +kernel
  · refine ⟨req ([5, 0, 0, 0, 1, 0, 0, 0] ++ leBytes 4 (entriesCrc [(1, { source := 3, plane := 2 })])), svc.onLat (fun l => { l with pending := [{ id := 5, entries := [(1, { source := 3, plane := 2 })] }] }), _, _, _, ⟨?_, rfl⟩, rfl, ?_, ?_, rfl, ?_, ?_⟩
    all_goals decide +kernel
  · refine ⟨req [5, 0, 0, 0, 1, 0, 0, 0, 0, 0, 0, 0], forme5, _, _, _, _, _, ⟨?_, rfl⟩, rfl, ?_, ?_, rfl, ?_, rfl, ?_⟩
    all_goals decide +kernel
  · refine ⟨req ([5, 0, 0, 0, 0, 0, 0, 0] ++ leBytes 8 0 ++ leBytes 4 2000000 ++ [0, 0, 0, 0]), forme5, _, _, _, _, ⟨?_, rfl⟩, rfl, ?_, ?_, ?_, ?_, rfl, rfl, ?_, ?_, ?_, ?_, ?_⟩
    all_goals decide +kernel
  · refine ⟨req ([5, 0, 0, 0, 0, 0, 0, 0] ++ leBytes 8 86400 ++ [0, 0, 0, 0, 0, 0, 0, 0]), forme5, _, _, _, _, ⟨?_, rfl⟩, rfl, ?_, ?_, ?_, ?_, rfl, rfl, ?_, ?_, ?_, ?_, ?_⟩
    all_goals decide +kernel
  · refine ⟨req [5, 0, 0, 0], forme5, _, _, _, ⟨?_, rfl⟩, rfl, ?_, rfl, ?_, ?_⟩
    all_goals decide +kernel

/-- The hypotheses of every clause of RouteSetChangesOneRoute can be met together. -/
theorem witness_RouteSetChangesOneRoute :
    (∃ (rq : Request) (s : State) (a : State) (p : List Byte), Served 0x1006 rq s a ∧ rq.payload = p ∧ p.length = 16 ∧
      entryReservedOk p = true ∧ u8 p 12 = 0 ∧ fld p 13 3 = 0 ∧ entryError (parseEntry p).1 (parseEntry p).2 = 0 ∧
      a.openForme ≠ none) ∧
    (∃ (rq : Request) (s : State) (a : State) (p : List Byte) (d : _) (e : _), Served 0x1006 rq s a ∧ rq.payload = p ∧
      p.length = 16 ∧ entryReservedOk p = true ∧ u8 p 12 ≤ 1 ∧ fld p 13 3 = 0 ∧ (d, e) = parseEntry p ∧ entryError d e = 0 ∧
      a.openForme = none ∧ a.trunkError d e = 0 ∧ a.platesUsed + a.platesAdded [(d, e)] ≤ 32768) := by
  refine ⟨?_, ?_⟩
  · refine ⟨req [0, 0, 1, 0, 0, 0, 0, 0, 0, 0, 0, 0, 0, 0, 0, 0], forme5, _, _, ⟨?_, rfl⟩, rfl, ?_, ?_, ?_, ?_, ?_, ?_⟩
    all_goals decide +kernel
  · refine ⟨req [255, 7, 255, 255, 0, 0, 0, 0, 0, 0, 0, 0, 1, 0, 0, 0], svc, _, _, 2047, {}, ⟨?_, rfl⟩, rfl, ?_, ?_, ?_, ?_, ?_, ?_, ?_, ?_, ?_⟩
    all_goals decide +kernel

/-- The hypotheses of every clause of LatticeReports can be met together. -/
theorem witness_LatticeReports :
    (∃ (rq : Request) (s : State) (a : State) (p : List Byte), Served 0x1007 rq s a ∧ rq.payload = p ∧ p.length = 8 ∧
      u8 p 4 = 1 ∧ fld p 5 3 = 0) ∧
    (∃ (rq : Request) (s : State) (a : State) (p : List Byte), Served 0x1008 rq s a ∧ rq.payload = p ∧ p.length = 12 ∧
      u8 p 0 = 0 ∧ fld p 1 3 = 0 ∧ 1 ≤ u16 p 10 ∧ u16 p 10 ≤ 340 ∧ u16 p 8 + u16 p 10 ≤ 2048) ∧
    (∃ (rq : Request) (s : State) (a : State) (p : List Byte), Served 0x1009 rq s a ∧ rq.payload = p ∧ p.length = 4 ∧
      1 ≤ u16 p 2 ∧ u16 p 2 ≤ 255 ∧ u16 p 0 + u16 p 2 ≤ 2048) ∧
    (∃ (rq : Request) (s : State) (a : State) (p : List Byte), Served 0x100B rq s a ∧ rq.payload = p ∧ p.length = 4 ∧
      u8 p 0 ≤ 63 ∧ fld p 1 3 = 0) ∧
    (∃ (rq : Request) (s : State) (a : State) (p : List Byte), Served 0x100C rq s a ∧ rq.payload = p ∧ p.length = 4 ∧
      u8 p 0 ≤ 1 ∧ fld p 1 3 = 0) ∧
    (∃ (rq : Request) (s : State) (a : State), Served 0x100D rq s a ∧ rq.payload = [] ∧ newestRecord a.keep.records = none) ∧
    (∃ (rq : Request) (s : State) (a : State) (k : _) (r : _), Served 0x100D rq s a ∧ rq.payload = [] ∧
      newestRecord a.keep.records = some (k, r)) := by
  refine ⟨?_, ?_, ?_, ?_, ?_, ?_, ?_⟩
  · refine ⟨req [0, 0, 0, 0, 1, 0, 0, 0], svc, _, _, ⟨?_, rfl⟩, rfl, ?_, ?_, ?_⟩
    all_goals decide +kernel
  · refine ⟨req [0, 0, 0, 0, 0, 0, 0, 0, 172, 6, 84, 1], svc, _, _, ⟨?_, rfl⟩, rfl, ?_, ?_, ?_, ?_, ?_, ?_⟩
    all_goals decide +kernel
  · refine ⟨req [1, 7, 255, 0], svc, _, _, ⟨?_, rfl⟩, rfl, ?_, ?_, ?_, ?_⟩
    all_goals decide +kernel
  · refine ⟨req [63, 0, 0, 0], svc, _, _, ⟨?_, rfl⟩, rfl, ?_, ?_, ?_⟩
    all_goals decide +kernel
  · refine ⟨req [1, 0, 0, 0], svc, _, _, ⟨?_, rfl⟩, rfl, ?_, ?_, ?_⟩
    all_goals decide +kernel
  · refine ⟨req [], svc, _, ⟨?_, rfl⟩, ?_, ?_⟩
    all_goals decide +kernel
  · refine ⟨req [], svc.onKeep (fun k => { k with records := [(3, { seq := 9 })] }), _, _, _, ⟨?_, rfl⟩, ?_, rfl⟩
    all_goals decide +kernel

/-- The hypotheses of every clause of TrunkMapsKeepToTheLimit can be met together. -/
theorem witness_TrunkMapsKeepToTheLimit :
    (∃ (rq : Request) (s : State) (a : State) (p : List Byte) (n : _) (m : TrunkMap) (c : _), Served 0x100A rq s a ∧
      rq.payload = p ∧ p.length = 8 ∧ u8 p 2 = 0 ∧ n = u16 p 0 - 0x500 ∧ isTrunkDest (u16 p 0) = true ∧ u16 p 6 = 0 ∧
      u8 p 3 ≤ 63 ∧ m = { link := u8 p 3, stream := u8 p 4, rate := u8 p 5 } ∧ u8 p 5 ≠ 0 ∧ trunkCharge (u8 p 5) = some c ∧
      Tbl.get? a.lat.sends n = none ∧ Tbl.has a.lat.sends (fun j x => j != n && x.link = u8 p 3 && x.stream = u8 p 4) = false ∧
      a.bundleStream (u8 p 3) (u8 p 4) false 65536 = false) ∧
    (∃ (rq : Request) (s : State) (a : State) (p : List Byte) (n : _) (m : TrunkMap), Served 0x100A rq s a ∧ rq.payload = p ∧
      p.length = 8 ∧ u8 p 2 = 1 ∧ n = u16 p 0 - 0x600 ∧ isTrunkSource (u16 p 0) = true ∧ u16 p 6 = 0 ∧ u8 p 3 ≤ 63 ∧
      m = { link := u8 p 3, stream := u8 p 4, rate := 0 } ∧ u8 p 5 = 0 ∧ Tbl.get? a.lat.receives n = none ∧
      Tbl.has a.lat.receives (fun j x => j != n && x.link = u8 p 3 && x.stream = u8 p 4) = false ∧
      a.bundleStream (u8 p 3) (u8 p 4) true 65536 = false) ∧
    (∃ (rq : Request) (s : State) (a : State) (p : List Byte), Served 0x100A rq s a ∧ rq.payload = p ∧ p.length = 8 ∧
      u8 p 2 = 0 ∧ isTrunkDest (u16 p 0) = true ∧ u16 p 6 = 0 ∧ u8 p 3 = 0xFF ∧ a.trunkNamed (u16 p 0) false = false) := by
  refine ⟨?_, ?_, ?_⟩
  · refine ⟨req [0, 5, 0, 63, 7, 1, 0, 0], svc, _, _, _, _, _, ⟨?_, rfl⟩, rfl, ?_, ?_, rfl, ?_, ?_, ?_, rfl, ?_, rfl, ?_, ?_, ?_⟩
    all_goals decide +kernel
  · refine ⟨req [255, 7, 1, 63, 255, 0, 0, 0], svc, _, _, _, _, ⟨?_, rfl⟩, rfl, ?_, ?_, rfl, ?_, ?_, ?_, rfl, ?_, ?_, ?_, ?_⟩
    all_goals decide +kernel
  · refine ⟨req [0, 5, 0, 255, 0, 0, 0, 0], svc, _, _, ⟨?_, rfl⟩, rfl, ?_, ?_, ?_, ?_, ?_, ?_⟩
    all_goals decide +kernel

/-- The hypotheses of every clause of LockupTakesItsCourse can be met together. -/
theorem witness_LockupTakesItsCourse :
    (∃ (id : Nat) (at_ : Nat) (s : State) (f : _) (t : _), (s.advance at_).forme id = some f ∧ f.t = some t ∧
      f.state = .closed ∧ f.prepared = false) ∧
    (∃ (id : Nat) (at_ : Nat) (s : State) (f : _) (t : _) (p : _), (s.advance at_).forme id = some f ∧ f.t = some t ∧
      f.state = .opened ∧ framePeriod f.rate = some p ∧ t + p ≤ f.origT + 1000000000 ∧
      (s.advance at_).spacingBad f.id (t + p) = false) ∧
    (∃ (id : Nat) (at_ : Nat) (s : State) (f : _), (s.advance at_).forme id = some f ∧ f.state = .shadow) ∧
    (∃ (d : Nat) (at_ : Nat) (s : State) (f : _) (e : _), (s.advance at_).lockingFor d = some f ∧ (s.dest d).next = some e ∧
      (s.dest d).route = none) ∧
    (∃ (d : Nat) (at_ : Nat) (s : State) (r : _), (s.advance at_).lockingFor d = none ∧ (s.dest d).route = some r ∧
      r.notBefore ≤ (s.advance at_).now ∧ (r.afterNext = false ∨ (s.dest d).next = none)) ∧
    (∃ (d : Nat) (at_ : Nat) (s : State) (r : _), (s.advance at_).lockingFor d = none ∧ (s.dest d).route = some r ∧
      r.afterNext = true ∧ (s.dest d).next ≠ none) ∧
    (∃ (at_ : Nat) (s : State) (d : _), s.lat.keepDue = some d ∧ d ≤ (s.advance at_).now ∧ s.boot.driversOff = false ∧
      s.lat.completing = []) ∧
    (∃ (lane : Nat) (s : State), (s.lane lane).rx.locked = true) ∧
    (∃ (d : Nat) (at_ : Nat) (s : State) (s0 : State) (s1 : State) (f : _), s0 = s.advance at_ ∧
      s1 = (if isSdi d then s0.onDest d (fun x => { x with embed := s0.embedGroups d, embedSamples := frameSamples ((s0.lane d).txFormat % 16) s0.now }) else s0) ∧
      (s1.dest d).skipDue = false ∧ (s1.dest d).plane = 2 ∧
      s1.sourceReason (s1.dest d).current.source (s1.dest d).restoreWait = 0 ∧ s1.frameFor (s1.dest d).current.source = some f) ∧
    (∃ (d : Nat) (at_ : Nat) (s : State) (s0 : State) (s1 : State), s0 = s.advance at_ ∧
      s1 = (if isSdi d then s0.onDest d (fun x => { x with embed := s0.embedGroups d, embedSamples := frameSamples ((s0.lane d).txFormat % 16) s0.now }) else s0) ∧
      (s1.dest d).skipDue = false ∧ (s1.dest d).plane = 2 ∧
      s1.sourceReason (s1.dest d).current.source (s1.dest d).restoreWait ≠ 0) := by
  refine ⟨?_, ?_, ?_, ?_, ?_, ?_, ?_, ?_, ?_, ?_⟩
  · refine ⟨5, 1000, svc.onLat (fun l => { l with pending := [{ id := 5, state := .closed, t := some 3000 }] }), _, _, rfl, rfl, ?_, ?_⟩
    all_goals decide +kernel
  · refine ⟨5, 1000, svc.onLat (fun l => { l with pending := [{ id := 5, t := some 3000, origT := 3000 }] }), _, _, _, rfl, rfl, ?_, rfl, ?_, ?_⟩
    all_goals decide +kernel
  · refine ⟨5, 1000, svc.onLat (fun l => { l with pending := [{ id := 5, state := .shadow, t := some 3000 }] }), _, rfl, ?_⟩
    all_goals decide +kernel
  · refine ⟨2047, 3000, lock5, _, _, rfl, rfl, ?_⟩
    all_goals decide +kernel
  · refine ⟨0, 3000, svc.onDest 0 (fun x => { x with route := some { notBefore := 3000 } }), _, ?_, rfl, ?_, ?_⟩
    all_goals decide +kernel
  · refine ⟨0, 3000, svc.onDest 0 (fun x => { x with next := some { source := 1 }, route := some { afterNext := true } }), _, ?_, rfl, ?_, ?_⟩
    all_goals decide +kernel
  · refine ⟨7, svc.onLat (fun l => { l with keepDue := some 7 }), _, rfl, ?_, ?_, ?_⟩
    all_goals decide +kernel
  · refine ⟨255, svc.onLane 255 (fun l => { l with rx := { l.rx with locked := true } }), ?_⟩
    all_goals decide +kernel
  · refine ⟨0, 12000, store7, _, _, _, rfl, rfl, ?_, ?_, ?_, rfl⟩
    all_goals decide +kernel
  · refine ⟨0, 12000, svc.onDest 0 (fun x => { x with plane := 2, current := { source := 7, plane := 2 } }), _, _, rfl, rfl, ?_, ?_, ?_⟩
    all_goals decide +kernel

/-- The hypotheses of every clause of LaneSettingsAreWritten can be met together. -/
theorem witness_LaneSettingsAreWritten :
    (∃ (rq : Request) (s : State) (a : State) (p : List Byte), Served 0x2001 rq s a ∧ rq.payload = p ∧ p.length = 8 ∧
      u16 p 2 ≠ 0 ∧ u16 p 0 + u16 p 2 ≤ 256 ∧ u8 p 4 ≤ 3 ∧ u8 p 5 ≤ 1 ∧ u16 p 6 = 0 ∧ a.lanes.inUse ≠ none ∧
      ((∀ n ∈ laneRange (u16 p 0) (u16 p 2), (a.lane n).rxBond = 0 ∧ (a.lane n).txBond = 0 ∧
      (u8 p 5 = 1 ∨ a.carriesLink n = false)))) ∧
    (∃ (rq : Request) (s : State) (a : State) (p : List Byte), Served 0x2001 rq s a ∧ rq.payload = p ∧ p.length = 8 ∧
      u16 p 2 ≠ 0 ∧ u16 p 0 + u16 p 2 ≤ 256 ∧ u8 p 4 ≤ 3 ∧ u8 p 5 ≤ 1 ∧ u16 p 6 = 0 ∧ a.lanes.inUse ≠ none ∧
      ((∀ n ∈ laneRange (u16 p 0) (u16 p 2), (a.lane n).rxBond = 0 ∧ (a.lane n).txBond = 0 ∧
      (u8 p 5 = 1 ∨ a.carriesLink n = false)))) ∧
    (∃ (r : LaneRole) (n : _) (s : State) (k : _), r ≠ .voxad ∧ (s.lane n).role = .none ∧
      r.classes.find? (fun k => s.classValid n k) = some k) ∧
    (∃ (n : Nat) (c : _) (s : State), formatClass (s.lane n).txFormat (s.lane n).txCarriage = some c) ∧
    (∃ (rq : Request) (s : State) (a : State) (p : List Byte) (n : _), Served 0x2002 rq s a ∧ rq.payload = p ∧ p.length = 8 ∧
      n = u16 p 0 ∧ n ≤ 255 ∧ u8 p 2 ≤ 31 ∧ u8 p 3 ≤ 1 ∧ u8 p 4 ≤ 1 ∧ fld p 5 3 = 0 ∧ (a.lane n).role = .sdi ∧
      ((a.lane n).rx.locked = false ∨ (u8 p 3 = 1 ∧ bit (u8 p 2) (a.lane n).rx.rateClass = true))) ∧
    (∃ (rq : Request) (s : State) (a : State) (p : List Byte) (n : _) (k : _), Served 0x2003 rq s a ∧ rq.payload = p ∧
      p.length = 12 ∧ n = u16 p 0 ∧ n ≤ 255 ∧ u8 p 4 ≤ 2 ∧ u8 p 5 ≤ 2 ∧ u16 p 6 = 0 ∧ formatClass (u8 p 2) (u8 p 3) = some k ∧
      -41708332 ≤ s32 p 8 ∧ s32 p 8 ≤ 41708332 ∧ (a.lane n).role = .sdi ∧
      linksOf (u8 p 3) = (if (a.lane n).txBond = 0 then 1 else (a.lane n).txBond) ∧
      (k = 0 ∨ ratePulled (u8 p 2 % 16) = a.octantFamily (n / 8))) ∧
    (∃ (rq : Request) (s : State) (a : State) (p : List Byte), Served 0x2004 rq s a ∧ rq.payload = p ∧ p.length = 4 ∧
      u8 p 0 ≤ 31 ∧ u8 p 1 ≤ 1 ∧ u16 p 2 = 0 ∧ (∀ n ∈ laneRange (8 * u8 p 0) 8, (a.lane n).fastOutput = false)) ∧
    (∃ (rq : Request) (s : State) (a : State) (p : List Byte) (n : _), Served 0x2004 rq s a ∧ rq.payload = p ∧ p.length = 4 ∧
      u8 p 0 ≤ 31 ∧ u8 p 1 ≤ 1 ∧ u16 p 2 = 0 ∧ n ∈ laneRange (8 * u8 p 0) 8 ∧ (a.lane n).fastOutput = true) ∧
    (∃ (rq : Request) (s : State) (a : State) (p : List Byte) (n : _) (k : Nat), Served 0x2005 rq s a ∧ rq.payload = p ∧
      p.length = 4 ∧ n = u16 p 0 ∧ k = u8 p 3 ∧ n ≤ 255 ∧ u8 p 2 = 1 ∧ ((k = 2 ∧ n % 2 = 0) ∨ (k = 4 ∧ n % 4 = 0)) ∧
      (∀ i ∈ laneRange n k, (a.lane i).role = .sdi ∧ (a.lane i).txBond = 0)) ∧
    (∃ (rq : Request) (s : State) (a : State) (p : List Byte) (n : _) (k : Nat), Served 0x2005 rq s a ∧ rq.payload = p ∧
      p.length = 4 ∧ n = u16 p 0 ∧ k = u8 p 3 ∧ n ≤ 255 ∧ u8 p 2 = 1 ∧ ((k = 2 ∧ n % 2 = 0) ∨ (k = 4 ∧ n % 4 = 0)) ∧
      (∀ i ∈ laneRange n k, (a.lane i).role = .sdi ∧ (a.lane i).txBond = 0)) ∧
    (∃ (rq : Request) (s : State) (a : State) (p : List Byte) (n : _), Served 0x2006 rq s a ∧ rq.payload = p ∧ n = u16 p 0 ∧
      n ≤ 255 ∧ u8 p 2 ≤ 8 ∧ u8 p 3 = 0 ∧ p.length = 4 + 2 * u8 p 2 ∧ (a.lane n).role = .sdi) := by
  refine ⟨?_, ?_, ?_, ?_, ?_, ?_, ?_, ?_, ?_, ?_, ?_⟩
  · refine ⟨req [255, 0, 1, 0, 3, 0, 0, 0], tabled 0 0, _, _, ⟨?_, rfl⟩, rfl, ?_, ?_, ?_, ?_, ?_, ?_, ?_, ?_⟩
    all_goals decide +kernel
  · refine ⟨req [0, 0, 0, 1, 1, 1, 0, 0], tabled 0 0, _, _, ⟨?_, rfl⟩, rfl, ?_, ?_, ?_, ?_, ?_, ?_, ?_, ?_⟩
    all_goals decide +kernel
  · refine ⟨.sdi, 255, tabled 255 4, _, ?_, ?_, rfl⟩
    all_goals decide +kernel
  · exact ⟨255, _, svc.onLane 255 (fun l => { l with txFormat := 0x14 }), rfl⟩
  · refine ⟨req [255, 0, 31, 1, 1, 0, 0, 0], sdi [255], _, _, _, ⟨?_, rfl⟩, rfl, ?_, rfl, ?_, ?_, ?_, ?_, ?_, ?_, ?_⟩
    all_goals decide +kernel
  · refine ⟨req [255, 0, 0x14, 0, 2, 2, 0, 0, 0, 0, 0, 0], sdi [255], _, _, _, _, ⟨?_, rfl⟩, rfl, ?_, rfl, ?_, ?_, ?_, ?_, rfl, ?_, ?_, ?_, ?_, ?_⟩
    all_goals decide +kernel
  · refine ⟨req [31, 1, 0, 0], svc, _, _, ⟨?_, rfl⟩, rfl, ?_, ?_, ?_, ?_, ?_⟩
    all_goals decide +kernel
  · refine ⟨req [31, 1, 0, 0], svc.onLane 255 (fun l => { l with role := .sdi, txFormat := 0x33, txMode := 1 }), _, _, 255, ⟨?_, rfl⟩, rfl, ?_, ?_, ?_, ?_, ?_, ?_⟩
    all_goals decide +kernel
  · refine ⟨req [252, 0, 1, 4], sdi [252, 253, 254, 255], _, _, _, _, ⟨?_, rfl⟩, rfl, ?_, rfl, rfl, ?_, ?_, ?_, ?_⟩
    all_goals decide +kernel
  · refine ⟨req [254, 0, 1, 2], sdi [254, 255], _, _, _, _, ⟨?_, rfl⟩, rfl, ?_, rfl, rfl, ?_, ?_, ?_, ?_⟩
    all_goals decide +kernel
  · refine ⟨req ([255, 0, 8, 0] ++ zeros 16), sdi [255], _, _, _, ⟨?_, rfl⟩, rfl, rfl, ?_, ?_, ?_, ?_, ?_⟩
    all_goals decide +kernel

/-- The hypotheses of every clause of LaneTableIsCommitted can be met together. -/
theorem witness_LaneTableIsCommitted :
    (∃ (rq : Request) (s : State) (a : State) (p : List Byte), Served 0x2007 rq s a ∧ rq.payload = p ∧ 1 ≤ u16 p 4 ∧
      u16 p 4 ≤ 4000 ∧ u32 p 0 + u16 p 4 ≤ 20512 ∧ p.length = 8 + u16 p 4 ∧ u16 p 6 = 0) ∧
    (∃ (rq : Request) (s a : State) (p : List Byte), Served 0x2008 rq s a ∧ rq.payload = p ∧ p.length = 4 ∧
      a.lanes.commit = none ∧ tableOk a.lanes.staging = true ∧ u32 p 0 = fld (Memory.readN a.lanes.staging 28 4) 0 4) ∧
    (∃ (s : State) (h : _), s.lanes.commit = some h) ∧
    (∃ (s : State) (h : _), s.lanes.commit = some h) := by
  refine ⟨?_, ?_, ?_, ?_⟩
  · refine ⟨req [31, 80, 0, 0, 1, 0, 0, 0, 7], svc, _, _, ⟨?_, rfl⟩, rfl, ?_, ?_, ?_, ?_, ?_⟩
    all_goals decide +kernel
  · obtain ⟨c, h⟩ : ∃ c, crc32c (zeros 20480) = c := ⟨_, rfl⟩
    exact ⟨req (leBytes 4 c), svc.onLanes (fun l => { l with staging := tableFor c }), _, _,
      ⟨by with_unfolding_all rfl, rfl⟩, rfl, rfl, rfl, tableFor_ok h, congrArg (fld · 0 4) (tableFor_crcField _).symm⟩
  · exact ⟨svc.onLanes (fun l => { l with commit := some {} }), _, rfl⟩
  · exact ⟨svc.onLanes (fun l => { l with commit := some {} }), _, rfl⟩

/-- The hypotheses of every clause of LanesAndReceiversReport can be met together. -/
theorem witness_LanesAndReceiversReport :
    (∃ (rq : Request) (s : State) (a : State) (t : _), Served 0x2009 rq s a ∧ rq.payload = [] ∧ a.lanes.inUse = some t) ∧
    (∃ (rq : Request) (s : State) (a : State) (p : List Byte), Served 0x200A rq s a ∧ rq.payload = p ∧ p.length = 4 ∧
      u16 p 2 ≠ 0 ∧ u16 p 0 + u16 p 2 ≤ 256) ∧
    (∃ (rq : Request) (s : State) (a : State) (p : List Byte), Served 0x200B rq s a ∧ rq.payload = p ∧ p.length = 4 ∧
      u16 p 2 ≠ 0 ∧ u16 p 2 ≤ 127 ∧ u16 p 0 + u16 p 2 ≤ 256) ∧
    (∃ (lane : Nat) (k : Nat) (s : State), (s.lane lane).rx.locked = false ∧ s.mayLock lane k = true ∧
      (s.lane lane).rxBond = 0) ∧
    (∃ (lane : Nat) (cause : Nat) (s : State), (s.lane lane).rx.locked = true ∧ (s.lane lane).rxBond = 0 ∧ cause ≠ 3) ∧
    (∃ (lane : Nat) (s : State), (s.lane lane).rx.locked = true ∧ (s.lane lane).rxBond = 0) ∧
    (∃ (lane : Nat) (s : State), (s.lane lane).rx.locked = false) ∧
    (∃ (lane : Nat) (format : Nat) (carriage : Nat) (s : State), (s.lane lane).rx.locked = true ∧
      (s.lane lane).rx.format ≠ format ∧ (format = 0 ∨ formatClass format (carriage % 4) = some (s.lane lane).rx.rateClass)) ∧
    (∃ (lane : Nat) (format : Nat) (carriage : Nat) (s : State), (s.lane lane).rx.locked = true ∧
      (s.lane lane).rx.format ≠ format ∧ (format = 0 ∨ formatClass format (carriage % 4) = some (s.lane lane).rx.rateClass)) ∧
    (∃ (lane : Nat) (format : Nat) (s : State), (s.lane lane).rx.locked = true ∧ (s.lane lane).rx.pidMismatch = false ∧
      format ≠ (s.lane lane).rx.format) ∧
    (∃ (lane : Nat) (skew : Nat) (s : State), (s.lane lane).rxBond ≠ 0 ∧ (s.lane lane).rxBondFirst = lane ∧
      (s.lane lane).rx.bondOk = true ∧ 128 < skew) := by
  refine ⟨?_, ?_, ?_, ?_, ?_, ?_, ?_, ?_, ?_, ?_, ?_⟩
  · refine ⟨req [], tabled 0 0, _, _, ⟨?_, rfl⟩, ?_, rfl⟩
    all_goals decide +kernel
  · refine ⟨req [255, 0, 1, 0], svc, _, _, ⟨?_, rfl⟩, rfl, ?_, ?_, ?_⟩
    all_goals decide +kernel
  · refine ⟨req [129, 0, 127, 0], svc, _, _, ⟨?_, rfl⟩, rfl, ?_, ?_, ?_, ?_⟩
    all_goals decide +kernel
  · refine ⟨255, 4, (tabled 255 4).onLane 255 (fun l => { l with role := .sdi }), ?_, ?_, ?_⟩
    all_goals decide +kernel
  · refine ⟨255, 4, locked255, ?_, ?_, ?_⟩
    all_goals decide +kernel
  · refine ⟨255, locked255, ?_, ?_⟩
    all_goals decide +kernel
  · refine ⟨0, svc, ?_⟩
    all_goals decide +kernel
  · refine ⟨255, 0x34, 0, locked255, ?_, ?_, ?_⟩
    all_goals decide +kernel
  · refine ⟨255, 0, 0, locked255, ?_, ?_, ?_⟩
    all_goals decide +kernel
  · refine ⟨255, 0x34, locked255, ?_, ?_, ?_⟩
    all_goals decide +kernel
  · refine ⟨0, 129, svc.onLane 0 (fun l => { l with rxBond := 2, rx := { l.rx with bondOk := true } }), ?_, ?_, ?_, ?_⟩
    all_goals decide +kernel

/-- The hypotheses of every clause of MacSettingsAreWritten can be met together. -/
theorem witness_MacSettingsAreWritten :
    (∃ (rq : Request) (s : State) (a : State) (p : List Byte) (n : _), Served 0x4001 rq s a ∧ rq.payload = p ∧ p.length = 20 ∧
      n = u8 p 0 ∧ n ≤ 63 ∧ u8 p 1 ≤ 2 ∧ u16 p 2 ≤ 255 ∧ u8 p 4 ≤ 7 ∧ 1518 ≤ u16 p 6 ∧ u16 p 6 ≤ 9216 ∧ u16 p 14 = 0 ∧
      u8 p 16 ≤ 3 ∧ fld p 17 3 = 0 ∧ u8 p 1 = 2 ∧ u16 p 2 % 4 = 0 ∧ a.macUsed n = false ∧
      (∀ l ∈ macLanesOf (u8 p 1) (u16 p 2), (a.lane l).role = .eth) ∧
      Tbl.has a.eth.macs (fun k m => k != n && m.lanes.any (macLanesOf (u8 p 1) (u16 p 2)).contains) = false ∧
      (a.mac n).mode ≠ .r100) ∧
    (∃ (rq : Request) (s : State) (a : State) (p : List Byte), Served 0x4002 rq s a ∧ rq.payload = p ∧ u8 p 0 ≤ 63 ∧
      u8 p 1 ≤ 16 ∧ p.length = 4 + 8 * u8 p 1 ∧ u8 p 2 ≤ 7 ∧ u8 p 3 = 0 ∧ (∀ r ∈ records p 4 8 (u8 p 1), u16 r 6 = 0)) ∧
    (∃ (rq : Request) (s : State) (a : State) (p : List Byte), Served 0x4003 rq s a ∧ rq.payload = p ∧ p.length = 4 ∧
      u8 p 0 ≤ 63 ∧ fld p 1 3 = 0) ∧
    (∃ (rq : Request) (s : State) (a : State) (p : List Byte), Served 0x400E rq s a ∧ rq.payload = p ∧ p.length = 8 ∧
      u8 p 0 ≤ 1 ∧ u8 p 1 ≤ 63 ∧ (a.mac (u8 p 1)).mode ≠ .off ∧ u8 p 2 ≤ 1 ∧ u8 p 3 = 0) := by
  refine ⟨?_, ?_, ?_, ?_⟩
  · refine ⟨req [63, 2, 252, 0, 7, 0, 238, 5, 0, 0, 0, 0, 0, 0, 0, 0, 3, 0, 0, 0], each [252, 253, 254, 255] (fun n s => s.onLane n (fun l => { l with role := .eth })) svc, _, _, _, ⟨?_, rfl⟩, rfl, ?_, rfl, ?_, ?_, ?_, ?_, ?_, ?_, ?_, ?_, ?_, ?_, ?_, ?_, ?_, ?_, ?_⟩
    all_goals decide +kernel
  · refine ⟨req ([63, 16, 7, 0] ++ zeros 128), svc, _, _, ⟨?_, rfl⟩, rfl, ?_, ?_, ?_, ?_, ?_, ?_⟩
    all_goals decide +kernel
  · refine ⟨req [63, 0, 0, 0], svc, _, _, ⟨?_, rfl⟩, rfl, ?_, ?_, ?_⟩
    all_goals decide +kernel
  · refine ⟨req [1, 0, 1, 0, 0, 0, 0, 0], mac0, _, _, ⟨?_, rfl⟩, rfl, ?_, ?_, ?_, ?_, ?_, ?_⟩
    all_goals decide +kernel

/-- The hypotheses of every clause of ClassifierBanksAreKept can be met together. -/
theorem witness_ClassifierBanksAreKept :
    (∃ (rq : Request) (s : State) (a : State) (p : List Byte) (e : _) (k : _), Served 0x4004 rq s a ∧ rq.payload = p ∧
      p.length = 28 ∧ clsOk p = true ∧ u8 p 24 = 0 ∧ fld p 25 3 = 0 ∧ e = parseCls p ∧ a.eth.rebuild = false ∧
      findWay a.eth.standing e = none ∧ freeWay a.eth.standing e = some k) ∧
    (∃ (rq : Request) (s : State) (a : State) (p : List Byte) (e : _), Served 0x4004 rq s a ∧ rq.payload = p ∧ p.length = 28 ∧
      clsOk p = true ∧ u8 p 24 = 0 ∧ fld p 25 3 = 0 ∧ e = parseCls p ∧ a.eth.rebuild = false ∧ findWay a.eth.standing e = none ∧
      freeWay a.eth.standing e = none) ∧
    (∃ (rq : Request) (s : State) (a : State) (p : List Byte), Served 0x4004 rq s a ∧ rq.payload = p ∧ p.length = 28 ∧
      clsOk p = true ∧ u8 p 24 = 0 ∧ fld p 25 3 = 0 ∧ a.eth.rebuild = true) ∧
    (∃ (rq : Request) (s : State) (a : State) (p : List Byte), Served 0x4005 rq s a ∧ rq.payload = p ∧ p.length = 4 ∧
      u8 p 0 ≤ 1 ∧ fld p 1 3 = 0 ∧ a.eth.rebuild = false) ∧
    (∃ (rq : Request) (s : State) (a : State) (p : List Byte) (b : _), Served 0x4006 rq s a ∧ rq.payload = p ∧ 1 ≤ u16 p 0 ∧
      u16 p 0 ≤ 170 ∧ p.length = 4 + 24 * u16 p 0 ∧ u16 p 2 = 0 ∧ (records p 4 24 (u16 p 0)).all clsOk = true ∧
      a.eth.rebuild = true ∧ addAll a.now ((records p 4 24 (u16 p 0)).map parseCls) a.eth.shadow = (0, b)) ∧
    (∃ (rq : Request) (s : State) (a : State) (p : List Byte), Served 0x4007 rq s a ∧ rq.payload = p ∧ p.length = 4 ∧
      u8 p 0 = 0 ∧ fld p 1 3 = 0 ∧ a.eth.rebuild = true) ∧
    (∃ (rq : Request) (s : State) (a : State) (p : List Byte), Served 0x4007 rq s a ∧ rq.payload = p ∧ p.length = 4 ∧
      u8 p 0 = 1 ∧ fld p 1 3 = 0 ∧ a.eth.rebuild = true) ∧
    (∃ (rq : Request) (s : State) (a : State) (p : List Byte), Served 0x4008 rq s a ∧ rq.payload = p ∧ p.length = 4 ∧
      u8 p 0 ≤ 1 ∧ u8 p 1 = 0 ∧ u16 p 2 ≤ 511) ∧
    (∃ (set : Nat) (way : Nat) (at_ : Nat) (s : State) (e : _), (Tbl.at s.eth.standing (8 * set + way) {}).entry = some e ∧
      e.ageLimit ≠ 0 ∧ (Tbl.at s.eth.standing (8 * set + way) {}).lastHit + e.ageLimit * 10000000 ≤ (s.advance at_).now) := by
  refine ⟨?_, ?_, ?_, ?_, ?_, ?_, ?_, ?_, ?_⟩
  · refine ⟨req entry28, svc, _, _, _, _, ⟨?_, rfl⟩, rfl, ?_, ?_, ?_, ?_, rfl, ?_, ?_, rfl⟩
    all_goals decide +kernel
  · refine ⟨req entry28, svc.onEth (fun e => { e with standing := (waysOf { mac := 255 }).map (fun k => (k, { entry := some { dstIp := 1 } })) }), _, _, _, ⟨?_, rfl⟩, rfl, ?_, ?_, ?_, ?_, rfl, ?_, ?_, ?_⟩
    all_goals decide +kernel
  · refine ⟨req entry28, rebuilding, _, _, ⟨?_, rfl⟩, rfl, ?_, ?_, ?_, ?_, ?_⟩
    all_goals decide +kernel
  · refine ⟨req [1, 0, 0, 0], svc, _, _, ⟨?_, rfl⟩, rfl, ?_, ?_, ?_, ?_⟩
    all_goals decide +kernel
  · refine ⟨req ([1, 0, 0, 0] ++ entry28.take 24), rebuilding, _, _, _, ⟨?_, rfl⟩, rfl, ?_, ?_, ?_, ?_, ?_, ?_, rfl⟩
    all_goals decide +kernel
  · refine ⟨req [0, 0, 0, 0], rebuilding, _, _, ⟨?_, rfl⟩, rfl, ?_, ?_, ?_, ?_⟩
    all_goals decide +kernel
  · refine ⟨req [1, 0, 0, 0], rebuilding, _, _, ⟨?_, rfl⟩, rfl, ?_, ?_, ?_, ?_⟩
    all_goals decide +kernel
  · refine ⟨req [1, 0, 255, 1], svc, _, _, ⟨?_, rfl⟩, rfl, ?_, ?_, ?_, ?_⟩
    all_goals decide +kernel
  · refine ⟨511, 7, 10000000, svc.onEth (fun e => { e with standing := [(4095, { entry := some { ageLimit := 1 } })] }), _, rfl, ?_, ?_⟩
    all_goals decide +kernel

/-- The hypotheses of every clause of FlowsAreConfigured can be met together. -/
theorem witness_FlowsAreConfigured :
    (∃ (rq : Request) (s : State) (a : State) (p : List Byte) (n : _), Served 0x4009 rq s a ∧ rq.payload = p ∧ p.length = 20 ∧
      n = u16 p 0 ∧ n ≤ 1023 ∧ u8 p 2 = 1 ∧ formatKnown (u8 p 3) = true ∧ u8 p 4 = 0 ∧ u8 p 5 ≤ 1 ∧ u16 p 6 = 0xFFFF ∧
      u32 p 12 ≤ 20000 ∧ u8 p 17 ≤ 3 ∧ u16 p 18 = 0) ∧
    (∃ (rq : Request) (s : State) (a : State) (p : List Byte) (n : _), Served 0x400A rq s a ∧ rq.payload = p ∧ p.length = 64 ∧
      n = u16 p 0 ∧ n ≤ 1023 ∧ u8 p 2 = 2 ∧ 1 ≤ u8 p 3 ∧ u8 p 3 ≤ 64 ∧ u8 p 4 = 1 ∧ 96 ≤ u8 p 5 ∧ u8 p 5 ≤ 127 ∧ u8 p 6 ≤ 1 ∧
      u8 p 7 ≤ 3 ∧ pathOk true (p.drop 16) = true ∧ pathOk false (p.drop 40) = true ∧
      (a.mac (parsePath (p.drop 16)).mac).mode ≠ .off ∧ (a.txFlow n).running = true ∧ a.txIdle n = false) ∧
    (∃ (rq : Request) (s : State) (a : State) (p : List Byte), Served 0x400B rq s a ∧ rq.payload = p ∧ p.length = 4 ∧
      u8 p 0 ≤ 1 ∧ u8 p 1 = 0 ∧ u16 p 2 ≤ 1023) ∧
    (∃ (n : Nat) (s : State), (s.rxFlow n).cfg.kind ≠ 0 ∧ (s.rxFlow n).lost = false ∧ (s.rxFlow n).staged = none) ∧
    (∃ (n : Nat) (s : State), (s.rxFlow n).lost = true) := by
  refine ⟨?_, ?_, ?_, ?_, ?_⟩
  · refine ⟨req [255, 3, 1, 0x14, 0, 1, 255, 255, 1, 0, 0, 0, 32, 78, 0, 0, 0, 3, 0, 0], svc, _, _, _, ⟨?_, rfl⟩, rfl, ?_, rfl, ?_, ?_, ?_, ?_, ?_, ?_, ?_, ?_, ?_⟩
    all_goals decide +kernel
  · refine ⟨req ([255, 3, 2, 64, 1, 127, 1, 3] ++ zeros 56), mac0.onTx 1023 (fun f => { f with running := true }), _, _, _, ⟨?_, rfl⟩, rfl, ?_, rfl, ?_, ?_, ?_, ?_, ?_, ?_, ?_, ?_, ?_, ?_, ?_, ?_, ?_, ?_⟩
    all_goals decide +kernel
  · refine ⟨req [1, 0, 255, 3], svc, _, _, ⟨?_, rfl⟩, rfl, ?_, ?_, ?_, ?_⟩
    all_goals decide +kernel
  · refine ⟨1023, svc.onRx 1023 (fun f => { f with cfg := { f.cfg with kind := 1 } }), ?_, ?_, ?_⟩
    all_goals decide +kernel
  · refine ⟨1023, svc.onRx 1023 (fun f => { f with lost := true }), ?_⟩
    all_goals decide +kernel

/-- The hypotheses of every clause of FramesLeaveAndArrive can be met together. -/
theorem witness_FramesLeaveAndArrive :
    (∃ (rq : Request) (s : State) (a : State) (p : List Byte), Served 0x400C rq s a ∧ rq.payload = p ∧ u8 p 0 ≤ 63 ∧
      u8 p 1 = 0 ∧ 14 ≤ u16 p 2 ∧ u16 p 2 ≤ 2044 ∧ p.length = 16 + u16 p 2 ∧ u32 p 12 < 1000000000 ∧
      (a.mac (u8 p 0)).mode ≠ .off ∧ (a.mac (u8 p 0)).linkUp = true ∧ timeAt p 4 12 = 0 ∧ a.twin.role ≠ .standby ∧
      a.paused (u8 p 0) (framePrio (p.drop 16)) = false) ∧
    (∃ (rq : Request) (s : State) (a : State) (p : List Byte), Served 0x400C rq s a ∧ rq.payload = p ∧ u8 p 0 ≤ 63 ∧
      u8 p 1 = 0 ∧ 14 ≤ u16 p 2 ∧ u16 p 2 ≤ 2044 ∧ p.length = 16 + u16 p 2 ∧ u32 p 12 < 1000000000 ∧
      (a.mac (u8 p 0)).mode ≠ .off ∧ (a.mac (u8 p 0)).linkUp = true ∧ a.now + 50000 ≤ timeAt p 4 12 ∧ timeAt p 4 12 ≠ 0) ∧
    (∃ (rq : Request) (s : State) (a : State) (p : List Byte) (l : _), Served 0x400D rq s a ∧ rq.payload = p ∧ p.length = 4 ∧
      1 ≤ u8 p 0 ∧ u8 p 0 ≤ 2 ∧ fld p 1 3 = 0 ∧ l = takeFrames (u8 p 0) 4092 a.eth.exceptions) ∧
    (∃ (n : Nat) (due : Nat) (at_ : Nat) (s : State) (l : _), (s.mac n).launches.find? (fun l => l.due = due) = some l ∧
      (s.mac n).linkUp = true ∧ s.twin.role ≠ .standby ∧ (s.advance at_).paused n (framePrio l.frame) = false) ∧
    (∃ (rq : Request) (s : State) (a : State) (p : List Byte) (h : HeldFrame), Served 0x400C rq s a ∧ rq.payload = p ∧
      u8 p 0 ≤ 63 ∧ u8 p 1 = 0 ∧ 14 ≤ u16 p 2 ∧ u16 p 2 ≤ 2044 ∧ p.length = 16 + u16 p 2 ∧ u32 p 12 < 1000000000 ∧
      (a.mac (u8 p 0)).mode ≠ .off ∧ (a.mac (u8 p 0)).linkUp = true ∧ timeAt p 4 12 = 0 ∧ a.twin.role ≠ .standby ∧
      a.paused (u8 p 0) (framePrio (p.drop 16)) = true ∧
      h = ({ prio := framePrio (p.drop 16), due := a.now, frame := p.drop 16, flow := none, handle := none } : HeldFrame)) ∧
    (∃ (n : Nat) (at_ : Nat) (s : State) (u : _) (k : _), (s.txFlow n).cfg.kind = 2 ∧ (s.txFlow n).cfg.enable = true ∧
      (s.txFlow n).staged = none ∧ s.txIdle n = false ∧ s.group 1 = .run ∧ s.power.state = .run ∧
      (s.advance at_).nextPacket n = (u, k) ∧ (s.txFlow n).cfg.startOf ((s.advance at_).senderRate n) u ≤ (s.advance at_).now) ∧
    (∃ (n : Nat) (frame : List Byte) (s : State), n ≤ 63 ∧ (s.mac n).mode ≠ .off ∧ (s.mac n).linkUp = true ∧
      s.group 1 ≠ .dormant ∧ (s.mac n).frameOk frame = false) ∧
    (∃ (n : Nat) (frame : List Byte) (s : State) (f : _), n ≤ 63 ∧ (s.mac n).mode ≠ .off ∧ (s.mac n).linkUp = true ∧
      s.group 1 ≠ .dormant ∧ (s.mac n).frameOk frame = true ∧ f = frame.take (frame.length - 4) ∧
      fldBe f (vlanOf f).2 2 ≠ 0x8808 ∧ (s.mac n).passes f = true ∧ (parseUdp f) = none) ∧
    (∃ (n : Nat) (s : State), (s.mac n).preempt = true ∧ (s.mac n).linkUp = true) ∧
    (∃ (n : Nat) (s : State), (s.mac n).mode ≠ .off ∧ (s.mac n).linkUp = false ∧
      (∀ l ∈ (s.mac n).lanes, (s.lane l).role = .eth) ∧ s.group 0 ≠ .dormant ∧ s.group 1 ≠ .dormant ∧ s.power.state ≠ .dormant) ∧
    (∃ (n : Nat) (s : State), (s.mac n).linkUp = true) := by
  refine ⟨?_, ?_, ?_, ?_, ?_, ?_, ?_, ?_, ?_, ?_, ?_⟩
  · refine ⟨req ([0, 0, 14, 0] ++ zeros 26), macUp, _, _, ⟨?_, rfl⟩, rfl, ?_, ?_, ?_, ?_, ?_, ?_, ?_, ?_, ?_, ?_, ?_⟩
    all_goals decide +kernel
  · refine ⟨req ([0, 0, 14, 0] ++ zeros 8 ++ leBytes 4 50000 ++ zeros 14), macUp, _, _, ⟨?_, rfl⟩, rfl, ?_, ?_, ?_, ?_, ?_, ?_, ?_, ?_, ?_, ?_⟩
    all_goals decide +kernel
  · refine ⟨req [2, 0, 0, 0], svc.onEth (fun e => { e with exceptions := [{ mac := 3, data := [1, 2] }] }), _, _, _, ⟨?_, rfl⟩, rfl, ?_, ?_, ?_, ?_, rfl⟩
    all_goals decide +kernel
  · refine ⟨0, 5, 9, macUp.onMac 0 (fun m => { m with launches := [{ due := 5, frame := [1] }] }), _, rfl, ?_, ?_, ?_⟩
    all_goals decide +kernel
  · refine ⟨req ([0, 0, 14, 0] ++ zeros 26), macUp.onMac 0 (fun m => { m with pauses := [(0, { until_ := 9 })] }), _, _, _, ⟨?_, rfl⟩, rfl, ?_, ?_, ?_, ?_, ?_, ?_, ?_, ?_, ?_, ?_, ?_, rfl⟩
    all_goals decide +kernel
  · refine ⟨0, 9, macUp.onTx 0 (fun f => { f with cfg := { f.cfg with kind := 2, enable := true } }), _, _, ?_, ?_, ?_, ?_, ?_, ?_, rfl, ?_⟩
    all_goals decide +kernel
  · refine ⟨0, [], macUp, ?_, ?_, ?_, ?_, ?_⟩
    all_goals decide +kernel
  · refine ⟨0, zeros 60 ++ leBytes 4 (crcEth (zeros 60)), macUp, _, ?_, ?_, ?_, ?_, ?_, rfl, ?_, ?_, ?_⟩
    all_goals decide +kernel
  · refine ⟨0, macUp, ?_, ?_⟩
    all_goals decide +kernel
  · refine ⟨0, mac0, ?_, ?_, ?_, ?_, ?_, ?_⟩
    all_goals decide +kernel
  · refine ⟨0, macUp, ?_⟩
    all_goals decide +kernel

/-- The hypotheses of every clause of ReceiversAlign can be met together. -/
theorem witness_ReceiversAlign :
    (∃ (n : Nat) (s : State) (t : _), n < 256 ∧ (s.lane n).role = .voxad ∧ (s.lane n).align = .los ∧
      t = each (s.linksOn n) (fun k s => s.wakeFor k) ((s.onLane n (fun l => { l with signal := true })).onLane n (fun l => { l with align := .comma, commas := 0, headers := 0, badHeaders := [] }))) ∧
    (∃ (n : Nat) (s : State), n < 256 ∧ (s.lane n).role = .voxad ∧ (s.lane n).align ≠ .locked) ∧
    (∃ (n : Nat) (s : State), n < 256 ∧ (s.lane n).role = .voxad ∧ (s.lane n).align = .comma ∧ 1 ≤ (s.lane n).commas) ∧
    (∃ (n : Nat) (seen : HeaderSeen) (s : State), n < 256 ∧ (s.lane n).role = .voxad ∧ (s.lane n).align = .hunt ∧
      31 ≤ (s.lane n).headers ∧ headerValid seen true (((s.lane n).sequence + 1) % 16) = true) ∧
    (∃ (n : Nat) (seen : HeaderSeen) (s : State), n < 256 ∧ (s.lane n).role = .voxad ∧ (s.lane n).align = .locked ∧
      headerValid seen true (((s.lane n).sequence + 1) % 16) = true) ∧
    (∃ (n : Nat) (seen : HeaderSeen) (s : State), n < 256 ∧ (s.lane n).role = .voxad ∧ (s.lane n).align = .locked ∧
      s.linksOn n = [] ∧ headerValid seen true (((s.lane n).sequence + 1) % 16) = false ∧
      8 ≤ (((true :: (s.lane n).badHeaders).take 64).filter (fun b => b)).length) ∧
    (∃ (n : Nat) (s : State), n < 256 ∧ (s.lane n).role = .voxad ∧ (s.lane n).align = .hunt) := by
  refine ⟨?_, ?_, ?_, ?_, ?_, ?_, ?_⟩
  · refine ⟨255, (vox .los).onPower (fun p => { p with octantMask := 0 }), _, ?_, ?_, ?_, rfl⟩
    all_goals decide +kernel
  · refine ⟨255, vox .locked |>.onLane 255 (fun l => { l with align := .hunt }), ?_, ?_, ?_⟩
    all_goals decide +kernel
  · refine ⟨255, vox .comma, ?_, ?_, ?_, ?_⟩
    all_goals decide +kernel
  · refine ⟨255, goodHeader, vox .hunt, ?_, ?_, ?_, ?_, ?_⟩
    all_goals decide +kernel
  · refine ⟨255, goodHeader, vox .locked, ?_, ?_, ?_, ?_⟩
    all_goals decide +kernel
  · refine ⟨255, badHeader, (vox .locked).onLane 255 (fun l => { l with badHeaders := List.replicate 7 true }), ?_, ?_, ?_, ?_, ?_, ?_⟩
    all_goals decide +kernel
  · refine ⟨255, vox .hunt, ?_, ?_, ?_⟩
    all_goals decide +kernel

/-- The hypotheses of every clause of LinksTrain can be met together. -/
theorem witness_LinksTrain :
    (∃ (n : Nat) (s : State), (s.link n).state = .wake) ∧
    (∃ (n : Nat) (s : State), (s.link n).state = .step) ∧
    (∃ (n : Nat) (s : State), (s.link n).state = .train ∧ 6 < (s.link n).rateClass ∧ s.lockedBoth n = false) ∧
    (∃ (n : Nat) (s : State), (s.link n).state = .train ∧ (s.link n).rateClass = 6 ∧ s.lockedBoth n = false) ∧
    (∃ (n : Nat) (s : State), (s.link n).state = .down ∧ (s.link n).cause = 5 ∧ s.lanesAwake = true) ∧
    (∃ (n : Nat) (s : State), (s.link n).state = .down ∧ (s.link n).cause = 9 ∧ s.lanesAwake = true) ∧
    (∃ (n : Nat) (s : State), (s.link n).state = .up) ∧
    (∃ (n : Nat) (m : Nat) (b : List Byte) (s : State), n < 64 ∧ m < widthLanes (s.link n).width ∧ b.length = 60 ∧
      crc32c (b.take 56) = u32 b 56 ∧ (s.link n).state = .train ∧ 6 < (s.link n).rateClass ∧ s.rxLocked n = false ∧
      (parseTrain b).refuse = false) ∧
    (∃ (b : List Byte), b.length = 60 ∧ crc32c (b.take 56) ≠ u32 b 56) := by
  refine ⟨?_, ?_, ?_, ?_, ?_, ?_, ?_, ?_, ?_⟩
  · refine ⟨63, lnk .parent .wake, ?_⟩
    all_goals decide +kernel
  · refine ⟨63, lnk .parent .step, ?_⟩
    all_goals decide +kernel
  · refine ⟨63, (lnk .parent .train).onLink 63 (fun l => { l with rateClass := 9 }), ?_, ?_, ?_⟩
    all_goals decide +kernel
  · refine ⟨63, lnk .parent .train, ?_, ?_, ?_⟩
    all_goals decide +kernel
  · refine ⟨63, (lnk .parent .down).onLink 63 (fun l => { l with cause := 5 }), ?_, ?_, ?_⟩
    all_goals decide +kernel
  · refine ⟨63, (lnk .parent .down).onLink 63 (fun l => { l with cause := 9 }), ?_, ?_, ?_⟩
    all_goals decide +kernel
  · refine ⟨63, lnk .parent .up, ?_⟩
    all_goals decide +kernel
  · refine ⟨63, 0, trainBlock, (lnk .parent .train).onLink 63 (fun l => { l with rateClass := 7 }), ?_, ?_, ?_, ?_, ?_, ?_, ?_, ?_⟩
    all_goals decide +kernel
  · refine ⟨zeros 56 ++ [1, 2, 3, 4], ?_, ?_⟩
    all_goals decide +kernel

/-- The hypotheses of every clause of LinksKeepCredit can be met together. -/
theorem witness_LinksKeepCredit :
    (∃ (n : Nat) (vc : Nat) (s : State), (s.link n).state = .up ∧ 1 ≤ vc ∧ vc ≤ 3) ∧
    (∃ (n : Nat) (vc : Nat) (s : State), (s.link n).state = .up ∧ 1 ≤ vc ∧ vc ≤ 3) ∧
    (∃ (n : Nat) (us : Nat) (s : State), (s.link n).state = .up ∧ us ≠ 0 ∧ (s.link n).honourVc0 = false) ∧
    (∃ (n : Nat) (k : Nat) (s : State), (s.link n).state = .up ∧ 3 < k) ∧
    (∃ (n : Nat) (s : State), (s.link n).state = .up ∧ (s.link n).vc1.returned ≠ (s.link n).vc1.told ∧
      (s.link n).vc2.returned = (s.link n).vc2.told ∧ (s.link n).vc3.returned = (s.link n).vc3.told) ∧
    (∃ (n : Nat) (at_ : Nat) (s : State), (s.link n).state = .up ∧ (s.link n).holding ≠ 0 ∧
      (s.advance at_).now < (s.link n).holdUntil) ∧
    (∃ (n : Nat) (b : List Byte) (s : State), (s.link n).state = .up ∧ b.length = 62 ∧
      128 ≤ ((s.link n).vc1.received + 65536 - (s.link n).vc1.told) % 65536) ∧
    (∃ (n : Nat) (b : List Byte) (s : State), (s.link n).state = .up ∧ b.length = 62 ∧ 1 ≤ u8 b 1 % 64 ∧ u8 b 1 % 64 ≤ 60 ∧
      bit (u8 b 1) 6 = true ∧ bit (u8 b 1) 7 = false ∧ ((s.link n).vc2.received + 65536 - (s.link n).vc2.told) % 65536 < 1024) := by
  refine ⟨?_, ?_, ?_, ?_, ?_, ?_, ?_, ?_⟩
  · refine ⟨63, 3, lnk .parent .up, ?_, ?_, ?_⟩
    all_goals decide +kernel
  · refine ⟨63, 1, lnk .parent .up, ?_, ?_, ?_⟩
    all_goals decide +kernel
  · refine ⟨63, 1, lnk .parent .up, ?_, ?_, ?_⟩
    all_goals decide +kernel
  · refine ⟨63, 4, lnk .parent .up, ?_, ?_⟩
    all_goals decide +kernel
  · refine ⟨63, (lnk .parent .up).onLink 63 (fun l => { l with vc1 := { returned := 1 } }), ?_, ?_, ?_, ?_⟩
    all_goals decide +kernel
  · refine ⟨63, 5, (lnk .parent .up).onLink 63 (fun l => { l with holding := 2, holdUntil := 6 }), ?_, ?_, ?_⟩
    all_goals decide +kernel
  · refine ⟨63, zeros 62, (lnk .parent .up).onLink 63 (fun l => { l with vc1 := { received := 128 } }), ?_, ?_, ?_⟩
    all_goals decide +kernel
  · refine ⟨63, [0, 124] ++ zeros 60, lnk .parent .up, ?_, ?_, ?_, ?_, ?_, ?_, ?_⟩
    all_goals decide +kernel

/-- The hypotheses of every clause of LinkCommandsAct can be met together. -/
theorem witness_LinkCommandsAct :
    (∃ (rq : Request) (s : State) (a : State) (p : List Byte) (n : _), Served 0x3001 rq s a ∧ rq.payload = p ∧ p.length = 8 ∧
      n = u8 p 0 ∧ n ≤ 63 ∧ u8 p 4 = 1 ∧ u8 p 1 ≤ 3 ∧ u16 p 2 ≤ 255 ∧ u16 p 2 % widthLanes (u8 p 1) = 0 ∧ 6 ≤ u8 p 5 ∧
      u8 p 5 ≤ 9 ∧ u8 p 6 ≤ 3 ∧ u8 p 7 = 0) ∧
    (∃ (rq : Request) (s : State) (a : State) (p : List Byte) (i : _), Served 0x3001 rq s a ∧ rq.payload = p ∧ p.length = 8 ∧
      u8 p 0 ≤ 63 ∧ 1 ≤ u8 p 4 ∧ u8 p 4 ≤ 4 ∧ u8 p 1 ≤ 3 ∧ u16 p 2 ≤ 255 ∧ u16 p 2 % widthLanes (u8 p 1) = 0 ∧ 6 ≤ u8 p 5 ∧
      u8 p 5 ≤ 9 ∧ u8 p 6 ≤ 3 ∧ u8 p 7 = 0 ∧ i < widthLanes (u8 p 1) ∧ (a.lane (u16 p 2 + i)).role ≠ .voxad) ∧
    (∃ (rq : Request) (s : State) (a : State) (p : List Byte), Served 0x3002 rq s a ∧ rq.payload = p ∧ p.length = 4 ∧
      u8 p 0 ≤ 63 ∧ fld p 1 3 = 0) ∧
    (∃ (rq : Request) (s : State) (a : State) (p : List Byte), Served 0x3003 rq s a ∧ rq.payload = p ∧ p.length = 4 ∧
      u8 p 0 ≤ 63 ∧ fld p 1 3 = 0) ∧
    (∃ (rq : Request) (s : State) (a : State) (p : List Byte) (n : _), Served 0x3004 rq s a ∧ rq.payload = p ∧ p.length = 4 ∧
      n = u8 p 0 ∧ n ≤ 63 ∧ u8 p 1 = 0 ∧ u16 p 2 = 0 ∧ (a.link n).role ≠ .off ∧ (a.link n).state = .down) ∧
    (∃ (rq : Request) (s : State) (a : State) (p : List Byte) (n : _), Served 0x3004 rq s a ∧ rq.payload = p ∧ p.length = 4 ∧
      n = u8 p 0 ∧ n ≤ 63 ∧ u8 p 1 = 0 ∧ u16 p 2 = 0 ∧ (a.link n).role = .parent ∧ (a.link n).state = .up) := by
  refine ⟨?_, ?_, ?_, ?_, ?_, ?_⟩
  · refine ⟨req [63, 3, 248, 0, 1, 9, 3, 0], each (List.range' 248 8) (fun n s => s.onLane n (fun l => { l with role := .voxad })) svc, _, _, _, ⟨?_, rfl⟩, rfl, ?_, rfl, ?_, ?_, ?_, ?_, ?_, ?_, ?_, ?_, ?_⟩
    all_goals decide +kernel
  · refine ⟨req [63, 0, 255, 0, 4, 6, 0, 0], svc, _, _, 0, ⟨?_, rfl⟩, rfl, ?_, ?_, ?_, ?_, ?_, ?_, ?_, ?_, ?_, ?_, ?_, ?_, ?_⟩
    all_goals decide +kernel
  · refine ⟨req [63, 0, 0, 0], svc, _, _, ⟨?_, rfl⟩, rfl, ?_, ?_, ?_⟩
    all_goals decide +kernel
  · refine ⟨req [0, 0, 0, 0], svc, _, _, ⟨?_, rfl⟩, rfl, ?_, ?_, ?_⟩
    all_goals decide +kernel
  · refine ⟨req [63, 0, 0, 0], lnk .child .down, _, _, _, ⟨?_, rfl⟩, rfl, ?_, rfl, ?_, ?_, ?_, ?_, ?_⟩
    all_goals decide +kernel
  · refine ⟨req [63, 0, 0, 0], lnk .parent .up, _, _, _, ⟨?_, rfl⟩, rfl, ?_, rfl, ?_, ?_, ?_, ?_, ?_⟩
    all_goals decide +kernel

/-- The hypotheses of every clause of NodesJoin can be met together. -/
theorem witness_NodesJoin :
    (∃ (rq : Request) (s : State) (a : State) (p : List Byte), Served 0x3010 rq s a ∧ rq.payload = p ∧ p.length = 4 ∧
      u16 p 0 ≤ 0x3FFE ∧ u16 p 2 = 0 ∧ ((a.hier.joined = false ∨ a.hier.apexRole = true)) ∧
      ((a.hier.apexRole = false ∨ a.hier.joinedSerials = []))) ∧
    (∃ (rq : Request) (s : State) (a : State) (p : List Byte), Served 0x3010 rq s a ∧ rq.payload = p ∧ p.length = 4 ∧
      u16 p 0 ≤ 0x3FFE ∧ u16 p 2 = 0 ∧ a.hier.joined = true ∧ a.hier.apexRole = false) ∧
    (∃ (rq : Request) (s : State) (a : State) (p : List Byte), Served 0x3011 rq s a ∧ rq.payload = p ∧ p.length = 4 ∧
      u8 p 0 ≤ 1 ∧ fld p 1 3 = 0 ∧ a.hier.roleFixed = false) ∧
    (∃ (rq : Request) (s : State) (a : State) (p : List Byte), Served 0x3011 rq s a ∧ rq.payload = p ∧ p.length = 4 ∧
      u8 p 0 ≤ 1 ∧ fld p 1 3 = 0 ∧ a.hier.roleFixed = true) ∧
    (∃ (rq : Request) (s : State) (a : State) (p : List Byte), Served 0x3012 rq s a ∧ rq.payload = p ∧ p.length = 8 ∧
      1 ≤ u16 p 0 ∧ u16 p 0 ≤ 1000 ∧ 100 ≤ u16 p 2 ∧ u16 p 2 ≤ 10000 ∧ 1 ≤ u8 p 4 ∧ u8 p 4 ≤ 8 ∧ fld p 5 3 = 0) ∧
    (∃ (rq : Request) (s : State) (a : State) (p : List Byte), Served 0x3012 rq s a ∧ rq.payload = p ∧ p.length = 8 ∧
      1 ≤ u16 p 0 ∧ u16 p 0 ≤ 1000 ∧ 100 ≤ u16 p 2 ∧ u16 p 2 ≤ 10000 ∧ 1 ≤ u8 p 4 ∧ u8 p 4 ≤ 8 ∧ fld p 5 3 = 0) ∧
    (∃ (rq : Request) (s : State) (a : State), Served 0x3013 rq s a ∧ rq.payload = []) ∧
    (∃ (rq : Request) (s : State) (a : State) (p : List Byte), Served 0x3014 rq s a ∧ rq.payload = p ∧ p.length = 4 ∧
      1 ≤ u16 p 2 ∧ u16 p 2 ≤ 2000 ∧ u16 p 0 + u16 p 2 ≤ 16384) ∧
    (∃ (rq : Request) (s : State) (a : State) (p : List Byte), Served 0x3015 rq s a ∧ rq.payload = p ∧ p.length = 16 ∧
      u16 p 0 = 1 ∧ u16 p 2 = 0 ∧ u16 (p.drop 4) 10 = 0 ∧ 1 ≤ u16 (p.drop 4) 8 ∧ u16 (p.drop 4) 8 ≤ 0x3FFE ∧
      a.hier.apexRole = true ∧ a.keep.plan.length < 16382) ∧
    (∃ (rq : Request) (s : State) (a : State) (p : List Byte) (n : _) (node : _) (t : State), Served 0x3016 rq s a ∧
      rq.payload = p ∧ rq.port = .link n ∧ p.length = 12 ∧ u8 p 11 = 0 ∧ s.hier.apexRole = true ∧
      a.joinVerdict (u64 p 0) (u16 p 8) = (0, node) ∧
      t = ((((a.onHier (fun h => { h with joinedSerials := h.joinedSerials.filter (fun e => e.1 != u64 p 0) ++ [(u64 p 0, node)] })).installRoute node n).raise 12 0x11 node (leBytes 8 (u64 p 0))).resendDecisions node).routesChanged) ∧
    (∃ (n : Nat) (at_ : Nat) (s : State), (s.advance at_).usableParent n = true ∧ s.hier.joinPending.contains n = false) ∧
    (∃ (rq : Request) (s : State) (n : _) (p : List Byte) (l : _) (q : _) (r : _) (t : _), rq.port = .link n ∧ rq.payload = p ∧
      s.serving rq.port = true ∧ (s.link n).role = .child ∧ u8 p 0 = 1 ∧ u8 p 1 = 0 ∧ 1 ≤ u16 p 2 ∧ u16 p 2 ≤ 1000 ∧
      p.length = 4 + 2 * u16 p 2 ∧ l = updateNodes p ∧ (∀ k ∈ l, 1 ≤ k ∧ k ≤ 0x3FFE) ∧
      t = (each l (fun k s => s.installRoute k n) s).relayNext s.hier.relayFanout ∧ t.hier.apexRole = false ∧
      t.parents = q :: r) ∧
    (∃ (rq : Request) (n : _) (p : List Byte), rq.port = .link n ∧ rq.payload = p ∧
      ((u8 p 1 ≠ 0 ∨ ∃ k ∈ updateNodes p, k = 0 ∨ 0x3FFE < k))) ∧
    (∃ (rq : Request) (n : _) (p : List Byte), rq.port = .link n ∧ rq.payload = p ∧
      ((u8 p 1 ≠ 0 ∨ ∃ k ∈ updateNodes p, k = 0 ∨ 0x3FFE < k))) := by
  refine ⟨?_, ?_, ?_, ?_, ?_, ?_, ?_, ?_, ?_, ?_, ?_, ?_, ?_, ?_⟩
  · refine ⟨req [254, 63, 0, 0], svc, _, _, ⟨?_, rfl⟩, rfl, ?_, ?_, ?_, ?_, ?_⟩
    all_goals decide +kernel
  · refine ⟨req [0, 0, 0, 0], svc.onHier (fun h => { h with joined := true }), _, _, ⟨?_, rfl⟩, rfl, ?_, ?_, ?_, ?_, ?_⟩
    all_goals decide +kernel
  · refine ⟨req [1, 0, 0, 0], svc, _, _, ⟨?_, rfl⟩, rfl, ?_, ?_, ?_, ?_⟩
    all_goals decide +kernel
  · refine ⟨req [0, 0, 0, 0], svc.onHier (fun h => { h with roleFixed := true }), _, _, ⟨?_, rfl⟩, rfl, ?_, ?_, ?_, ?_⟩
    all_goals decide +kernel
  · refine ⟨req [232, 3, 16, 39, 8, 0, 0, 0], svc, _, _, ⟨?_, rfl⟩, rfl, ?_, ?_, ?_, ?_, ?_, ?_, ?_, ?_⟩
    all_goals decide +kernel
  · refine ⟨req [1, 0, 100, 0, 1, 0, 0, 0], svc, _, _, ⟨?_, rfl⟩, rfl, ?_, ?_, ?_, ?_, ?_, ?_, ?_, ?_⟩
    all_goals decide +kernel
  · refine ⟨req [], svc, _, ⟨?_, rfl⟩, ?_⟩
    all_goals decide +kernel
  · refine ⟨req [48, 56, 208, 7], svc, _, _, ⟨?_, rfl⟩, rfl, ?_, ?_, ?_, ?_⟩
    all_goals decide +kernel
  · refine ⟨req ([1, 0, 0, 0] ++ leBytes 8 77 ++ [254, 63, 0, 0]), svc.onHier (fun h => { h with apexRole := true }), _, _, ⟨?_, rfl⟩, rfl, ?_, ?_, ?_, ?_, ?_, ?_, ?_, ?_⟩
    all_goals decide +kernel
  · refine ⟨lreq (leBytes 8 77 ++ [2, 0, 1, 0]), (lnk .child .up).onHier (fun h => { h with apexRole := true }), _, _, 63, _, _, ⟨?_, rfl⟩, rfl, ?_, ?_, ?_, ?_, rfl, rfl⟩
    all_goals decide +kernel
  · refine ⟨63, 9, lnk .parent .up, ?_, ?_⟩
    all_goals decide +kernel
  · refine ⟨lreq [1, 0, 1, 0, 2, 0], ((lnk .child .up).onLink 5 (fun l => { l with role := .parent, state := .up })).onHier (fun h => { h with joined := true }), 63, _, _, _, _, _, ?_, rfl, ?_, ?_, ?_, ?_, ?_, ?_, ?_, rfl, ?_, rfl, ?_, rfl⟩
    all_goals decide +kernel
  · refine ⟨lreq [1, 1, 1, 0, 2, 0], 63, _, ?_, rfl, ?_⟩
    all_goals decide +kernel
  · refine ⟨lreq [1, 0, 1, 0, 255, 63], 63, _, ?_, rfl, ?_⟩
    all_goals decide +kernel

/-- The hypotheses of every clause of PacketsCrossLinks can be met together. -/
theorem witness_PacketsCrossLinks :
    (∃ (n : Nat) (vc : Nat) (b : List Byte) (s : State) (s1 : _) (x : _) (pkt : _) (rq : Request), blocksOf b.length ≤ s.creditRoom n vc ∧
      s1 = s.gotBlocks n vc (blocksOf b.length) ∧ x = parseTx b ∧ pkt = b.drop 8 ∧
      rq = { requestOf (.link n) pkt with vc := vc, txid := x.txid } ∧ (s1.link n).state = .up ∧ (s1.link n).role = .parent ∧
      txOk b = true ∧ x.content = 0 ∧ x.kind = 0 ∧ s1.serving (.link n) = true ∧ lengthOk pkt = true ∧ crcOk pkt = true ∧
      u16 pkt 0 ≠ 0x3016 ∧ verdict (u16 pkt 0) rq (s1.received rq) = .run ∧ (s1.received rq).unjoined rq = false) ∧
    (∃ (n : Nat) (vc : Nat) (b : List Byte) (s : State), (s.link n).state = .up ∧ s.creditRoom n vc < blocksOf b.length) ∧
    (∃ (n : Nat) (vc : Nat) (b : List Byte) (s : State) (s1 : _), blocksOf b.length ≤ s.creditRoom n vc ∧
      s1 = s.gotBlocks n vc (blocksOf b.length) ∧ (s1.link n).state = .up ∧ txOk b = false) ∧
    (∃ (n : Nat) (vc : Nat) (b : List Byte) (s : State) (s1 : _) (t : _) (h : _), blocksOf b.length ≤ s.creditRoom n vc ∧
      s1 = s.gotBlocks n vc (blocksOf b.length) ∧ (s1.link n).state = .up ∧ txOk b = true ∧ (parseTx b).kind = 1 ∧
      (parseTx b).content = 0 ∧ lengthOk (b.drop 8) = true ∧ crcOk (b.drop 8) = true ∧
      s1.findTxn n vc (parseTx b).txid = some t ∧ t.inLink = none ∧ t.handle = some h ∧ u8 (b.drop 8) 7 ≠ 10 ∧
      u8 (b.drop 8) 7 ≠ 12) ∧
    (∃ (n : Nat) (vc : Nat) (x : Nat) (at_ : Nat) (s : State) (s1 : State) (t : _), s1 = (s.advance at_).countLink n ∧
      s1.findTxn n vc x = some t ∧ t.start + s1.timeoutOf t ≤ (s1.link n).counted vc) ∧
    (∃ (n : Nat) (vc : Nat) (x : Nat) (at_ : Nat) (s : State) (s1 : State) (t : _), s1 = (s.advance at_).countLink n ∧
      s1.findTxn n vc x = some t ∧ (s1.link n).counted vc < t.start + s1.timeoutOf t) ∧
    (∃ (tag : Nat) (orig : Nat) (at_ : Nat) (s : State) (w : _) (h : _), s.hier.waiting.find? (fun w => (parseHeader w.packet).tag = tag && (parseHeader w.packet).originator = orig && w.until_ ≤ (s.advance at_).now) = some w ∧
      w.handle = some h) := by
  refine ⟨?_, ?_, ?_, ?_, ?_, ?_, ?_⟩
  · refine ⟨63, 1, cross 0 0, lnk .parent .up, _, _, _, _, ?_, rfl, rfl, rfl, rfl, ?_, ?_, ?_, ?_, ?_, ?_, ?_, ?_, ?_, ?_, ?_⟩
    all_goals decide +kernel
  · refine ⟨63, 3, zeros 961, lnk .parent .up, ?_, ?_⟩
    all_goals decide +kernel
  · refine ⟨63, 1, [1], lnk .parent .up, _, ?_, rfl, ?_, ?_⟩
    all_goals decide +kernel
  · refine ⟨63, 1, cross 1 7, asked, _, _, _, ?_, rfl, ?_, ?_, ?_, ?_, ?_, ?_, rfl, ?_, rfl, ?_, ?_⟩
    all_goals decide +kernel
  · refine ⟨63, 1, 7, 10000000, asked, _, _, rfl, rfl, ?_⟩
    all_goals decide +kernel
  · refine ⟨63, 1, 7, 9999999, asked, _, _, rfl, rfl, ?_⟩
    all_goals decide +kernel
  · exact ⟨4, 0x4000, 9, svc.onHier (fun h => { h with waiting := [{ packet := packet 0x1005 4 0 0 2 0x4000 0 [], handle := some {}, until_ := 9 }] }), _, _, rfl, rfl⟩

/-- The hypotheses of every clause of SystemFormesRun can be met together. -/
theorem witness_SystemFormesRun :
    (∃ (rq : Request) (s : State) (a : State) (p : List Byte) (id : _) (node : _) (n : _), Served 0x3020 rq s a ∧
      rq.payload = p ∧ id = u32 p 0 ∧ node = u16 p 4 ∧ n = u16 p 12 ∧ id ≠ 0 ∧ node ≠ 0 ∧ node ≤ 0x3FFE ∧ 1 ≤ n ∧ n ≤ 4000 ∧
      p.length = 16 + n ∧ u16 p 6 = 0 ∧ u16 p 14 = 0 ∧ u32 p 8 + n ≤ recordMax ∧ a.hier.apexRole = true ∧
      Tbl.get? a.hier.sysFormes id = none ∧ a.hier.sysFormes.length < 4) ∧
    (∃ (rq : Request) (s : State) (a : State) (p : List Byte) (id : _) (f : _) (node : _) (x : _) (sb : _), Served 0x3021 rq s a ∧
      sb = decide (a.twin.role = .standby) ∧ rq.payload = p ∧ p.length = 4 ∧ id = u32 p 0 ∧ a.hier.apexRole = true ∧
      Tbl.get? a.hier.sysFormes id = some f ∧ f.state = 0 ∧ f.nodes = [(node, x)] ∧ node ≠ a.node ∧
      recordOk id (Memory.read x.record 7).toNat x = true) ∧
    (∃ (id : Nat) (s : State) (f : _), Tbl.get? s.hier.sysFormes id = some f ∧ f.state = 1 ∧ (∀ e ∈ f.nodes, e.2.pushed = 1)) ∧
    (∃ (rq : Request) (s : State) (a : State) (p : List Byte) (id : _) (f : _) (t : _) (b : _) (sb : _), Served 0x3022 rq s a ∧
      sb = decide (a.twin.role = .standby) ∧ rq.payload = p ∧ p.length = 24 ∧ u8 p 4 ≤ 1 ∧ fld p 5 3 = 0 ∧
      u32 p 16 < 1000000000 ∧ u32 p 20 = 0 ∧ id = u32 p 0 ∧ t = timeAt p 8 16 ∧ a.hier.apexRole = true ∧
      Tbl.get? a.hier.sysFormes id = some f ∧ f.state = 2 ∧ b = a.newSysTag.2 ∧ a.now + 2 * (framePeriod f.rate).getD 0 ≤ t ∧
      t ≤ a.now + 86400000000000) ∧
    (∃ (rq : Request) (s : State) (a : State) (p : List Byte) (id : _) (f : _) (t : _), Served 0x3022 rq s a ∧ rq.payload = p ∧
      p.length = 24 ∧ u8 p 4 ≤ 1 ∧ fld p 5 3 = 0 ∧ u32 p 16 < 1000000000 ∧ u32 p 20 = 0 ∧ id = u32 p 0 ∧ t = timeAt p 8 16 ∧
      a.hier.apexRole = true ∧ Tbl.get? a.hier.sysFormes id = some f ∧ f.state = 2 ∧
      t < a.now + 2 * (framePeriod f.rate).getD 0) ∧
    (∃ (id : Nat) (node : Nat) (d : Nat) (r : Nat) (s : State) (f : _) (x : _), Tbl.get? s.hier.sysFormes id = some f ∧
      f.state = 3 ∧ Tbl.get? f.nodes node = some x ∧ x.answer = 255 ∧
      Tbl.has (Tbl.put f.nodes node { x with answer := 0, errDest := d, errReason := r }) (fun _ y => y.answer = 255) = true) ∧
    (∃ (id : Nat) (at_ : Nat) (s : State) (s1 : State) (f : _) (node : _) (x : _), s1 = s.advance at_ ∧
      Tbl.get? s.hier.sysFormes id = some f ∧ f.state = 3 ∧ f.partialOk = false ∧ s.twin.role ≠ .standby ∧
      f.nodes = [(node, x)] ∧ x.answer = 255 ∧ f.t ≤ s1.now + 1000000 + s.hier.commitMarginUs * 1000) ∧
    (∃ (s : State), s.twin.role = .standby) ∧
    (∃ (rq : Request) (s : State) (a : State) (p : List Byte) (f : _), Served 0x3023 rq s a ∧ rq.payload = p ∧ p.length = 4 ∧
      a.hier.apexRole = true ∧ Tbl.get? a.hier.sysFormes (u32 p 0) = some f ∧ f.state ≤ 3) ∧
    (∃ (rq : Request) (s : State) (a : State) (p : List Byte) (f : _), Served 0x3024 rq s a ∧ rq.payload = p ∧ p.length = 8 ∧
      1 ≤ u16 p 6 ∧ u16 p 6 ≤ 500 ∧ a.hier.apexRole = true ∧ Tbl.get? a.hier.sysFormes (u32 p 0) = some f) ∧
    (∃ (id : Nat) (at_ : Nat) (s : State) (f : _), Tbl.get? s.hier.sysFormes id = some f ∧ f.state = 4 ∧
      f.t + 2000000000 ≤ (s.advance at_).now) := by
  refine ⟨?_, ?_, ?_, ?_, ?_, ?_, ?_, ?_, ?_, ?_, ?_⟩
  · refine ⟨req ([5, 0, 0, 0, 254, 63, 0, 0] ++ leBytes 4 (recordMax - 1) ++ [1, 0, 0, 0, 9]), apex, _, _, _, _, _, ⟨?_, rfl⟩, rfl, rfl, rfl, rfl, ?_, ?_, ?_, ?_, ?_, ?_, ?_, ?_, ?_, ?_, ?_, ?_⟩
    all_goals decide +kernel
  · refine ⟨req [5, 0, 0, 0], apex.onHier (fun h => { h with sysFormes := [(5, { nodes := [(2, answer5)] })] }), _, _, _, _, 2, answer5, _, ⟨?_, rfl⟩, rfl, rfl, ?_, rfl, ?_, rfl, ?_, ?_, ?_, ?_⟩
    all_goals decide +kernel
  · refine ⟨5, sysIn 1, _, rfl, ?_, ?_⟩
    all_goals decide +kernel
  · refine ⟨req ([5, 0, 0, 0, 1, 0, 0, 0] ++ leBytes 8 0 ++ leBytes 4 83416666 ++ zeros 4), sysIn 2, _, _, _, _, _, _, _, ⟨?_, rfl⟩, rfl, rfl, ?_, ?_, ?_, ?_, ?_, rfl, rfl, ?_, rfl, ?_, rfl, ?_, ?_⟩
    all_goals decide +kernel
  · refine ⟨req ([5, 0, 0, 0, 1, 0, 0, 0] ++ leBytes 8 0 ++ leBytes 4 83416665 ++ zeros 4), sysIn 2, _, _, _, _, _, ⟨?_, rfl⟩, rfl, ?_, ?_, ?_, ?_, ?_, rfl, rfl, ?_, rfl, ?_, ?_⟩
    all_goals decide +kernel
  · refine ⟨5, 2, 0xFFFF, 0, (sysIn 3).onHier (fun h => { h with sysFormes := [(5, { state := 3, rate := 1, nodes := [(2, {}), (4, {})] })] }), _, _, rfl, ?_, rfl, ?_, ?_⟩
    all_goals decide +kernel
  · refine ⟨5, 9, sysIn 3, _, _, 2, { answer5 with pushed := 1 }, rfl, rfl, ?_, ?_, ?_, ?_, ?_, ?_⟩
    all_goals decide +kernel
  · refine ⟨svc.onTwin (fun t => { t with role := .standby }), ?_⟩
    all_goals decide +kernel
  · refine ⟨req [5, 0, 0, 0], sysIn 3, _, _, _, ⟨?_, rfl⟩, rfl, ?_, ?_, rfl, ?_⟩
    all_goals decide +kernel
  · refine ⟨req [5, 0, 0, 0, 0, 0, 244, 1], sysIn 2, _, _, _, ⟨?_, rfl⟩, rfl, ?_, ?_, ?_, ?_, rfl⟩
    all_goals decide +kernel
  · refine ⟨5, 2000000000, sysIn 4, _, rfl, ?_, ?_⟩
    all_goals decide +kernel

/-- The hypotheses of every clause of NodesFollowDecisions can be met together. -/
theorem witness_NodesFollowDecisions :
    (∃ (rq : Request) (s : State) (a : State) (p : List Byte) (id : _) (n : _), Served 0x3028 rq s a ∧ rq.payload = p ∧
      id = u32 p 0 ∧ n = u16 p 8 ∧ u32 p 4 = 0 ∧ 1 ≤ n ∧ n ≤ 4000 ∧ p.length = 12 + n ∧ u8 p 10 ≤ 1 ∧ u8 p 11 = 0 ∧
      a.hier.pushed.length < 8) ∧
    (∃ (rq : Request) (s : State) (a : State) (p : List Byte) (id : _) (r : _) (b : _) (es : _) (t : _), Served 0x3029 rq s a ∧
      rq.payload = p ∧ p.length = 32 ∧ u16 p 6 = 0 ∧ u32 p 12 = 0 ∧ u32 p 24 < 1000000000 ∧ u32 p 28 = 0 ∧ id = u32 p 0 ∧
      id ≠ 0 ∧ t = timeAt p 16 24 ∧ Tbl.get? a.hier.pushed id = some r ∧ r.complete = true ∧ b = Memory.readN r.bytes 0 r.size ∧
      es = parseRecord b ∧ a.lat.standing.id ≠ id ∧ a.forme id = none ∧ a.lat.pending.length < 8 ∧ u32 b 0 = id ∧
      u16 b 4 = u16 p 4 ∧ u32 b 8 = u32 p 8 ∧ (framePeriod (u8 b 7)).isNone = false ∧
      a.formeError es (u16 p 4) (u32 p 8) = (0xFFFF, 0) ∧ a.lockupTimeError id t = 0 ∧ a.groupsReach (groupsOf es) t = true) ∧
    (∃ (rq : Request) (s : State) (a : State) (p : List Byte) (f : _), Served 0x302A rq s a ∧ rq.payload = p ∧ p.length = 4 ∧
      a.forme (u32 p 0) = some f ∧ f.prepared = true ∧ f.decision = .none ∧ f.noDecision = false) ∧
    (∃ (rq : Request) (s : State) (a : State) (p : List Byte), Served 0x302A rq s a ∧ rq.payload = p ∧ p.length = 4 ∧
      a.forme (u32 p 0) = none) ∧
    (∃ (rq : Request) (s : State) (a : State) (p : List Byte) (f : _), Served 0x302B rq s a ∧ rq.payload = p ∧ p.length = 4 ∧
      a.forme (u32 p 0) = some f ∧ f.prepared = true ∧ f.state = .closed) ∧
    (∃ (id : Nat) (at_ : Nat) (s : State) (f : _) (t : _), s.forme id = some f ∧ f.prepared = true ∧ f.noDecision = true ∧
      f.decision = .none ∧ f.t = some t ∧ t + 1000000000 ≤ (s.advance at_).now) ∧
    (∃ (rq : Request) (s : State) (n : _) (p : List Byte), rq.port = .link n ∧ rq.payload = p ∧ s.serving rq.port = true ∧
      p.length = 20 ∧ u8 p 4 ≤ 2 ∧ u8 p 5 = 0 ∧ s.hier.apexRole = true) := by
  refine ⟨?_, ?_, ?_, ?_, ?_, ?_, ?_⟩
  · refine ⟨lreq ([5, 0, 0, 0, 0, 0, 0, 0, 28, 0, 1, 0] ++ record5), below, _, _, _, _, ⟨?_, rfl⟩, rfl, rfl, rfl, ?_, ?_, ?_, ?_, ?_, ?_, ?_⟩
    all_goals decide +kernel
  · refine ⟨lreq ([5, 0, 0, 0, 1, 0, 0, 0] ++ (record5.drop 8).take 4 ++ zeros 4 ++ leBytes 8 0 ++ leBytes 4 2000000 ++ zeros 4), pushed5, _, _, _, _, _, _, _, ⟨?_, rfl⟩, rfl, ?_, ?_, ?_, ?_, ?_, rfl, ?_, rfl, rfl, ?_, rfl, rfl, ?_, ?_, ?_, ?_, ?_, ?_, ?_, ?_, ?_, ?_⟩
    all_goals decide +kernel
  · refine ⟨lreq [5, 0, 0, 0], prepared5, _, _, _, ⟨?_, rfl⟩, rfl, ?_, rfl, ?_, ?_, ?_⟩
    all_goals decide +kernel
  · refine ⟨lreq [5, 0, 0, 0], below, _, _, ⟨?_, rfl⟩, rfl, ?_, ?_⟩
    all_goals decide +kernel
  · refine ⟨lreq [5, 0, 0, 0], prepared5, _, _, _, ⟨?_, rfl⟩, rfl, ?_, rfl, ?_, ?_⟩
    all_goals decide +kernel
  · refine ⟨5, 1000003000, prepared5.onLat (fun l => { l with pending := [{ id := 5, state := .closed, prepared := true, t := some 3000, noDecision := true }] }), _, _, rfl, ?_, ?_, ?_, rfl, ?_⟩
    all_goals decide +kernel
  · refine ⟨lreq ([5, 0, 0, 0, 2, 0, 0, 0] ++ zeros 12), (lnk .child .up).onHier (fun h => { h with apexRole := true }), 63, _, ?_, rfl, ?_, ?_, ?_, ?_, ?_⟩
    all_goals decide +kernel

/-- The hypotheses of every clause of SnapshotsAndCuts can be met together. -/
theorem witness_SnapshotsAndCuts :
    (∃ (rq : Request) (s : State) (a : State) (p : List Byte), Served 0x3030 rq s a ∧ rq.payload = p ∧ p.length = 20 ∧
      u16 p 4 < 1024 ∧ u8 p 6 ≤ 1 ∧ u8 p 7 = 0 ∧ u32 p 16 < 1000000000 ∧ a.now + 100000 ≤ timeAt p 8 16 ∧
      timeAt p 8 16 ≤ a.now + 86400000000000 ∧ a.hier.snaps.length < 4) ∧
    (∃ (rq : Request) (s : State) (a : State) (p : List Byte), Served 0x3030 rq s a ∧ rq.payload = p ∧ p.length = 20 ∧
      u16 p 4 < 1024 ∧ u8 p 6 ≤ 1 ∧ u8 p 7 = 0 ∧ u32 p 16 < 1000000000 ∧ timeAt p 8 16 < a.now + 100000) ∧
    (∃ (id : Nat) (at_ : Nat) (s : State) (x : _), s.hier.snaps.find? (fun x => x.id = id && x.t ≤ (s.advance at_).now) = some x) ∧
    (∃ (s : State), s.hier.keepDue = true) ∧
    (∃ (rq : Request) (s : State) (a : State) (p : List Byte), Served 0x3031 rq s a ∧ rq.payload = p ∧ p.length = 20 ∧
      u16 p 4 < 1024 ∧ u8 p 6 ≤ 1 ∧ u8 p 7 = 0 ∧ u32 p 16 < 1000000000 ∧ a.now + 100000 ≤ timeAt p 8 16 ∧
      timeAt p 8 16 ≤ a.now + 86400000000000 ∧ a.hier.snaps.length < 4 ∧ a.hier.apexRole = true ∧ a.hier.joinedSerials = [] ∧
      a.twin.role ≠ .standby) ∧
    (∃ (rq : Request) (s : State) (a : State) (p : List Byte), Served 0x3031 rq s a ∧ rq.payload = p ∧ p.length = 20 ∧
      u16 p 4 < 1024 ∧ u8 p 6 ≤ 1 ∧ u8 p 7 = 0 ∧ u32 p 16 < 1000000000 ∧ a.now + 100000 ≤ timeAt p 8 16 ∧
      timeAt p 8 16 ≤ a.now + 86400000000000 ∧ a.hier.snaps.length < 4 ∧ a.hier.apexRole = true ∧ a.twin.role = .standby) ∧
    (∃ (rq : Request) (s : State) (a : State) (p : List Byte) (q : _), Served 0x3038 rq s a ∧ rq.payload = p ∧ p.length = 24 ∧
      Tbl.get? a.chord.processes (u16 p 0) = some q ∧ u16 p 6 = q.n ∧ u16 p 2 ≠ 0 ∧ u16 p 4 ≠ 0 ∧ u64 p 8 + 2 * q.n ≤ u64 p 16 ∧
      a.index q.domainB < u64 p 16) ∧
    (∃ (id : Nat) (at_ : Nat) (s : State) (q : _) (c : _), Tbl.get? s.chord.processes id = some q ∧
      s.hier.cuts.find? (fun c => c.process = id) = some c ∧ c.newSeen = true ∧ c.cutIndex ≤ (s.advance at_).index q.domainB) := by
  refine ⟨?_, ?_, ?_, ?_, ?_, ?_, ?_, ?_⟩
  · refine ⟨req ([5, 0, 0, 0, 255, 3, 1, 0] ++ leBytes 8 0 ++ leBytes 4 100000), svc, _, _, ⟨?_, rfl⟩, rfl, ?_, ?_, ?_, ?_, ?_, ?_, ?_, ?_⟩
    all_goals decide +kernel
  · refine ⟨req ([5, 0, 0, 0, 255, 3, 1, 0] ++ leBytes 8 0 ++ leBytes 4 99999), svc, _, _, ⟨?_, rfl⟩, rfl, ?_, ?_, ?_, ?_, ?_, ?_⟩
    all_goals decide +kernel
  · exact ⟨5, 9, svc.onHier (fun h => { h with snaps := [{ id := 5, t := 9 }] }), _, rfl⟩
  · refine ⟨svc.onHier (fun h => { h with keepDue := true }), ?_⟩
    all_goals decide +kernel
  · refine ⟨req ([5, 0, 0, 0, 255, 3, 1, 0] ++ leBytes 8 0 ++ leBytes 4 100000), apex, _, _, ⟨?_, rfl⟩, rfl, ?_, ?_, ?_, ?_, ?_, ?_, ?_, ?_, ?_, ?_, ?_⟩
    all_goals decide +kernel
  · refine ⟨{ lreq ([5, 0, 0, 0, 255, 3, 1, 0] ++ leBytes 8 0 ++ leBytes 4 100000) with flags := 8 }, (twin .standby).onHier (fun h => { h with apexRole := true }), _, _, ⟨?_, rfl⟩, rfl, ?_, ?_, ?_, ?_, ?_, ?_, ?_, ?_, ?_, ?_⟩
    all_goals decide +kernel
  · refine ⟨req ([3, 0, 1, 0, 2, 0, 8, 0] ++ leBytes 8 0 ++ leBytes 8 16), proc3, _, _, _, ⟨?_, rfl⟩, rfl, ?_, rfl, ?_, ?_, ?_, ?_, ?_⟩
    all_goals decide +kernel
  · refine ⟨3, 1000000, proc3.onHier (fun h => { h with cuts := [{ process := 3, newSeen := true, cutIndex := 16 }] }), _, _, rfl, rfl, ?_, ?_⟩
    all_goals decide +kernel

/-- The hypotheses of every clause of AudioRoutesSwitch can be met together. -/
theorem witness_AudioRoutesSwitch :
    (∃ (rq : Request) (s : State) (a : State) (p : List Byte), Served 0x5001 rq s a ∧ rq.payload = p ∧ p.length = 4 ∧
      1 ≤ u16 p 0 ∧ u16 p 0 ≤ 100 ∧ u16 p 2 = 0) ∧
    (∃ (rq : Request) (s : State) (a : State) (p : List Byte), Served 0x5001 rq s a ∧ rq.payload = p ∧ p.length = 4 ∧
      1 ≤ u16 p 0 ∧ u16 p 0 ≤ 100 ∧ u16 p 2 = 0) ∧
    (∃ (rq : Request) (s : State) (a : State) (p : List Byte) (n : _) (es : _) (plan : _), Served 0x5002 rq s a ∧
      rq.payload = p ∧ n = u16 p 0 ∧ 1 ≤ n ∧ n ≤ 500 ∧ p.length = 20 + 8 * n ∧ u16 p 2 = 0 ∧ u32 p 16 = 0 ∧
      u32 p 12 < 1000000000 ∧ timeAt p 4 12 ≤ a.now + 86400000000000 ∧ es = records p 20 8 n ∧ es.all audioRouteOk = true ∧
      distinct (es.map (fun e => u16 e 0)) = true ∧
      plan = (es.map parseAudioRoute).foldl (fun (t : Tbl AudioRoute) e => Tbl.put t e.1 e.2) a.plannedRoutes ∧
      Tbl.count plan (fun _ r => r.source != 65535) ≤ 8192 ∧ a.bridges plan true ≤ 1024 ∧ a.bridges plan false ≤ 1024) ∧
    (∃ (rq : Request) (s : State) (a : State) (p : List Byte) (n : _) (es : _) (plan : _), Served 0x5002 rq s a ∧
      rq.payload = p ∧ n = u16 p 0 ∧ 1 ≤ n ∧ n ≤ 500 ∧ p.length = 20 + 8 * n ∧ u16 p 2 = 0 ∧ u32 p 16 = 0 ∧
      u32 p 12 < 1000000000 ∧ timeAt p 4 12 ≤ a.now + 86400000000000 ∧ es = records p 20 8 n ∧ es.all audioRouteOk = true ∧
      distinct (es.map (fun e => u16 e 0)) = true ∧
      plan = (es.map parseAudioRoute).foldl (fun (t : Tbl AudioRoute) e => Tbl.put t e.1 e.2) a.plannedRoutes ∧
      1024 < a.bridges plan true) ∧
    (∃ (rq : Request) (s : State) (a : State) (p : List Byte), Served 0x5003 rq s a ∧ rq.payload = p ∧ p.length = 4 ∧
      1 ≤ u16 p 2 ∧ u16 p 2 ≤ 500 ∧ u16 p 0 + u16 p 2 ≤ 0x4000) ∧
    (∃ (d : Nat) (s : State) (g : _), (s.aDest d).pendingGain = some g) ∧
    (∃ (r : AudioRoute), r.gain = -32768) ∧
    (∃ (domB : Bool) (at_ : Nat) (s : State) (s1 : State) (s2 : State) (s3 : State) (d : _) (x : _) (b : _), s1 = s.advance at_ ∧
      s.power.state = .run ∧ (∀ e ∈ s1.eth.rx, e.2.poolBase = none) ∧ b = s1.index domB / 8 * 8 ∧ 8 ≤ b ∧
      s.audio.playouts = [] ∧ s.audio.dests = [(d, x)] ∧ s.dstDomB d = domB ∧ isChordCh d = false ∧
      s2 = s1.onAudio (fun a => { a with srcs := Tbl.map a.srcs (fun c x => if c < 0x3000 && !isBufCh c && s1.srcDomB c = domB then { x with present := false } else x) }) ∧
      s3 = s2.mixDest d b ∧ s3.twin.mirrored = false) ∧
    (∃ (s : State), s.power.state ≠ .run) := by
  refine ⟨?_, ?_, ?_, ?_, ?_, ?_, ?_, ?_, ?_⟩
  · refine ⟨req [100, 0, 0, 0], svc, _, _, ⟨?_, rfl⟩, rfl, ?_, ?_, ?_, ?_⟩
    all_goals decide +kernel
  · refine ⟨req [1, 0, 0, 0], svc, _, _, ⟨?_, rfl⟩, rfl, ?_, ?_, ?_, ?_⟩
    all_goals decide +kernel
  · refine ⟨req ([1, 0, 0, 0] ++ zeros 16 ++ [255, 63, 0, 0, 0, 0, 3, 0]), svc, _, _, _, _, _, ⟨?_, rfl⟩, rfl, rfl, ?_, ?_, ?_, ?_, ?_, ?_, ?_, rfl, ?_, ?_, rfl, ?_, ?_, ?_⟩
    all_goals decide +kernel
  · refine ⟨req ([1, 0, 0, 0] ++ zeros 16 ++ [255, 63, 0, 0, 0, 0, 3, 0]), svc.onAudio (fun a => { a with sends := (List.range 32).map (fun k => (k, { rate96 := true })), dests := (List.range 1025).map (fun k => (0x3800 + k, { route := { source := 0 } })) }), _, _, _, _, _, ⟨?_, rfl⟩, rfl, rfl, ?_, ?_, ?_, ?_, ?_, ?_, ?_, rfl, ?_, ?_, rfl, ?_⟩
    all_goals decide +kernel
  · refine ⟨req [12, 62, 244, 1], svc, _, _, ⟨?_, rfl⟩, rfl, ?_, ?_, ?_, ?_⟩
    all_goals decide +kernel
  · exact ⟨0x3FFF, svc.onADest 0x3FFF (fun x => { x with pendingGain := some 5 }), _, rfl⟩
  · refine ⟨{ gain := -32768 }, ?_⟩
    all_goals decide +kernel
  · refine ⟨false, 1000000, svc.onAudio (fun a => { a with dests := [(0, {})] }), _, _, _, 0, ({} : AudioDest), _, rfl, ?_, ?_, rfl, ?_, ?_, ?_, ?_, ?_, rfl, rfl, ?_⟩
    all_goals decide +kernel
  · refine ⟨svc.onPower (fun p => { p with state := .dormant }), ?_⟩
    all_goals decide +kernel

/-- The hypotheses of every clause of AesPortsAct can be met together. -/
theorem witness_AesPortsAct :
    (∃ (rq : Request) (s : State) (a : State) (p : List Byte), Served 0x5004 rq s a ∧ rq.payload = p ∧ p.length = 32 ∧
      u8 p 0 = 1 ∧ u8 p 1 ≤ 63 ∧ u8 p 2 = 3 ∧ u8 p 3 ≤ 63 ∧ u8 p 4 ≤ 1 ∧ fld p 5 3 = 0) ∧
    (∃ (rq : Request) (s : State) (a : State) (p : List Byte), Served 0x5005 rq s a ∧ rq.payload = p ∧ p.length = 4 ∧
      u8 p 0 ≤ 1 ∧ u8 p 1 ≤ 63 ∧ u8 p 2 ≤ 1 ∧ u8 p 3 = 0) ∧
    (∃ (rq : Request) (s : State) (a : State) (p : List Byte), Served 0x5006 rq s a ∧ rq.payload = p ∧ p.length = 32 ∧
      u8 p 16 = 0 ∧ fld p 17 3 = 0 ∧ u32 p 28 < 1000000000 ∧ timeAt p 20 28 ≤ a.now + 86400000000000) ∧
    (∃ (rq : Request) (s : State) (a : State) (p : List Byte), Served 0x5006 rq s a ∧ rq.payload = p ∧ p.length = 32 ∧
      u8 p 16 = 1 ∧ fld p 17 3 = 0 ∧ u32 p 28 < 1000000000 ∧ timeAt p 20 28 ≠ 0 ∧ timeAt p 20 28 < a.now + 250000) ∧
    (∃ (rq : Request) (s : State) (a : State) (p : List Byte), Served 0x5007 rq s a ∧ rq.payload = p ∧ p.length = 4 ∧
      u8 p 0 ≤ 1 ∧ u8 p 1 ≤ 63 ∧ u8 p 2 ≤ 1 ∧ u8 p 3 = 0) ∧
    (∃ (out : Bool) (n : Nat) (s : State) (h : _), (s.aesPort out n).restarting = true ∧
      (s.aesPort out n).awaitTrigger = false ∧ (s.aesPort out n).restartHandles = [h]) ∧
    (∃ (at_ : Nat) (s : State) (x : _) (t : _), s.audio.starts = [x] ∧ x.startNs = some t ∧ t ≤ (s.advance at_).now) ∧
    (∃ (n : Nat) (cs : List Byte) (us : List Byte) (s : State), n ≤ 63 ∧ cs.length = 24 ∧ us.length = 24 ∧
      bit (u8 cs 0) 0 = false ∧ nonAudio cs = (s.aSrc (0x2000 + 2 * n)).nonPcm) ∧
    (∃ (n : Nat) (r : Nat) (s : State), n ≤ 63 ∧ (s.aesPort false n).locked = false ∧ 28000000 ≤ r ∧ r ≤ 108000000) ∧
    (∃ (n : Nat) (s : State), (s.aesPort false n).locked = true) ∧
    (∃ (n : Nat) (s : State), (s.aesPort false n).locked = true ∧ (s.aesPort false n).mode = 2) ∧
    (∃ (out : Bool) (n : Nat) (s : State), n ≤ 63 ∧ (s.aesPort out n).restarting = false) := by
  refine ⟨?_, ?_, ?_, ?_, ?_, ?_, ?_, ?_, ?_, ?_, ?_, ?_⟩
  · refine ⟨req ([1, 63, 3, 63, 1, 0, 0, 0] ++ zeros 24), svc, _, _, ⟨?_, rfl⟩, rfl, ?_, ?_, ?_, ?_, ?_, ?_, ?_⟩
    all_goals decide +kernel
  · refine ⟨req [1, 63, 1, 0], svc, _, _, ⟨?_, rfl⟩, rfl, ?_, ?_, ?_, ?_, ?_⟩
    all_goals decide +kernel
  · refine ⟨req (zeros 32), svc, _, _, ⟨?_, rfl⟩, rfl, ?_, ?_, ?_, ?_, ?_⟩
    all_goals decide +kernel
  · refine ⟨req (zeros 16 ++ [1, 0, 0, 0] ++ leBytes 8 0 ++ leBytes 4 249999), svc, _, _, ⟨?_, rfl⟩, rfl, ?_, ?_, ?_, ?_, ?_, ?_⟩
    all_goals decide +kernel
  · refine ⟨req [1, 63, 1, 0], svc, _, _, ⟨?_, rfl⟩, rfl, ?_, ?_, ?_, ?_, ?_⟩
    all_goals decide +kernel
  · refine ⟨true, 63, svc.onAes true 63 (fun q => { q with restarting := true, restartHandles := [{ tag := 1 }] }), _, ?_, ?_, rfl⟩
    all_goals decide +kernel
  · refine ⟨9, svc.onAudio (fun a => { a with starts := [{ inMask := 1, outMask := 0, trigger := false, startNs := some 9, indexA := 0, indexB := 0, handle := {} }] }), _, _, rfl, rfl, ?_⟩
    all_goals decide +kernel
  · refine ⟨63, zeros 24, zeros 24, svc, ?_, ?_, ?_, ?_, ?_⟩
    all_goals decide +kernel
  · refine ⟨63, 28000000, svc, ?_, ?_, ?_, ?_⟩
    all_goals decide +kernel
  · refine ⟨63, svc.onAes false 63 (fun q => { q with locked := true }), ?_⟩
    all_goals decide +kernel
  · refine ⟨63, svc.onAes false 63 (fun q => { q with locked := true, mode := 2 }), ?_, ?_⟩
    all_goals decide +kernel
  · refine ⟨true, 63, svc, ?_, ?_⟩
    all_goals decide +kernel

/-- The hypotheses of every clause of AudioUnitsAreConfigured can be met together. -/
theorem witness_AudioUnitsAreConfigured :
    (∃ (rq : Request) (s : State) (a : State) (p : List Byte) (n : _), Served 0x5008 rq s a ∧ rq.payload = p ∧ p.length = 8 ∧
      u8 p 0 = 0 ∧ u8 p 1 = 0 ∧ n = u16 p 2 ∧ n ≤ 1023 ∧ (a.rxFlow n).cfg.kind = 2 ∧ u16 p 4 + (a.rxFlow n).cfg.param ≤ 3840) ∧
    (∃ (rq : Request) (s : State) (a : State) (p : List Byte) (u : Bundle), Served 0x5009 rq s a ∧ rq.payload = p ∧
      p.length = 8 ∧ u8 p 0 ≤ 31 ∧ u8 p 1 = 0 ∧ u8 p 2 ≤ 63 ∧ 1 ≤ u8 p 4 ∧ u8 p 4 ≤ 64 ∧ u8 p 5 ≤ 1 ∧ u16 p 6 = 0 ∧
      a.bundleStream (u8 p 2) (u8 p 3) false (u8 p 0) = false ∧
      Tbl.has a.lat.sends (fun _ m => m.link = u8 p 2 && m.stream = u8 p 3) = false ∧
      (a.linkChargeBut (u8 p 2) 65536 (u8 p 0) + bundleMbps (u8 p 4) (u8 p 5 = 1)) * 1000 ≤ (a.link (u8 p 2)).trunkLimit ∧
      u = { link := u8 p 2, stream := u8 p 3, channels := u8 p 4, rate96 := u8 p 5 = 1 }) ∧
    (∃ (rq : Request) (s : State) (a : State) (p : List Byte), Served 0x5009 rq s a ∧ rq.payload = p ∧ p.length = 8 ∧
      u8 p 0 ≤ 31 ∧ u8 p 1 = 0 ∧ u8 p 2 ≤ 63 ∧ 1 ≤ u8 p 4 ∧ u8 p 4 ≤ 64 ∧ u8 p 5 ≤ 1 ∧ u16 p 6 = 0 ∧
      a.bundleStream (u8 p 2) (u8 p 3) false (u8 p 0) = false ∧
      Tbl.has a.lat.sends (fun _ m => m.link = u8 p 2 && m.stream = u8 p 3) = false ∧
      (a.link (u8 p 2)).trunkLimit < (a.linkChargeBut (u8 p 2) 65536 (u8 p 0) + bundleMbps (u8 p 4) (u8 p 5 = 1)) * 1000) ∧
    (∃ (rq : Request) (s : State) (a : State) (p : List Byte) (n : _) (u : AudioBuf), Served 0x500A rq s a ∧ rq.payload = p ∧
      p.length = 24 ∧ u8 p 0 ≤ 15 ∧ u8 p 1 = 0 ∧ 1 ≤ u8 p 3 ∧ u8 p 2 + u8 p 3 ≤ 128 ∧ u8 p 4 ≤ 2 ∧ u8 p 5 ≤ 1 ∧ u16 p 6 = 0 ∧
      u32 p 20 = 0 ∧ 64 ≤ u32 p 16 ∧ u32 p 16 ≤ 16777216 ∧ n = u32 p 16 * (u8 p 3 * packBytes (u8 p 4)) ∧ u64 p 8 + n ≤ 2 ^ 48 ∧
      a.rtPinned (u64 p 8) n = true ∧
      u = { first := u8 p 2, count := u8 p 3, packing := u8 p 4, rate96 := u8 p 5 = 1, base := u64 p 8, frames := u32 p 16 }) ∧
    (∃ (rq : Request) (s : State) (a : State) (p : List Byte) (b : _), Served 0x500B rq s a ∧ rq.payload = p ∧ p.length = 4 ∧
      u8 p 0 = 0 ∧ u8 p 1 ≤ 15 ∧ u16 p 2 = 0 ∧ b = Tbl.at a.audio.captures (u8 p 1) {}) ∧
    (∃ (rq : Request) (s : State) (a : State) (p : List Byte), Served 0x500C rq s a ∧ rq.payload = p ∧ p.length = 16 ∧
      u16 p 2 = 1 ∧ u16 p 0 ≤ 0x3FFF ∧ -12000 ≤ s16 p 4 ∧ s16 p 4 ≤ -2000 ∧ u16 p 6 = 0 ∧ 100 ≤ u32 p 8 ∧ u32 p 8 ≤ 600000 ∧
      u8 p 12 ≤ 7 ∧ fld p 13 3 = 0) ∧
    (∃ (c : Nat) (peak : Nat) (at_ : Nat) (s : State), (s.aSrc c).nonPcm = false ∧ (s.advance at_).srcPresent c = true ∧
      (s.aSrc c).configured = true ∧ (s.aSrc c).silent = false ∧ peak ≠ 0 ∧ belowLevel peak (s.aSrc c).threshold = false) ∧
    (∃ (c : Nat) (at_ : Nat) (s : State) (t : _), (s.aSrc c).belowSince = some t ∧ (s.aSrc c).configured = true ∧
      (s.aSrc c).silent = false ∧ (s.aSrc c).nonPcm = false ∧ (s.aSrc c).actions = 1 ∧
      t + (s.aSrc c).holdMs * 1000000 ≤ (s.advance at_).now) ∧
    (∃ (rq : Request) (s : State) (a : State) (p : List Byte) (q : _), Served 0x500D rq s a ∧ rq.payload = p ∧ u16 p 0 ≤ 511 ∧
      1 ≤ u16 p 4 ∧ u16 p 4 ≤ 4000 ∧ p.length = 8 + u16 p 4 ∧ u16 p 6 = 0 ∧ u16 p 2 + u16 p 4 ≤ 16384 ∧
      Tbl.get? a.chord.processes (u16 p 0) = some q ∧ u16 p 2 + u16 p 4 ≤ 8 * q.paramWords ∧
      (a.paramSet (u16 p 0)).armed = none) ∧
    (∃ (rq : Request) (s : State) (a : State) (p : List Byte) (q : _), Served 0x500E rq s a ∧ rq.payload = p ∧ p.length = 20 ∧
      u16 p 0 ≤ 511 ∧ u16 p 2 ≤ 16384 ∧ u32 p 16 < 1000000000 ∧ timeAt p 8 16 ≤ a.now + 86400000000000 ∧
      Tbl.get? a.chord.processes (u16 p 0) = some q ∧ u16 p 2 ≤ 8 * q.paramWords ∧ (a.paramSet (u16 p 0)).armed = none ∧
      crc32c (Memory.readN (a.paramSet (u16 p 0)).staged 0 (u16 p 2)) = u32 p 4) ∧
    (∃ (n : Nat) (at_ : Nat) (s : State) (t : _) (q : _) (i : _), (s.paramSet n).armed = some t ∧
      Tbl.get? s.chord.processes n = some q ∧ t ≤ (s.advance at_).now ∧ i = (s.advance at_).index q.domainB) ∧
    (∃ (rq : Request) (s : State) (a : State) (p : List Byte), Served 0x500F rq s a ∧ rq.payload = p ∧ p.length = 4 ∧
      1 ≤ u16 p 2 ∧ u16 p 2 ≤ 500 ∧ u16 p 0 + u16 p 2 ≤ 0x4000) := by
  refine ⟨?_, ?_, ?_, ?_, ?_, ?_, ?_, ?_, ?_, ?_, ?_, ?_⟩
  · refine ⟨req [0, 0, 255, 3, 192, 14, 232, 3], svc.onRx 1023 (fun f => { f with cfg := { f.cfg with kind := 2, param := 64 } }), _, _, _, ⟨?_, rfl⟩, rfl, ?_, ?_, ?_, rfl, ?_, ?_, ?_⟩
    all_goals decide +kernel
  · refine ⟨req [31, 0, 63, 7, 64, 1, 0, 0], svc, _, _, _, ⟨?_, rfl⟩, rfl, ?_, ?_, ?_, ?_, ?_, ?_, ?_, ?_, ?_, ?_, ?_, rfl⟩
    all_goals decide +kernel
  · refine ⟨req [31, 0, 63, 7, 64, 1, 0, 0], low63, _, _, ⟨?_, rfl⟩, rfl, ?_, ?_, ?_, ?_, ?_, ?_, ?_, ?_, ?_, ?_, ?_⟩
    all_goals decide +kernel
  · refine ⟨req ([15, 0, 127, 1, 2, 1, 0, 0] ++ leBytes 8 0 ++ leBytes 4 64 ++ zeros 4), svc.onMem (fun m => { m with tables := [(0, { pinned := true, rt := true })] }), _, _, _, _, ⟨?_, rfl⟩, rfl, ?_, ?_, ?_, ?_, ?_, ?_, ?_, ?_, ?_, ?_, ?_, rfl, ?_, ?_, rfl⟩
    all_goals decide +kernel
  · refine ⟨req [0, 15, 0, 0], svc, _, _, _, ⟨?_, rfl⟩, rfl, ?_, ?_, ?_, ?_, rfl⟩
    all_goals decide +kernel
  · refine ⟨req ([255, 63, 1, 0, 48, 248, 0, 0] ++ leBytes 4 100 ++ [7, 0, 0, 0]), svc, _, _, ⟨?_, rfl⟩, rfl, ?_, ?_, ?_, ?_, ?_, ?_, ?_, ?_, ?_, ?_⟩
    all_goals decide +kernel
  · refine ⟨0x2FFF, 8388608, 9, svc.onASrc 0x2FFF (fun x => { x with present := true, configured := true }), ?_, ?_, ?_, ?_, ?_, ?_⟩
    all_goals decide +kernel
  · refine ⟨0x3FFF, 100000000, svc.onASrc 0x3FFF (fun x => { x with belowSince := some 0, configured := true, actions := 1 }), _, rfl, ?_, ?_, ?_, ?_, ?_⟩
    all_goals decide +kernel
  · refine ⟨req ([3, 0, 0, 0, 8, 0, 0, 0] ++ zeros 8), proc3, _, _, _, ⟨?_, rfl⟩, rfl, ?_, ?_, ?_, ?_, ?_, ?_, rfl, ?_, ?_⟩
    all_goals decide +kernel
  · refine ⟨req ([3, 0, 8, 0] ++ leBytes 4 (crc32c (zeros 8)) ++ zeros 12), proc3, _, _, _, ⟨?_, rfl⟩, rfl, ?_, ?_, ?_, ?_, ?_, rfl, ?_, ?_, ?_⟩
    all_goals decide +kernel
  · refine ⟨3, 9, proc3.onSet 3 (fun x => { x with armed := some 9 }), _, _, _, rfl, rfl, ?_, rfl⟩
    all_goals decide +kernel
  · refine ⟨req [12, 62, 244, 1], svc, _, _, ⟨?_, rfl⟩, rfl, ?_, ?_, ?_, ?_⟩
    all_goals decide +kernel

/-- The hypotheses of every clause of ProcessesAreManaged can be met together. -/
theorem witness_ProcessesAreManaged :
    (∃ (rq : Request) (s : State) (a : State) (p : List Byte), Served 0x6001 rq s a ∧ rq.payload = p ∧ p.length = 4 ∧
      u8 p 0 ≤ 31 ∧ u8 p 1 ≤ 1 ∧ blockOk (u8 p 2) = true ∧ u8 p 3 = 0 ∧ a.onEngine (u8 p 0) = []) ∧
    (∃ (rq : Request) (s : State) (a : State) (p : List Byte), Served 0x6001 rq s a ∧ rq.payload = p ∧ p.length = 4 ∧
      u8 p 0 ≤ 31 ∧ u8 p 1 ≤ 1 ∧ blockOk (u8 p 2) = true ∧ u8 p 3 = 0 ∧ a.onEngine (u8 p 0) ≠ []) ∧
    (∃ (rq : Request) (s : State) (a : State) (p : List Byte) (e : _) (x : _), Served 0x6002 rq s a ∧ rq.payload = p ∧
      p.length = 4 ∧ e = u8 p 0 ∧ e ≤ 31 ∧ fld p 1 3 = 0 ∧ x = Tbl.at a.chord.engines e {} ∧ x.n ≠ 0 ∧ a.onEngine e = []) ∧
    (∃ (rq : Request) (s : State) (a : State) (p : List Byte) (id : _) (q : Process), Served 0x6003 rq s a ∧ rq.payload = p ∧
      p.length = 24 ∧ id = u16 p 0 ∧ id ≤ 511 ∧ u8 p 2 ≤ 1 ∧ blockOk (u8 p 3) = true ∧ u16 p 6 ≤ 256 ∧ u16 p 4 ≤ 2047 ∧
      u16 p 4 + u16 p 6 ≤ 2048 ∧ 1 ≤ u16 p 10 ∧ u16 p 10 ≤ 256 ∧ u16 p 8 + u16 p 10 ≤ 2048 ∧ u8 p 12 ≤ 15 ∧ u8 p 13 = 0 ∧
      u16 p 14 ≤ 2048 ∧ u16 p 16 + u16 p 18 ≤ 32768 ∧ u32 p 20 = 0 ∧ Tbl.get? a.chord.processes id = none ∧
      (∀ e ∈ a.chord.processes, overlap e.2.inFirst e.2.inCount (u16 p 4) (u16 p 6) = false ∧
      overlap e.2.outFirst e.2.outCount (u16 p 8) (u16 p 10) = false) ∧
      q = { domainB := u8 p 2 = 1, n := u8 p 3, inFirst := u16 p 4, inCount := u16 p 6, outFirst := u16 p 8, outCount := u16 p 10, inPair := bit (u8 p 12) 0, outPair := bit (u8 p 12) 1, inSmaj := bit (u8 p 12) 2, outSmaj := bit (u8 p 12) 3, paramWords := u16 p 14, restFirst := u16 p 16, restWords := u16 p 18 }) ∧
    (∃ (rq : Request) (s : State) (a : State) (p : List Byte) (id : _) (q : _), Served 0x6004 rq s a ∧ rq.payload = p ∧
      p.length = 4 ∧ id = u16 p 0 ∧ u16 p 2 = 0 ∧ Tbl.get? a.chord.processes id = some q ∧ q.placements = [] ∧
      (∀ e ∈ a.chord.lines, e.2.process = id → e.2.ring = 0) ∧ (a.paramSet id).handle = none) ∧
    (∃ (rq : Request) (s : State) (a : State) (p : List Byte) (id : _) (q : _) (x : _) (r : _), Served 0x6004 rq s a ∧
      rq.payload = p ∧ p.length = 4 ∧ id = u16 p 0 ∧ u16 p 2 = 0 ∧ Tbl.get? a.chord.processes id = some q ∧
      q.placements = x :: r) ∧
    (∃ (rq : Request) (s : State) (a : State) (p : List Byte), Served 0x6005 rq s a ∧ rq.payload = p ∧
      p.length = 12 + u16 p 8 ∧ u8 p 0 ≤ 3 ∧ fld p 1 3 = 0 ∧ 1 ≤ u16 p 8 ∧ u16 p 8 ≤ 4000 ∧ u32 p 4 + u16 p 8 ≤ 393312 ∧
      u16 p 10 = 0) ∧
    (∃ (rq : Request) (s : State) (a : State) (p : List Byte) (m : _) (r : _), Served 0x6006 rq s a ∧ rq.payload = p ∧
      p.length = 4 ∧ u8 p 0 ≤ 3 ∧ fld p 1 3 = 0 ∧ m = Tbl.at a.chord.slots (u8 p 0) [] ∧ r = checkImage m) ∧
    (∃ (m : _), u32 (Memory.readN m 0 96) 0 ≠ 0x92560C4D) ∧
    (∃ (rq : Request) (s : State) (a : State) (p : List Byte) (q : _), Served 0x6009 rq s a ∧ rq.payload = p ∧ p.length = 4 ∧
      u16 p 2 = 0 ∧ Tbl.get? a.chord.processes (u16 p 0) = some q) ∧
    (∃ (rq : Request) (s : State) (a : State) (p : List Byte) (q : _) (x : _) (r : _) (l : DelayLine), Served 0x600A rq s a ∧
      rq.payload = p ∧ p.length = 24 ∧ u16 p 0 ≤ 2047 ∧ u16 p 2 ≤ 511 ∧ Tbl.get? a.chord.processes (u16 p 2) = some q ∧
      q.placements.filter (fun x => x.engine != 255) = x :: r ∧ 4 * q.n ≤ u32 p 12 ∧ u32 p 12 ≤ 16777216 ∧ u32 p 12 % q.n = 0 ∧
      2 * q.n ≤ u32 p 8 ∧ u32 p 8 + 2 * q.n ≤ u32 p 12 ∧ u64 p 16 + 4 * u32 p 12 ≤ 2 ^ 48 ∧
      (∀ y ∈ x :: r, u16 p 4 + q.n ≤ q.dataWords y ∧ u16 p 6 + q.n ≤ q.dataWords y) ∧
      a.rtPinned (u64 p 16) (4 * u32 p 12) = true ∧
      l = { process := u16 p 2, sendAddr := u16 p 4, retAddr := u16 p 6, delay := u32 p 8, newDelay := u32 p 8, ring := u32 p 12, base := u64 p 16 }) ∧
    (∃ (rq : Request) (s : State) (a : State) (p : List Byte) (q : _) (x : _), Served 0x600B rq s a ∧ rq.payload = p ∧
      p.length = 10 ∧ Tbl.get? a.chord.processes (u16 p 0) = some q ∧
      q.placements.find? (fun x => x.epoch = u16 p 2 && x.engine != 255) = some x ∧ u8 p 4 = 0 ∧ u8 p 5 = 0 ∧ 1 ≤ u16 p 8 ∧
      u16 p 8 ≤ 400 ∧ u16 p 6 + u16 p 8 ≤ q.dataWords x) := by
  refine ⟨?_, ?_, ?_, ?_, ?_, ?_, ?_, ?_, ?_, ?_, ?_, ?_⟩
  · refine ⟨req [31, 1, 64, 0], svc, _, _, ⟨?_, rfl⟩, rfl, ?_, ?_, ?_, ?_, ?_, ?_⟩
    all_goals decide +kernel
  · refine ⟨req [31, 1, 64, 0], placed { engine := 31 }, _, _, ⟨?_, rfl⟩, rfl, ?_, ?_, ?_, ?_, ?_, ?_⟩
    all_goals decide +kernel
  · refine ⟨req [31, 0, 0, 0], slot2, _, _, _, _, ⟨?_, rfl⟩, rfl, ?_, rfl, ?_, ?_, rfl, ?_, ?_⟩
    all_goals decide +kernel
  · refine ⟨req ([255, 1, 1, 64, 0, 7, 0, 1, 0, 7, 0, 1, 15, 0, 0, 8, 0, 0, 0, 128] ++ zeros 4), svc, _, _, _, _, ⟨?_, rfl⟩, rfl, ?_, rfl, ?_, ?_, ?_, ?_, ?_, ?_, ?_, ?_, ?_, ?_, ?_, ?_, ?_, ?_, ?_, ?_, rfl⟩
    all_goals decide +kernel
  · refine ⟨req [3, 0, 0, 0], proc3, _, _, _, _, ⟨?_, rfl⟩, rfl, ?_, rfl, ?_, rfl, ?_, ?_, ?_⟩
    all_goals decide +kernel
  · refine ⟨req [3, 0, 0, 0], placed { engine := 31 }, _, _, _, _, _, _, ⟨?_, rfl⟩, rfl, ?_, rfl, ?_, rfl, rfl⟩
    all_goals decide +kernel
  · refine ⟨req ([3, 0, 0, 0] ++ leBytes 4 393311 ++ [1, 0, 0, 0, 7]), svc, _, _, ⟨?_, rfl⟩, rfl, ?_, ?_, ?_, ?_, ?_, ?_, ?_⟩
    all_goals decide +kernel
  · refine ⟨req [3, 0, 0, 0], svc, _, _, _, _, ⟨?_, rfl⟩, rfl, ?_, ?_, ?_, rfl, rfl⟩
    all_goals decide +kernel
  · refine ⟨[], ?_⟩
    all_goals decide +kernel
  · refine ⟨req [3, 0, 0, 0], proc3, _, _, _, ⟨?_, rfl⟩, rfl, ?_, ?_, rfl⟩
    all_goals decide +kernel
  · refine ⟨req ([255, 7, 3, 0, 0, 0, 16, 0] ++ leBytes 4 16 ++ leBytes 4 32 ++ leBytes 8 0), (placed { engine := 0, dmWords := 16 }).onMem (fun m => { m with tables := [(0, { pinned := true, rt := true })] }), _, _, _, _, _, _, ⟨?_, rfl⟩, rfl, ?_, ?_, ?_, rfl, rfl, ?_, ?_, ?_, ?_, ?_, ?_, ?_, ?_, rfl⟩
    all_goals decide +kernel
  · refine ⟨req [3, 0, 7, 0, 0, 0, 23, 0, 1, 0], placed { engine := 31, epoch := 7, dmWords := 16 }, _, _, _, _, ⟨?_, rfl⟩, rfl, ?_, rfl, rfl, ?_, ?_, ?_, ?_, ?_⟩
    all_goals decide +kernel

/-- The hypotheses of every clause of PlacementsRun can be met together. -/
theorem witness_PlacementsRun :
    (∃ (rq : Request) (s : State) (a : State) (p : List Byte) (id : _) (e : _) (q : _) (start : _) (image : _) (x : Placement), Served 0x6007 rq s a ∧
      rq.payload = p ∧ p.length = 16 ∧ id = u16 p 0 ∧ id ≤ 511 ∧ u16 p 2 ≠ 0 ∧ e = u8 p 4 ∧ e ≤ 31 ∧ u8 p 5 ≤ 3 ∧ u8 p 7 = 0 ∧
      Tbl.get? a.chord.processes id = some q ∧ start = a.indexOr q (u64 p 8) ∧
      checkImage (Tbl.at a.chord.slots (u8 p 5) []) = (image, 0xFFFF, 0) ∧ start % q.n = 0 ∧ q.placements = [] ∧
      (Tbl.at a.chord.engines e {}).n = q.n ∧ (Tbl.at a.chord.engines e {}).domainB = q.domainB ∧
      a.now + 2000000 ≤ indexTime q.domainB start ∧ (a.engineUse e).1 + image.cycles + 32 ≤ tickCycles q.domainB q.n ∧
      (a.engineUse e).2.1 + image.code.length ≤ 16384 ∧
      (a.engineUse e).2.2 + (q.inWords + q.outWords + image.dmWords + 2 * q.paramWords) ≤ 32768 ∧
      x = { epoch := u16 p 2, engine := e, bundle := u8 p 6, startIndex := start, startHandle := some (handleOf 0x6007 rq) }) ∧
    (∃ (rq : Request) (s : State) (a : State) (p : List Byte) (id : _) (e : _) (q : _) (start : _) (image : _), Served 0x6007 rq s a ∧
      rq.payload = p ∧ p.length = 16 ∧ id = u16 p 0 ∧ id ≤ 511 ∧ u16 p 2 ≠ 0 ∧ e = u8 p 4 ∧ e ≤ 31 ∧ u8 p 5 ≤ 3 ∧ u8 p 7 = 0 ∧
      Tbl.get? a.chord.processes id = some q ∧ start = a.indexOr q (u64 p 8) ∧
      checkImage (Tbl.at a.chord.slots (u8 p 5) []) = (image, 0xFFFF, 0) ∧ start % q.n = 0 ∧ q.placements = [] ∧
      (Tbl.at a.chord.engines e {}).n = q.n ∧ (Tbl.at a.chord.engines e {}).domainB = q.domainB ∧
      indexTime q.domainB start < a.now + 2000000) ∧
    (∃ (id : Nat) (epoch : Nat) (at_ : Nat) (s : State) (q : _) (x : _), Tbl.get? s.chord.processes id = some q ∧
      q.placements.find? (fun x => x.epoch = epoch) = some x ∧ x.running = false ∧
      x.startIndex ≤ (s.advance at_).index q.domainB) ∧
    (∃ (rq : Request) (s : State) (a : State) (p : List Byte) (id : _) (q : _) (stop : _), Served 0x6008 rq s a ∧
      rq.payload = p ∧ p.length = 16 ∧ id = u16 p 0 ∧ id ≤ 511 ∧ u32 p 4 = 0 ∧ Tbl.get? a.chord.processes id = some q ∧
      stop = a.indexOr q (u64 p 8) ∧ q.placements.any (fun x => x.epoch = u16 p 2) = true ∧ stop % q.n = 0 ∧
      a.cutOf id q (u16 p 2) = none ∧ q.placements.length = 1 ∧ a.now + 2000000 ≤ indexTime q.domainB stop) ∧
    (∃ (id : Nat) (epoch : Nat) (at_ : Nat) (s : State) (q : _) (x : _) (i : _), Tbl.get? s.chord.processes id = some q ∧
      q.placements.find? (fun x => x.epoch = epoch) = some x ∧ x.stopIndex = some i ∧ i ≤ (s.advance at_).index q.domainB) ∧
    (∃ (e : Nat) (id : Nat) (s : State) (q : _) (x : _), e ≤ 31 ∧ Tbl.get? s.chord.processes id = some q ∧
      q.placements.find? (fun x => x.engine = e) = some x) ∧
    (∃ (e : Nat) (at_ : Nat) (s : State) (s1 : State) (id : _) (q : _) (x : _) (t : _) (n : _), s1 = s.advance at_ ∧
      n = (Tbl.at s.chord.engines e {}).n ∧ n ≠ 0 ∧ s.power.state = .run ∧
      t = s1.index (Tbl.at s.chord.engines e {}).domainB / n * n ∧ s.onEngine e = [(id, q, x)] ∧
      Tbl.get? s.chord.processes id = some q ∧ q.placements = [x] ∧ x.running = true ∧ x.startIndex + q.n ≤ t ∧
      x.stopIndex = none ∧ s1.enginePaused e = false ∧ s1.rests q = false ∧ q.resting = false) := by
  refine ⟨?_, ?_, ?_, ?_, ?_, ?_, ?_⟩
  · refine ⟨req ([3, 0, 7, 0, 31, 0, 255, 0] ++ leBytes 8 0), slot2, _, _, _, _, _, _, imageV, _, ⟨?_, rfl⟩, rfl, ?_, rfl, ?_, ?_, rfl, ?_, ?_, ?_, rfl, rfl, ?_, ?_, ?_, ?_, ?_, ?_, ?_, ?_, ?_, rfl⟩
    all_goals first | decide +kernel | (refine Eq.trans (congrArg checkImage (?_ : _ = image2)) image2_ok <;> decide +kernel)
  · refine ⟨req ([3, 0, 7, 0, 31, 0, 255, 0] ++ leBytes 8 8), slot2, _, _, _, _, _, _, imageV, ⟨?_, rfl⟩, rfl, ?_, rfl, ?_, ?_, rfl, ?_, ?_, ?_, rfl, rfl, ?_, ?_, ?_, ?_, ?_, ?_⟩
    all_goals first | decide +kernel | (refine Eq.trans (congrArg checkImage (?_ : _ = image2)) image2_ok <;> decide +kernel)
  · refine ⟨3, 7, 1000000, placed { epoch := 7, engine := 31, startIndex := 48 }, _, _, rfl, rfl, ?_, ?_⟩
    all_goals decide +kernel
  · refine ⟨req ([3, 0, 7, 0, 0, 0, 0, 0] ++ leBytes 8 0), placed { epoch := 7, engine := 31 }, _, _, _, _, _, ⟨?_, rfl⟩, rfl, ?_, rfl, ?_, ?_, rfl, rfl, ?_, ?_, ?_, ?_, ?_⟩
    all_goals decide +kernel
  · refine ⟨3, 7, 1000000, placed { epoch := 7, engine := 31, stopIndex := some 48 }, _, _, _, rfl, rfl, rfl, ?_⟩
    all_goals decide +kernel
  · refine ⟨31, 3, placed { engine := 31 }, _, _, ?_, rfl, rfl⟩
    all_goals decide +kernel
  · refine ⟨31, 1000000, placed { engine := 31, running := true, startIndex := 40 }, _, 3, { placements := [{ engine := 31, running := true, startIndex := 40 }] }, { engine := 31, running := true, startIndex := 40 }, _, _, rfl, rfl, ?_, ?_, rfl, ?_, ?_, ?_, ?_, ?_, ?_, ?_, ?_, ?_⟩
    all_goals decide +kernel

/-- The hypotheses of every clause of ChordInstructionsAct can be met together. -/
theorem witness_ChordInstructionsAct :
    (∃ (re : _) (im : _), 2 ^ 39 ≤ re ∧ -(2 ^ 39) ≤ im ∧ im < 2 ^ 39) ∧
    (∃ (i : _), cOp i = 0x20 ∧ bit i 51 = false ∧ bit i 45 = false) ∧
    (∃ (i : _), cOp i = 0x21 ∧ bit i 51 = false ∧ bit i 45 = false) ∧
    (∃ (i : _), cOp i = 0x22 ∧ bit i 51 = false) ∧
    (∃ (i : _), cOp i = 0x28 ∧ bit i 51 = false) ∧
    (∃ (i : _) (r : Run) (x : _) (y : _) (o : _), cOp i = 0x11 ∧ bit i 51 = false ∧ bit i 45 = false ∧ bit i 39 = false ∧
      bit i 38 = false ∧ x = r.reg (bits i 50 47) ∧ y = r.reg (bits i 44 41) ∧ o = r.acc (bits i 57 56)) ∧
    (∃ (i : _), cOp i = 0x18) ∧
    (∃ (g : Gen), 0 < g.length) ∧
    (∃ (a : Int) (r : Run), (r.dmSize : Int) ≤ a) ∧
    (∃ (a : Int) (r : Run), (r.dmSize : Int) ≤ a) ∧
    (∃ (code : Array Nat) (pc : _), cOp (code.getD pc 0) = 0x01) := by
  refine ⟨?_, ?_, ?_, ?_, ?_, ?_, ?_, ?_, ?_, ?_, ?_⟩
  · refine ⟨2 ^ 39, -(2 ^ 39), ?_, ?_, ?_⟩
    all_goals decide +kernel
  · refine ⟨0x20 * 2 ^ 58, ?_, ?_, ?_⟩
    all_goals decide +kernel
  · refine ⟨0x21 * 2 ^ 58, ?_, ?_, ?_⟩
    all_goals decide +kernel
  · refine ⟨0x22 * 2 ^ 58, ?_, ?_⟩
    all_goals decide +kernel
  · refine ⟨0x28 * 2 ^ 58, ?_, ?_⟩
    all_goals decide +kernel
  · refine ⟨0x11 * 2 ^ 58, {}, _, _, _, ?_, ?_, ?_, ?_, ?_, rfl, rfl, rfl⟩
    all_goals decide +kernel
  · refine ⟨0x18 * 2 ^ 58, ?_⟩
    all_goals decide +kernel
  · refine ⟨{ length := 1 }, ?_⟩
    all_goals decide +kernel
  · refine ⟨0, {}, ?_⟩
    all_goals decide +kernel
  · refine ⟨0, {}, ?_⟩
    all_goals decide +kernel
  · refine ⟨#[2 ^ 58], 0, ?_⟩
    all_goals decide +kernel

/-- The hypotheses of every clause of SheetsCompose can be met together. -/
theorem witness_SheetsCompose :
    (∃ (rq : Request) (s : State) (a : State) (p : List Byte) (n : _), Served 0x7001 rq s a ∧ rq.payload = p ∧ p.length = 16 ∧
      n = u8 p 0 ∧ n ≤ 31 ∧ u8 p 1 = 1 ∧ formatClass (u8 p 2) (u8 p 3) ≠ none ∧ (s32 p 4).natAbs ≤ 41708332 ∧ 4 ≤ u16 p 8 ∧
      u16 p 8 ≤ 1019 ∧ 4 ≤ u16 p 10 ∧ u16 p 10 ≤ 1019 ∧ 4 ≤ u16 p 12 ∧ u16 p 12 ≤ 1019 ∧ u16 p 14 = 0 ∧
      (a.sheet n).enabled = false ∧ Tbl.get? a.lat.stores (0x500 + n) = none ∧ a.platesUsed + 3 * framePlates (u8 p 2) ≤ 32768 ∧
      a.islandRate n + pixelRate1001 (u8 p 2) ≤ 2002000000000) ∧
    (∃ (rq : Request) (s : State) (a : State) (p : List Byte) (n : _), Served 0x7001 rq s a ∧ rq.payload = p ∧ p.length = 16 ∧
      n = u8 p 0 ∧ n ≤ 31 ∧ u8 p 1 = 1 ∧ formatClass (u8 p 2) (u8 p 3) ≠ none ∧ (s32 p 4).natAbs ≤ 41708332 ∧ 4 ≤ u16 p 8 ∧
      u16 p 8 ≤ 1019 ∧ 4 ≤ u16 p 10 ∧ u16 p 10 ≤ 1019 ∧ 4 ≤ u16 p 12 ∧ u16 p 12 ≤ 1019 ∧ u16 p 14 = 0 ∧
      (a.sheet n).enabled = false ∧ 2002000000000 < a.islandRate n + pixelRate1001 (u8 p 2)) ∧
    (∃ (rq : Request) (s : State) (a : State) (p : List Byte) (n : _) (c : StagedSheet), Served 0x7001 rq s a ∧
      rq.payload = p ∧ p.length = 16 ∧ n = u8 p 0 ∧ n ≤ 31 ∧ u8 p 1 ≤ 1 ∧ formatClass (u8 p 2) (u8 p 3) ≠ none ∧
      (s32 p 4).natAbs ≤ 41708332 ∧ 4 ≤ u16 p 8 ∧ u16 p 8 ≤ 1019 ∧ 4 ≤ u16 p 10 ∧ u16 p 10 ≤ 1019 ∧ 4 ≤ u16 p 12 ∧
      u16 p 12 ≤ 1019 ∧ u16 p 14 = 0 ∧ (a.sheet n).enabled = true ∧ (a.sheet n).format = u8 p 2 ∧
      (a.sheet n).carriage = u8 p 3 ∧
      c = { enable := u8 p 1 = 1, offset := s32 p 4, background := ((u16 p 8 : Nat), (u16 p 10 : Nat), (u16 p 12 : Nat)), notBefore := a.now + 100000 }) ∧
    (∃ (rq : Request) (s : State) (a : State) (p : List Byte) (n : _) (o : StagedOrder), Served 0x7002 rq s a ∧
      rq.payload = p ∧ p.length = 36 ∧ n = u8 p 0 ∧ n ≤ 31 ∧ u8 p 1 = 0 ∧ u8 p 3 = 0 ∧ u32 p 28 < 1000000000 ∧
      timeAt p 20 28 ≤ a.now + 86400000000000 ∧ u32 p 32 = 0 ∧ (a.sheet n).enabled = false ∧ (a.sheet n).stagedOrder = none ∧
      o = { order := { list := false, pages := [] }, notBefore := a.swapTime p 20 28, handles := [handleOf 0x7002 rq] } ∧
      ({ a.sheet n with stagedOrder := some o }).fetchOver = false) ∧
    (∃ (rq : Request) (s : State) (a : State) (p : List Byte) (n : _) (k : _) (h : Sheet) (x : _), Served 0x7003 rq s a ∧
      rq.payload = p ∧ p.length = 52 ∧ n = u8 p 0 ∧ n ≤ 31 ∧ k = u8 p 1 ∧ k ≤ 15 ∧ u16 p 2 = 0 ∧ u32 p 12 < 1000000000 ∧
      timeAt p 4 12 ≤ a.now + 86400000000000 ∧ u32 p 16 = 0 ∧ a.pageOk (p.drop 20) = true ∧ (a.sheet n).enabled = true ∧
      Tbl.get? (a.sheet n).stagedPages k = none ∧
      x = StagedPage.mk (parsePage (p.drop 20)) (a.swapTime p 4 12) [handleOf 0x7003 rq] ∧
      h = { a.sheet n with stagedPages := Tbl.put (a.sheet n).stagedPages k x } ∧ h.fetchOver = false) ∧
    (∃ (rq : Request) (s : State) (a : State) (p : List Byte), Served 0x7004 rq s a ∧ rq.payload = p ∧ p.length = 4 ∧
      u8 p 0 ≤ 31 ∧ u8 p 1 ≤ 15 ∧ u8 p 2 = 0 ∧ u8 p 3 = 0) ∧
    (∃ (rq : Request) (s : State) (a : State) (p : List Byte), Served 0x7005 rq s a ∧ rq.payload = p ∧ p.length = 4 ∧
      formatClass (u8 p 1) (u8 p 2) ≠ none ∧ u8 p 3 = 0) ∧
    (∃ (rq : Request) (s : State) (a : State) (p : List Byte) (h : _), Served 0x7006 rq s a ∧ rq.payload = p ∧ p.length = 4 ∧
      u8 p 0 ≤ 31 ∧ fld p 1 3 = 0 ∧ h = a.sheet (u8 p 0) ∧ h.enabled = false) ∧
    (∃ (n : Nat) (at_ : Nat) (s : State) (s1 : State) (s2 : State), n ≤ 31 ∧ s1 = s.advance at_ ∧ (s.sheet n).enabled = true ∧
      s.composes = true ∧ s.underTest [10] n = false ∧ (s.sheet n).repeatDue = false ∧ s2 = (s1.swapConfig n).swapSheet n ∧
      (s2.sheet n).enabled = true) ∧
    (∃ (n : Nat) (s : State), n ≤ 31 ∧ (s.sheet n).enabled = true ∧ s.composes = true ∧ s.underTest [10] n = false ∧
      (s.sheet n).repeatDue = true) := by
  refine ⟨?_, ?_, ?_, ?_, ?_, ?_, ?_, ?_, ?_, ?_⟩
  · refine ⟨req [31, 1, 0x33, 0, 0, 0, 0, 0, 4, 0, 251, 3, 0, 2, 0, 0], svc, _, _, _, ⟨?_, rfl⟩, rfl, ?_, rfl, ?_, ?_, ?_, ?_, ?_, ?_, ?_, ?_, ?_, ?_, ?_, ?_, ?_, ?_, ?_⟩
    all_goals decide +kernel
  · refine ⟨req [31, 1, 0x33, 0, 0, 0, 0, 0, 4, 0, 251, 3, 0, 2, 0, 0], svc.onSheet 30 (fun h => { h with enabled := true, format := 0x88 }), _, _, _, ⟨?_, rfl⟩, rfl, ?_, rfl, ?_, ?_, ?_, ?_, ?_, ?_, ?_, ?_, ?_, ?_, ?_, ?_, ?_⟩
    all_goals decide +kernel
  · refine ⟨req [31, 0, 0x33, 0, 0, 0, 0, 0, 4, 0, 251, 3, 0, 2, 0, 0], sheetOn, _, _, _, _, ⟨?_, rfl⟩, rfl, ?_, rfl, ?_, ?_, ?_, ?_, ?_, ?_, ?_, ?_, ?_, ?_, ?_, ?_, ?_, ?_, rfl⟩
    all_goals decide +kernel
  · refine ⟨req (31 :: zeros 35), svc, _, _, _, _, ⟨?_, rfl⟩, rfl, ?_, rfl, ?_, ?_, ?_, ?_, ?_, ?_, ?_, ?_, rfl, ?_⟩
    all_goals decide +kernel
  · refine ⟨req ([31, 15] ++ zeros 18 ++ pageBytes {}), sheetOn, _, _, _, _, _, _, ⟨?_, rfl⟩, rfl, ?_, rfl, ?_, rfl, ?_, ?_, ?_, ?_, ?_, ?_, ?_, ?_, rfl, rfl, ?_⟩
    all_goals decide +kernel
  · refine ⟨req [31, 15, 0, 0], svc, _, _, ⟨?_, rfl⟩, rfl, ?_, ?_, ?_, ?_, ?_⟩
    all_goals decide +kernel
  · refine ⟨req [255, 0x33, 0, 0], svc, _, _, ⟨?_, rfl⟩, rfl, ?_, ?_, ?_⟩
    all_goals decide +kernel
  · refine ⟨req [31, 0, 0, 0], svc, _, _, _, ⟨?_, rfl⟩, rfl, ?_, ?_, ?_, rfl, ?_⟩
    all_goals decide +kernel
  · refine ⟨31, 9, sheetOn, _, _, ?_, rfl, ?_, ?_, ?_, ?_, rfl, ?_⟩
    all_goals decide +kernel
  · refine ⟨31, sheetOn.onSheet 31 (fun h => { h with repeatDue := true }), ?_, ?_, ?_, ?_, ?_⟩
    all_goals decide +kernel

/-- The hypotheses of every clause of PlatesAreManaged can be met together. -/
theorem witness_PlatesAreManaged :
    (∃ (rq : Request) (s : State) (a : State) (p : List Byte) (n : _) (got : _) (t : State), Served 0x8001 rq s a ∧
      rq.payload = p ∧ p.length = 4 ∧ n = u16 p 0 ∧ 1 ≤ n ∧ n ≤ 512 ∧ u16 p 2 = 0 ∧ List.length a.mem.plates + n ≤ 14336 ∧
      got = pickPlates (Tbl.keys a.mem.plates) (n + (Tbl.keys a.mem.plates).length) 32768 n ∧
      t = each got (fun k s => s.onMem (fun m => { m with plates := Tbl.put m.plates k { state := .allocated } })) a) ∧
    (∃ (rq : Request) (s : State) (a : State) (p : List Byte) (n : _) (got : _) (t : State), Served 0x8001 rq s a ∧
      rq.payload = p ∧ p.length = 4 ∧ n = u16 p 0 ∧ 1 ≤ n ∧ n ≤ 512 ∧ u16 p 2 = 0 ∧ List.length a.mem.plates + n ≤ 14336 ∧
      got = pickPlates (Tbl.keys a.mem.plates) (n + (Tbl.keys a.mem.plates).length) 32768 n ∧
      t = each got (fun k s => s.onMem (fun m => { m with plates := Tbl.put m.plates k { state := .allocated } })) a) ∧
    (∃ (rq : Request) (s : State) (a : State) (p : List Byte) (n : _), Served 0x8001 rq s a ∧ rq.payload = p ∧ p.length = 4 ∧
      n = u16 p 0 ∧ 1 ≤ n ∧ n ≤ 512 ∧ u16 p 2 = 0 ∧ 14336 < List.length a.mem.plates + n) ∧
    (∃ (rq : Request) (s : State) (a : State) (p : List Byte) (k : _), Served 0x8002 rq s a ∧ rq.payload = p ∧ p.length = 8 ∧
      u16 p 0 = 1 ∧ u16 p 2 = 0 ∧ k = u32 (p.drop 4) 0 ∧ 32768 ≤ k ∧ k < 47104 ∧ (a.plate k).state = .allocated ∧
      (a.plate k).mapCount = 0) ∧
    (∃ (rq : Request) (s : State) (a : State) (p : List Byte) (k : _), Served 0x8002 rq s a ∧ rq.payload = p ∧ p.length = 8 ∧
      u16 p 0 = 1 ∧ u16 p 2 = 0 ∧ k = u32 (p.drop 4) 0 ∧ 32768 ≤ k ∧ k < 47104 ∧ (a.plate k).mapCount ≠ 0) ∧
    (∃ (k : Nat) (s : State), (s.plate k).state = .zeroing) ∧
    (∃ (rq : Request) (s : State) (a : State) (p : List Byte) (f : _) (first : _) (k : _) (t : State) (e : Pte), Served 0x8003 rq s a ∧
      rq.payload = p ∧ p.length = 24 ∧ u64 p 0 % 2 ^ 21 = 0 ∧ u16 p 8 = 1 ∧ first = u64 p 0 / 2 ^ 21 ∧ first < 2 ^ 27 ∧
      f = u16 p 10 ∧ f ≤ 7 ∧ ((bit f 2 = false ∨ bit f 1 = true)) ∧ u16 p 12 = 0 ∧ u8 p 15 = 0 ∧ u32 p 20 = 0 ∧ k = u32 p 16 ∧
      k < 47104 ∧ ((bit f 0 = false ∨ 32768 ≤ k)) ∧ (32768 ≤ k → (a.plate k).state = .allocated) ∧ a.entryInUse first = false ∧
      a.pinsOk [first] (bit f 1) = true ∧
      e = { writable := bit f 0, pinned := bit f 1, rt := bit f 2, remote := false, node := 0, plate := k, generation := BitVec.ofNat 8 (u8 p 14) } ∧
      t = a.mapEntry first e ∧ (∀ c ∈ t.mem.channels, c.2.state ≠ .parked)) ∧
    (∃ (rq : Request) (s : State) (a : State) (p : List Byte), Served 0x8004 rq s a ∧ rq.payload = p ∧ p.length = 16 ∧
      u64 p 0 % 2 ^ 21 = 0 ∧ u16 p 8 = 1 ∧ u64 p 0 / 2 ^ 21 < 2 ^ 27 ∧ fld p 10 6 = 0 ∧
      a.entryInUse (u64 p 0 / 2 ^ 21) = false) ∧
    (∃ (rq : Request) (s : State) (a : State) (p : List Byte), Served 0x8005 rq s a ∧ rq.payload = p ∧ p.length = 16 ∧
      u64 p 0 % 2 ^ 21 = 0 ∧ 1 ≤ u16 p 8 ∧ u16 p 8 ≤ 500 ∧ u64 p 0 / 2 ^ 21 + u16 p 8 ≤ 2 ^ 27 ∧ fld p 10 6 = 0) ∧
    (∃ (rq : Request) (s : State) (a : State) (p : List Byte) (k : _), Served 0x8006 rq s a ∧ rq.payload = p ∧ p.length = 8 ∧
      k = u32 p 0 ∧ u16 p 4 = 1 ∧ u8 p 6 ≤ 2 ∧ u8 p 7 = 0 ∧ 32768 ≤ k ∧ k < 47104 ∧ (a.plate k).state = .allocated) ∧
    (∃ (rq : Request) (s : State) (a : State) (p : List Byte) (st : _), Served 0x8007 rq s a ∧ rq.payload = p ∧ p.length = 4 ∧
      u16 p 2 = 0 ∧ sourceOk (u16 p 0) = true ∧ u16 p 0 ≠ 0xFFFF ∧ Tbl.get? a.lat.stores (u16 p 0) = some st ∧ st.frames = []) := by
  refine ⟨?_, ?_, ?_, ?_, ?_, ?_, ?_, ?_, ?_, ?_, ?_⟩
  · refine ⟨req [0, 2, 0, 0], svc, _, _, _, _, _, ⟨?_, rfl⟩, rfl, ?_, rfl, ?_, ?_, ?_, ?_, rfl, rfl⟩
    all_goals decide +kernel
  · refine ⟨req [1, 0, 0, 0], svc, _, _, _, _, _, ⟨?_, rfl⟩, rfl, ?_, rfl, ?_, ?_, ?_, ?_, rfl, rfl⟩
    all_goals decide +kernel
  · refine ⟨req [1, 0, 0, 0], svc.onMem (fun m => { m with plates := (List.range 14336).map (fun k => (32768 + k, {})) }), _, _, _, ⟨?_, rfl⟩, rfl, ?_, rfl, ?_, ?_, ?_, ?_⟩
    all_goals decide +kernel
  · refine ⟨req [1, 0, 0, 0, 255, 183, 0, 0], plate0 { state := .allocated }, _, _, _, ⟨?_, rfl⟩, rfl, ?_, ?_, ?_, rfl, ?_, ?_, ?_, ?_⟩
    all_goals decide +kernel
  · refine ⟨req [1, 0, 0, 0, 255, 183, 0, 0], plate0 { state := .allocated, mapCount := 1 }, _, _, _, ⟨?_, rfl⟩, rfl, ?_, ?_, ?_, rfl, ?_, ?_, ?_⟩
    all_goals decide +kernel
  · refine ⟨47103, plate0 { state := .zeroing }, ?_⟩
    all_goals decide +kernel
  · refine ⟨req (leBytes 8 ((2 ^ 27 - 1) * 2 ^ 21) ++ [1, 0, 7, 0, 0, 0, 9, 0] ++ leBytes 4 47103 ++ zeros 4), plate0 { state := .allocated }, _, _, _, _, _, _, _, ⟨?_, rfl⟩, rfl, ?_, ?_, ?_, rfl, ?_, rfl, ?_, ?_, ?_, ?_, ?_, rfl, ?_, ?_, ?_, ?_, ?_, rfl, rfl, ?_⟩
    all_goals decide +kernel
  · refine ⟨req (leBytes 8 ((2 ^ 27 - 1) * 2 ^ 21) ++ [1, 0, 0, 0, 0, 0, 0, 0]), svc, _, _, ⟨?_, rfl⟩, rfl, ?_, ?_, ?_, ?_, ?_, ?_⟩
    all_goals decide +kernel
  · refine ⟨req (leBytes 8 0 ++ [244, 1, 0, 0, 0, 0, 0, 0]), svc, _, _, ⟨?_, rfl⟩, rfl, ?_, ?_, ?_, ?_, ?_, ?_⟩
    all_goals decide +kernel
  · refine ⟨req (leBytes 4 47103 ++ [1, 0, 2, 0]), plate0 { state := .allocated }, _, _, _, ⟨?_, rfl⟩, rfl, ?_, rfl, ?_, ?_, ?_, ?_, ?_, ?_⟩
    all_goals decide +kernel
  · refine ⟨req [7, 0, 0, 0], svc.onLat (fun l => { l with stores := [(7, {})] }), _, _, _, ⟨?_, rfl⟩, rfl, ?_, ?_, ?_, ?_, rfl, ?_⟩
    all_goals decide +kernel

/-- The hypotheses of every clause of MemoryKeepsWhatIsWritten can be met together. -/
theorem witness_MemoryKeepsWhatIsWritten :
    (∃ (off : _), 2 ^ 36 ≤ off) ∧
    (∃ (off : _) (data : List Byte) (c : _), ((c < off ∨ off + data.length ≤ c))) := by
  refine ⟨?_, ?_⟩
  · refine ⟨2 ^ 36, ?_⟩
    all_goals decide +kernel
  · refine ⟨5, [1], 6, ?_⟩
    all_goals decide +kernel

/-- The hypotheses of every clause of DmaChannelsMove can be met together. -/
theorem witness_DmaChannelsMove :
    (∃ (rq : Request) (s : State) (a : State) (p : List Byte) (ch : _) (r : _) (j : _), Served 0x8008 rq s a ∧ rq.payload = p ∧
      p.length = 36 ∧ ch = u8 p 0 ∧ 48 ≤ ch ∧ ch ≤ 63 ∧ u8 p 1 = 1 ∧ u16 p 2 = 0 ∧ r = (p.drop 4).take 32 ∧
      descriptorOk r = true ∧ a.hostUp (parseDescriptor r) = true ∧ (a.chan ch).jobs = [] ∧ (a.chan ch).state = .idle ∧
      j = DmaJob.mk [parseDescriptor r] (handleOf 0x8008 rq) 0) ∧
    (∃ (rq : Request) (s : State) (a : State) (p : List Byte) (ch : _) (r : _), Served 0x8008 rq s a ∧ rq.payload = p ∧
      p.length = 36 ∧ ch = u8 p 0 ∧ 48 ≤ ch ∧ ch ≤ 63 ∧ u8 p 1 = 1 ∧ u16 p 2 = 0 ∧ r = (p.drop 4).take 32 ∧
      descriptorOk r = true ∧ a.hostUp (parseDescriptor r) = true ∧
      64 ≤ (a.chan ch).jobs.foldl (fun t j => t + j.descriptors.length) 0) ∧
    (∃ (ch : _) (s : State) (d : _) (x : _) (n : _), (s.chan ch).current = some d ∧ (s.chan ch).state = .running ∧
      s.dmaWaiting ch = false ∧ s.dmaHeld d (s.chan ch).progress = false ∧ d.fill = true ∧ d.dstSpace = 0 ∧
      s.translate (d.dst + (s.chan ch).progress) true false = .local_ x ∧ n = s.dmaSize d (s.chan ch).progress) ∧
    (∃ (ch : _) (s : State), (s.chan ch).state = .running) ∧
    (∃ (ch : Nat) (s : State) (j : _) (r : _), (s.chan ch).jobs = j :: r ∧ (s.chan ch).state = .running ∧
      j.descriptors.length ≤ (s.chan ch).descIndex) ∧
    (∃ (rq : Request) (s : State) (a : State) (p : _) (ch : _), Served 0x8009 (withOp 0 rq) s a ∧ (withOp 0 rq).payload = p ∧
      p.length = 4 ∧ ch = u8 p 0 ∧ u8 p 1 = 0 ∧ 48 ≤ ch ∧ ch ≤ 63 ∧ u16 p 2 = 0 ∧ (a.chan ch).state = .parked) ∧
    (∃ (rq : Request) (s : State) (a : State) (p : _) (ch : _) (d : _), Served 0x8009 (withOp 1 rq) s a ∧
      (withOp 1 rq).payload = p ∧ p.length = 4 ∧ ch = u8 p 0 ∧ u8 p 1 = 1 ∧ 48 ≤ ch ∧ ch ≤ 63 ∧ u16 p 2 = 0 ∧
      (a.chan ch).state = .parked ∧ (a.chan ch).current = some d) ∧
    (∃ (rq : Request) (s : State) (a : State) (p : _) (ch : _), Served 0x8009 (withOp 2 rq) s a ∧ (withOp 2 rq).payload = p ∧
      p.length = 4 ∧ ch = u8 p 0 ∧ u8 p 1 = 2 ∧ 48 ≤ ch ∧ ch ≤ 63 ∧ u16 p 2 = 0 ∧ (a.chan ch).state = .running) ∧
    (∃ (rq : Request) (s : State) (a : State) (p : _) (ch : _), Served 0x8009 (withOp 2 rq) s a ∧ (withOp 2 rq).payload = p ∧
      p.length = 4 ∧ ch = u8 p 0 ∧ u8 p 1 = 2 ∧ 48 ≤ ch ∧ ch ≤ 63 ∧ u16 p 2 = 0 ∧ (a.chan ch).state = .idle) ∧
    (∃ (rq : Request) (s : State) (a : State) (p : List Byte) (ch : _) (c : _), Served 0x800A rq s a ∧ rq.payload = p ∧
      p.length = 4 ∧ ch = u8 p 0 ∧ 48 ≤ ch ∧ ch ≤ 63 ∧ fld p 1 3 = 0 ∧ c = a.chan ch) := by
  refine ⟨?_, ?_, ?_, ?_, ?_, ?_, ?_, ?_, ?_, ?_⟩
  · refine ⟨req ([63, 1, 0, 0] ++ fillRecord), svc, _, _, _, _, _, ⟨?_, rfl⟩, rfl, ?_, rfl, ?_, ?_, ?_, ?_, rfl, ?_, ?_, ?_, ?_, rfl⟩
    all_goals decide +kernel
  · refine ⟨req ([48, 1, 0, 0] ++ fillRecord), chan48 { jobs := [{ descriptors := List.replicate 64 fill4, handle := {} }], state := .running }, _, _, _, _, ⟨?_, rfl⟩, rfl, ?_, rfl, ?_, ?_, ?_, ?_, rfl, ?_, ?_, ?_⟩
    all_goals decide +kernel
  · refine ⟨48, chan48 { jobs := [job1], state := .running }, _, 32768 * plateBytes, _, rfl, ?_, ?_, ?_, ?_, ?_, ?_, rfl⟩
    all_goals decide +kernel
  · refine ⟨48, chan48 { jobs := [job1], state := .running }, ?_⟩
    all_goals decide +kernel
  · refine ⟨48, chan48 { jobs := [job1], state := .running, descIndex := 1 }, _, _, rfl, ?_, ?_⟩
    all_goals decide +kernel
  · refine ⟨req [48, 9, 0, 0], chan48 { jobs := [job1], state := .parked }, _, _, _, ⟨?_, rfl⟩, rfl, ?_, rfl, ?_, ?_, ?_, ?_, ?_⟩
    all_goals decide +kernel
  · refine ⟨req [48, 9, 0, 0], chan48 { jobs := [job1], state := .parked }, _, _, _, _, ⟨?_, rfl⟩, rfl, ?_, rfl, ?_, ?_, ?_, ?_, ?_, rfl⟩
    all_goals decide +kernel
  · refine ⟨req [48, 9, 0, 0], chan48 { jobs := [job1], state := .running }, _, _, _, ⟨?_, rfl⟩, rfl, ?_, rfl, ?_, ?_, ?_, ?_, ?_⟩
    all_goals decide +kernel
  · refine ⟨req [63, 9, 0, 0], svc, _, _, _, ⟨?_, rfl⟩, rfl, ?_, rfl, ?_, ?_, ?_, ?_, ?_⟩
    all_goals decide +kernel
  · refine ⟨req [48, 0, 0, 0], svc, _, _, _, _, ⟨?_, rfl⟩, rfl, ?_, rfl, ?_, ?_, ?_, rfl⟩
    all_goals decide +kernel

/-- The hypotheses of every clause of MatrixServes can be met together. -/
theorem witness_MatrixServes :
    (∃ (rq : Request) (s : State) (a : State) (p : List Byte) (t : State) (x : _), Served 0x800B rq s a ∧ rq.payload = p ∧
      p.length = 4 ∧ u8 p 0 ≤ 3 ∧ fld p 1 3 = 0 ∧ a.memStatus (u8 p 0) = (x, t)) ∧
    (∃ (rq : Request) (s : State) (a : State) (p : List Byte), Served 0x800C rq s a ∧ rq.payload = p ∧ p.length = 4 ∧
      1 ≤ u8 p 0 ∧ u8 p 0 ≤ 24 ∧ fld p 1 3 = 0) ∧
    (∃ (rq : Request) (s : State) (a : State) (p : List Byte), Served 0x800C rq s a ∧ rq.payload = p ∧ p.length = 4 ∧
      1 ≤ u8 p 0 ∧ u8 p 0 ≤ 24 ∧ fld p 1 3 = 0) ∧
    (∃ (rq : Request) (s : State) (a : State), Served 0x800D rq s a ∧ rq.payload = []) ∧
    (∃ (rq : Request) (s : State) (a : State), Served 0x800E rq s a ∧ rq.payload = []) ∧
    (∃ (va : Nat) (s : State) (k : _) (e : _), k = va / 2 ^ 21 ∧ s.mem.walks.contains k = true ∧
      Tbl.get? s.mem.tables k = some e ∧ e.remote = false ∧ e.plate < 47104) ∧
    (∃ (n : _) (off : Nat) (s : State), n = off / 4096 % 4 ∧ (s.stack n).scrubDone + 1 < stackLines) ∧
    (∃ (n : _) (off : Nat) (s : State), n = off / 4096 % 4 ∧ (s.stack n).scrubDone + 1 < stackLines) ∧
    (∃ (n : Nat) (b : List Byte) (s : State) (s1 : State) (m : _) (k : _) (g : _) (off : _) (r : _), blocksOf b.length ≤ s.creditRoom n 2 ∧
      s1 = s.gotBlocks n 2 (blocksOf b.length) ∧ (s1.link n).state = .up ∧ txOk b = true ∧ (parseTx b).content = 1 ∧
      (parseTx b).kind = 0 ∧ m = b.drop 8 ∧ dmaMessageOk m = true ∧ u8 m 0 = 1 ∧ u16 m 4 = s1.node ∧ s1.node ≠ 0 ∧
      s1.mem.matrixWhy = .none ∧ s1.twin.role ≠ .standby ∧ k = u32 m 8 % 2 ^ 21 ∧ g = BitVec.ofNat 8 (u32 m 8 / 2 ^ 24) ∧
      off = u32 m 12 % 2 ^ 21 ∧ s1.dmaCheck false k g off (u16 m 2) = 0 ∧ r = s1.dramRead (k * 2 ^ 21 + off) (u16 m 2)) ∧
    (∃ (n : Nat) (b : List Byte) (s : State) (s1 : State) (m : _) (k : _) (g : _) (off : _), blocksOf b.length ≤ s.creditRoom n 2 ∧
      s1 = s.gotBlocks n 2 (blocksOf b.length) ∧ (s1.link n).state = .up ∧ txOk b = true ∧ (parseTx b).content = 1 ∧
      (parseTx b).kind = 0 ∧ m = b.drop 8 ∧ dmaMessageOk m = true ∧ u8 m 0 = 3 ∧ u16 m 4 = s1.node ∧ s1.node ≠ 0 ∧
      s1.mem.matrixWhy = .none ∧ s1.twin.role ≠ .standby ∧ k = u32 m 8 % 2 ^ 21 ∧ g = BitVec.ofNat 8 (u32 m 8 / 2 ^ 24) ∧
      off = u32 m 12 % 2 ^ 21 ∧ s1.dmaCheck true k g off (u16 m 2) = 0) ∧
    (∃ (n : Nat) (b : List Byte) (s : State) (s1 : State) (t : _) (ch : _), blocksOf b.length ≤ s.creditRoom n 2 ∧
      s1 = s.gotBlocks n 2 (blocksOf b.length) ∧ (s1.link n).state = .up ∧ txOk b = true ∧ (parseTx b).content = 1 ∧
      (parseTx b).kind = 1 ∧ dmaMessageOk (b.drop 8) = true ∧ s1.findTxn n 2 (parseTx b).txid = some t ∧ t.inLink = none ∧
      t.dmaChannel = some ch) ∧
    (∃ (s : State), s.mem.matrixWhy = .recovery) := by
  refine ⟨?_, ?_, ?_, ?_, ?_, ?_, ?_, ?_, ?_, ?_, ?_, ?_⟩
  · refine ⟨req [3, 0, 0, 0], svc, _, _, _, _, ⟨?_, rfl⟩, rfl, ?_, ?_, ?_, rfl⟩
    all_goals decide +kernel
  · refine ⟨req [24, 0, 0, 0], svc, _, _, ⟨?_, rfl⟩, rfl, ?_, ?_, ?_, ?_⟩
    all_goals decide +kernel
  · refine ⟨req [1, 0, 0, 0], svc, _, _, ⟨?_, rfl⟩, rfl, ?_, ?_, ?_, ?_⟩
    all_goals decide +kernel
  · refine ⟨req [], svc, _, ⟨?_, rfl⟩, ?_⟩
    all_goals decide +kernel
  · refine ⟨req [], svc, _, ⟨?_, rfl⟩, ?_⟩
    all_goals decide +kernel
  · refine ⟨5, svc.onMem (fun m => { m with walks := [0], tables := [(0, { plate := 47103 })] }), _, _, rfl, ?_, rfl, ?_, ?_⟩
    all_goals decide +kernel
  · refine ⟨_, 0x3000, svc, rfl, ?_⟩
    all_goals decide +kernel
  · refine ⟨_, 0, svc, rfl, ?_⟩
    all_goals decide +kernel
  · refine ⟨63, dmaIn 0 1 4 [], node9, _, _, _, _, _, _, ?_, rfl, ?_, ?_, ?_, ?_, rfl, ?_, ?_, ?_, ?_, ?_, ?_, rfl, rfl, rfl, ?_, rfl⟩
    all_goals decide +kernel
  · refine ⟨63, dmaIn 0 3 4 [1, 2, 3, 4], node9, _, _, _, _, _, ?_, rfl, ?_, ?_, ?_, ?_, rfl, ?_, ?_, ?_, ?_, ?_, ?_, rfl, rfl, rfl, ?_⟩
    all_goals decide +kernel
  · refine ⟨63, dmaIn 1 2 4 [1, 2, 3, 4], node9.onLink 63 (fun l => { l with outstanding := [{ txid := 7, vc := 2, dmaChannel := some 48 }] }), _, _, _, ?_, rfl, ?_, ?_, ?_, ?_, ?_, rfl, ?_, rfl⟩
    all_goals decide +kernel
  · refine ⟨svc.onMem (fun m => { m with matrixWhy := .recovery }), ?_⟩
    all_goals decide +kernel

/-- The hypotheses of every clause of TimeCommandsAct can be met together. -/
theorem witness_TimeCommandsAct :
    (∃ (rq : Request) (s : State) (a : State), Served 0x9001 rq s a ∧ rq.payload = []) ∧
    (∃ (rq : Request) (s : State) (a : State) (p : List Byte), Served 0x9002 rq s a ∧ rq.payload = p ∧ p.length = 16 ∧
      u32 p 8 < 1000000000 ∧ u32 p 12 = 0 ∧ ((a.ref.state = .freeRun ∨ a.ref.state = .holdover ∨ a.ref.state = .lost))) ∧
    (∃ (rq : Request) (s : State) (a : State) (p : List Byte), Served 0x9002 rq s a ∧ rq.payload = p ∧ p.length = 16 ∧
      u32 p 8 < 1000000000 ∧ u32 p 12 = 0 ∧ a.ref.state = .locked ∧
      ((a.ref.selected = some 2 ∨ a.ref.selected = some 3 ∨ a.ref.selected = some 4))) ∧
    (∃ (rq : Request) (s : State) (a : State) (p : List Byte) (i : _), Served 0x9003 rq s a ∧ rq.payload = p ∧ p.length = 16 ∧
      i = u8 p 0 ∧ i ≤ 6 ∧ ((i < 2 ∨ 4 < i)) ∧ u8 p 3 ≤ 1 ∧ (i ≠ 5 → u8 p 3 = 0) ∧ u16 p 4 = 0 ∧ u16 p 6 = 0 ∧ u32 p 12 = 0) ∧
    (∃ (rq : Request) (s : State) (a : State) (p : List Byte) (i : _), Served 0x9003 rq s a ∧ rq.payload = p ∧ p.length = 16 ∧
      i = u8 p 0 ∧ i ≤ 6 ∧ ((i < 2 ∨ 4 < i)) ∧ u8 p 3 ≤ 1 ∧ (i ≠ 5 → u8 p 3 = 0) ∧ u16 p 4 = 0 ∧ u16 p 6 = 0 ∧ u32 p 12 = 0) ∧
    (∃ (rq : Request) (s : State) (a : State) (p : List Byte), Served 0x9004 rq s a ∧ rq.payload = p ∧ p.length = 12 ∧
      5 ≤ u16 p 0 ∧ u16 p 0 ≤ 5000 ∧ u8 p 2 ≤ 60 ∧ u8 p 3 < 4 ∧ 60 ≤ u32 p 4 ∧ u32 p 4 ≤ 604800 ∧ 1 ≤ u8 p 8 ∧ u8 p 8 ≤ 100 ∧
      u16 p 10 = 0) ∧
    (∃ (rq : Request) (s : State) (a : State) (p : List Byte), Served 0x9004 rq s a ∧ rq.payload = p ∧ p.length = 12 ∧
      5 ≤ u16 p 0 ∧ u16 p 0 ≤ 5000 ∧ u8 p 2 ≤ 60 ∧ u8 p 3 < 4 ∧ 60 ≤ u32 p 4 ∧ u32 p 4 ≤ 604800 ∧ 1 ≤ u8 p 8 ∧ u8 p 8 ≤ 100 ∧
      u16 p 10 = 0) ∧
    (∃ (rq : Request) (s : State) (a : State) (i : _), Served 0x9005 rq s a ∧ rq.payload = [] ∧ a.ref.selected = some i) ∧
    (∃ (rq : Request) (s : State) (a : State) (p : List Byte), Served 0x9006 rq s a ∧ rq.payload = p ∧ p.length = 4 ∧
      u8 p 0 ≤ 1 ∧ u8 p 1 ≤ 127 ∧ u8 p 2 ≤ 1 ∧ 2 ≤ u8 p 3 ∧ u8 p 3 ≤ 10) ∧
    (∃ (rq : Request) (s : State) (a : State) (p : List Byte) (i : _), Served 0x9007 rq s a ∧ rq.payload = p ∧ p.length = 4 ∧
      u8 p 0 ≤ 1 ∧ fld p 1 3 = 0 ∧ i = a.ptp (u8 p 0)) ∧
    (∃ (rq : Request) (s : State) (a : State) (p : List Byte), Served 0x9008 rq s a ∧ rq.payload = p ∧ p.length = 4 ∧
      -100000 ≤ s32 p 0 ∧ s32 p 0 ≤ 100000 ∧ a.ref.state = .freeRun) ∧
    (∃ (rq : Request) (s : State) (a : State) (p : List Byte), Served 0x9008 rq s a ∧ rq.payload = p ∧ p.length = 4 ∧
      ((s32 p 0 < -100000 ∨ 100000 < s32 p 0))) ∧
    (∃ (rq : Request) (s : State) (a : State) (p : List Byte), Served 0x9008 rq s a ∧ rq.payload = p ∧ p.length = 4 ∧
      ((s32 p 0 < -100000 ∨ 100000 < s32 p 0))) ∧
    (∃ (rq : Request) (s : State) (a : State) (p : List Byte), Served 0x9009 rq s a ∧ rq.payload = p ∧ p.length = 4 ∧
      u8 p 0 < 32 ∧ fld p 1 3 = 0) ∧
    (∃ (rq : Request) (s : State) (a : State) (p : List Byte) (n : _), Served 0x900A rq s a ∧ rq.payload = p ∧ p.length = 4 ∧
      n = u8 p 0 ∧ 1 ≤ n ∧ n ≤ 64 ∧ fld p 1 3 = 0) ∧
    (∃ (rq : Request) (s : State) (a : State) (p : List Byte) (hz : _), Served 0x900B rq s a ∧ rq.payload = p ∧ p.length = 4 ∧
      u8 p 1 = 0 ∧ a.clkmonHz (u8 p 0) = some hz ∧ hz ≤ 250000000 * (u16 p 2 + 1) ∧ ((u8 p 0 < 0x40 ∨ 0x42 < u8 p 0))) ∧
    (∃ (rq : Request) (s : State) (a : State) (p : List Byte) (hz : _), Served 0x900B rq s a ∧ rq.payload = p ∧ p.length = 4 ∧
      u8 p 1 = 0 ∧ a.clkmonHz (u8 p 0) = some hz ∧ 250000000 * (u16 p 2 + 1) < hz) ∧
    (∃ (rq : Request) (s : State) (a : State) (good : Nat → Bool), Served 0x900C rq s a ∧ rq.payload = [] ∧
      good = (fun c => (Tbl.at a.ref.clocks c {}).good)) ∧
    (∃ (rq : Request) (s : State) (a : State) (p : List Byte), Served 0x900D rq s a ∧ rq.payload = p ∧ p.length = 12 ∧
      -86399 ≤ s32 p 0 ∧ s32 p 0 ≤ 86399 ∧ u32 p 4 ≤ 86399 ∧ u8 p 8 ≤ 1 ∧ u8 p 9 = 0) := by
  refine ⟨?_, ?_, ?_, ?_, ?_, ?_, ?_, ?_, ?_, ?_, ?_, ?_, ?_, ?_, ?_, ?_, ?_, ?_, ?_⟩
  · refine ⟨req [], svc, _, ⟨?_, rfl⟩, ?_⟩
    all_goals decide +kernel
  · refine ⟨req (leBytes 8 5 ++ leBytes 4 999999999 ++ zeros 4), svc, _, _, ⟨?_, rfl⟩, rfl, ?_, ?_, ?_, ?_⟩
    all_goals decide +kernel
  · refine ⟨req (leBytes 8 5 ++ leBytes 4 999999999 ++ zeros 4), ref .locked, _, _, ⟨?_, rfl⟩, rfl, ?_, ?_, ?_, ?_, ?_⟩
    all_goals decide +kernel
  · refine ⟨req [5, 1, 9, 1, 0, 0, 0, 0, 1, 0, 0, 0, 0, 0, 0, 0], svc, _, _, _, ⟨?_, rfl⟩, rfl, ?_, rfl, ?_, ?_, ?_, ?_, ?_, ?_, ?_⟩
    all_goals decide +kernel
  · refine ⟨req [6, 1, 9, 0, 0, 0, 0, 0, 1, 0, 0, 0, 0, 0, 0, 0], svc, _, _, _, ⟨?_, rfl⟩, rfl, ?_, rfl, ?_, ?_, ?_, ?_, ?_, ?_, ?_⟩
    all_goals decide +kernel
  · refine ⟨req ([136, 19, 60, 3] ++ leBytes 4 604800 ++ [100, 255, 0, 0]), svc, _, _, ⟨?_, rfl⟩, rfl, ?_, ?_, ?_, ?_, ?_, ?_, ?_, ?_, ?_, ?_⟩
    all_goals decide +kernel
  · refine ⟨req ([5, 0, 0, 0] ++ leBytes 4 60 ++ [1, 0, 0, 0]), svc, _, _, ⟨?_, rfl⟩, rfl, ?_, ?_, ?_, ?_, ?_, ?_, ?_, ?_, ?_, ?_⟩
    all_goals decide +kernel
  · refine ⟨req [], ref .locked, _, _, ⟨?_, rfl⟩, ?_, rfl⟩
    all_goals decide +kernel
  · refine ⟨req [1, 127, 1, 10], svc, _, _, ⟨?_, rfl⟩, rfl, ?_, ?_, ?_, ?_, ?_, ?_⟩
    all_goals decide +kernel
  · refine ⟨req [1, 0, 0, 0], svc, _, _, _, ⟨?_, rfl⟩, rfl, ?_, ?_, ?_, rfl⟩
    all_goals decide +kernel
  · refine ⟨req (leInt 4 (-100000)), svc, _, _, ⟨?_, rfl⟩, rfl, ?_, ?_, ?_, ?_⟩
    all_goals decide +kernel
  · refine ⟨req (leInt 4 (-100001)), svc, _, _, ⟨?_, rfl⟩, rfl, ?_, ?_⟩
    all_goals decide +kernel
  · refine ⟨req (leInt 4 100001), svc, _, _, ⟨?_, rfl⟩, rfl, ?_, ?_⟩
    all_goals decide +kernel
  · refine ⟨req [31, 0, 0, 0], svc, _, _, ⟨?_, rfl⟩, rfl, ?_, ?_, ?_⟩
    all_goals decide +kernel
  · refine ⟨req [64, 0, 0, 0], svc, _, _, _, ⟨?_, rfl⟩, rfl, ?_, rfl, ?_, ?_, ?_⟩
    all_goals decide +kernel
  · refine ⟨req [1, 0, 0, 0], svc, _, _, _, ⟨?_, rfl⟩, rfl, ?_, ?_, rfl, ?_, ?_⟩
    all_goals decide +kernel
  · refine ⟨req [0x11, 0, 0, 0], svc, _, _, _, ⟨?_, rfl⟩, rfl, ?_, ?_, rfl, ?_⟩
    all_goals decide +kernel
  · refine ⟨req [], svc, _, _, ⟨?_, rfl⟩, ?_, rfl⟩
    all_goals decide +kernel
  · refine ⟨req (leInt 4 (-86399) ++ leBytes 4 86399 ++ [1, 0, 0, 0]), svc, _, _, ⟨?_, rfl⟩, rfl, ?_, ?_, ?_, ?_, ?_, ?_⟩
    all_goals decide +kernel

/-- The hypotheses of every clause of CandidatesAreSelected can be met together. -/
theorem witness_CandidatesAreSelected :
    (∃ (i : Nat) (at_ : Nat) (s : State) (t : State), t = s.advance at_ ∧ i ≤ 7 ∧ (t.cand i).present = false) ∧
    (∃ (i : Nat) (at_ : Nat) (s : State) (t : State), t = s.advance at_ ∧ i ≤ 1 ∧ (t.cand i).present = true ∧
      (t.cand i).qualified = true) ∧
    (∃ (i : Nat) (at_ : Nat) (hz : Int) (s : State) (t : State), t = s.advance at_ ∧ i ≤ 7 ∧ (t.cand i).present = true ∧
      (t.cand i).qualified = false ∧ (t.cand i).presentSince + t.ref.qualS * 1000000000 ≤ t.now ∧
      hz.natAbs ≤ t.ref.freqLimitPpm * 1000) ∧
    (∃ (s : State) (i : _), s.selectorOn = true ∧ s.best = some i ∧ s.ref.selected = none) ∧
    (∃ (at_ : Nat) (s : State), (((s.advance at_).ref.state = .acquiring ∨ (s.advance at_).ref.state = .locked)) ∧
      (s.advance at_).ref.selected ≠ none ∧ s.selectorOn = true) ∧
    (∃ (at_ : Nat) (s : State) (t : State), t = s.advance at_ ∧ t.ref.state = .holdover ∧
      t.ref.stateSince + t.ref.holdoverMaxS * 1000000000 ≤ t.now) ∧
    (∃ (i : Nat) (at_ : Nat) (s : State) (t : State), t = s.advance at_ ∧ i ≤ 1 ∧ (t.cand i).present = true) ∧
    (∃ (at_ : Nat) (s : State) (t : State), t = s.advance at_ ∧ (t.cand 5).present = true) ∧
    (∃ (i : _) (s : State), bit s.ref.captureMask i = true ∧ s.ref.captures.length < 64) ∧
    (∃ (port : _), port ≤ 1) ∧
    (∃ (port : _) (seq : _) (s : State) (i : _), port ≤ 1 ∧ i = s.ptp port ∧ seq = i.reqSeq ∧
      (s.cand (2 + port)).present = true) ∧
    (∃ (port : _) (seq : _) (s : State), port ≤ 1 ∧ seq ≠ (s.ptp port).reqSeq) := by
  refine ⟨?_, ?_, ?_, ?_, ?_, ?_, ?_, ?_, ?_, ?_, ?_, ?_⟩
  · refine ⟨7, 9, svc, _, rfl, ?_, ?_⟩
    all_goals decide +kernel
  · refine ⟨1, 9, svc.onCand 1 (fun c => { c with present := true, qualified := true }), _, rfl, ?_, ?_, ?_⟩
    all_goals decide +kernel
  · refine ⟨7, 5000000000, -50000, svc.onCand 7 (fun c => { c with present := true }), _, rfl, ?_, ?_, ?_, ?_, ?_⟩
    all_goals decide +kernel
  · refine ⟨cand5, 5, ?_, ?_, ?_⟩
    all_goals decide +kernel
  · refine ⟨9, ref .acquiring, ?_, ?_, ?_⟩
    all_goals decide +kernel
  · refine ⟨86400000000000, ref .holdover, _, rfl, ?_, ?_⟩
    all_goals decide +kernel
  · refine ⟨1, 9, svc.onCand 1 (fun c => { c with present := true }), _, rfl, ?_, ?_⟩
    all_goals decide +kernel
  · refine ⟨9, svc.onCand 5 (fun c => { c with present := true }), _, rfl, ?_⟩
    all_goals decide +kernel
  · refine ⟨4, svc.onRef (fun r => { r with captureMask := 31 }), ?_, ?_⟩
    all_goals decide +kernel
  · refine ⟨1, ?_⟩
    all_goals decide +kernel
  · refine ⟨1, 0, svc.onCand 3 (fun c => { c with present := true }), _, ?_, rfl, ?_, ?_⟩
    all_goals decide +kernel
  · refine ⟨1, 5, svc, ?_, ?_⟩
    all_goals decide +kernel

/-- The hypotheses of every clause of TimeIsCarriedAndWatched can be met together. -/
theorem witness_TimeIsCarriedAndWatched :
    (∃ (n : Nat) (at_ : Nat) (s : State) (t : State) (q : _), t = s.advance at_ ∧ (t.link n).state = .up ∧
      t.timeParent n = true ∧ q = ((t.link n).seqSync + 1) % 65536) ∧
    (∃ (n : Nat) (at_ : Nat) (s : State) (t : State) (q : _), t = s.advance at_ ∧ (t.link n).state = .up ∧
      t.timeChild n = true ∧ q = ((t.link n).seqReq + 1) % 65536) ∧
    (∃ (n : Nat) (m : List Byte) (s : State) (a : State), 1 ≤ s.creditRoom n 3 ∧ a = s.gotBlocks n 3 1 ∧ m.length = 40 ∧
      u8 m 0 = 2 ∧ a.timeParent n = true) ∧
    (∃ (n : Nat) (m : List Byte) (s : State) (a : State), 1 ≤ s.creditRoom n 3 ∧ a = s.gotBlocks n 3 1 ∧ m.length = 40 ∧
      u8 m 0 = 1 ∧ (a.link n).role = .twin ∧ a.twin.role = .standby) ∧
    (∃ (n : Nat) (m : List Byte) (s : State) (a : State) (l : _), 1 ≤ s.creditRoom n 3 ∧ a = s.gotBlocks n 3 1 ∧
      m.length = 40 ∧ u8 m 0 = 3 ∧ l = a.link n ∧ l.role = .parent ∧ u16 m 2 = l.seqReq ∧ a.hier.primary = n ∧
      (a.cand 4).present = true) ∧
    (∃ (n : Nat) (m : List Byte) (s : State), 1 ≤ s.creditRoom n 3 ∧ u8 m 0 ≠ 1) ∧
    (∃ (c : Nat) (n : Nat) (at_ : Nat) (s : State) (t : State) (m : _), t = s.advance at_ ∧ 0x10 ≤ c ∧ c ≤ 0x1A ∧
      countOk c n = true ∧ m = t.clockMon c ∧ m.good = true ∧ m.stable < 16) ∧
    (∃ (c : Nat) (n : Nat) (at_ : Nat) (s : State) (t : State) (m : _), t = s.advance at_ ∧ 0x10 ≤ c ∧ c ≤ 0x1A ∧
      countOk c n = true ∧ m = t.clockMon c ∧ m.good = true ∧ m.stable < 16) ∧
    (∃ (c : Nat) (n : Nat) (at_ : Nat) (s : State), 0x10 ≤ c ∧ c ≤ 0x1A ∧ countOk c n = false ∧
      (s.advance at_).ref.failures.toNat + 1 < 2 ^ 32) := by
  refine ⟨?_, ?_, ?_, ?_, ?_, ?_, ?_, ?_, ?_⟩
  · refine ⟨63, 9, lnk .child .up, _, _, rfl, ?_, ?_, rfl⟩
    all_goals decide +kernel
  · refine ⟨63, 9, lnk .parent .up, _, _, rfl, ?_, ?_, rfl⟩
    all_goals decide +kernel
  · refine ⟨63, 2 :: zeros 39, lnk .child .up, _, ?_, rfl, ?_, ?_, ?_⟩
    all_goals decide +kernel
  · refine ⟨63, 1 :: zeros 39, (lnk .twin .up).onTwin (fun t => { t with role := .standby }), _, ?_, rfl, ?_, ?_, ?_, ?_⟩
    all_goals decide +kernel
  · refine ⟨63, 3 :: zeros 39, ((lnk .parent .up).onHier (fun h => { h with primary := 63 })).onCand 4 (fun c => { c with present := true }), _, _, ?_, rfl, ?_, ?_, rfl, ?_, ?_, ?_, ?_⟩
    all_goals decide +kernel
  · refine ⟨63, 2 :: zeros 39, svc, ?_, ?_⟩
    all_goals decide +kernel
  · refine ⟨0x11, 310, 9, svc.onRef (fun r => { r with clocks := [(0x11, { good := true, stable := 15 })] }), _, _, rfl, ?_, ?_, ?_, rfl, ?_, ?_⟩
    all_goals decide +kernel
  · refine ⟨0x11, 315, 9, svc.onRef (fun r => { r with clocks := [(0x11, { good := true, stable := 0 })] }), _, _, rfl, ?_, ?_, ?_, rfl, ?_, ?_⟩
    all_goals decide +kernel
  · refine ⟨0x11, 309, 9, svc, ?_, ?_, ?_, ?_⟩
    all_goals decide +kernel

/-- The hypotheses of every clause of SelectorTakesTheBest can be met together. -/
theorem witness_SelectorTakesTheBest :
    (∃ (s : State), (∀ j, (s.cand j).priority ≤ 255)) := by
  · refine ⟨cand5, ?_⟩
    all_goals first | decide +kernel | ((intro j; show (Option.getD (if 5 = j then some _ else none) _ : Candidate).priority ≤ 255; split <;> decide))

/-- The hypotheses of every clause of TwinsPair can be met together. -/
theorem witness_TwinsPair :
    (∃ (rq : Request) (s : State) (a : State) (p : List Byte), Served 0xA001 rq s a ∧ rq.payload = p ∧ p.length = 8 ∧
      u8 p 0 = 1 ∧ u8 p 1 ≤ 1 ∧ u8 p 2 ≤ 63 ∧ u8 p 3 = 0 ∧ 500 ≤ u16 p 4 ∧ u16 p 4 ≤ 60000 ∧ 100 ≤ u16 p 6 ∧ u16 p 6 ≤ 1000 ∧
      (a.link (u8 p 2)).role = .twin ∧ a.twin.role = .solo) ∧
    (∃ (rq : Request) (s : State) (a : State) (p : List Byte), Served 0xA001 rq s a ∧ rq.payload = p ∧ p.length = 8 ∧
      u8 p 0 = 1 ∧ u8 p 1 ≤ 1 ∧ u8 p 2 ≤ 63 ∧ u8 p 3 = 0 ∧ 500 ≤ u16 p 4 ∧ u16 p 4 ≤ 60000 ∧ 100 ≤ u16 p 6 ∧ u16 p 6 ≤ 1000 ∧
      (a.link (u8 p 2)).role = .twin ∧ a.twin.role = .solo) ∧
    (∃ (rq : Request) (s : State) (a : State), Served 0xA002 rq s a ∧ rq.payload = [] ∧ a.mayPair = true ∧
      38750000 ≤ (a.link a.twin.link).payload) ∧
    (∃ (rq : Request) (s : State) (a : State), Served 0xA002 rq s a ∧ rq.payload = [] ∧ a.twin.role ≠ .solo) ∧
    (∃ (rq : Request) (s : State) (a : State), Served 0xA002 rq s a ∧ rq.payload = [] ∧ a.mayPair = true ∧
      (a.link a.twin.link).payload < 38750000) ∧
    (∃ (at_ : Nat) (s : State) (t : State), t = s.advance at_ ∧ t.twin.autoPair = true ∧ t.twin.position = false ∧
      t.boot.phase = 0xFF ∧ t.inField = true ∧ t.mayPair = true ∧ t.twinWide = true) ∧
    (∃ (rq : Request) (s : State) (a : State) (p : List Byte), Served 0xA012 rq s a ∧ rq.payload = p ∧ onTwinLink rq a = true ∧
      u8 p 0 = 7 ∧ a.twin.role = .standby) ∧
    (∃ (rq : Request) (s : State) (a : State) (p : List Byte) (body : _) (b : Request), Served 0xA012 rq s a ∧ rq.payload = p ∧
      onTwinLink rq a = true ∧ u8 p 0 = 1 ∧ a.twin.role = .standby ∧ settingBody (u16 p 2) = some body ∧
      b = ({ port := .link 255, flags := 8, payload := p.drop 4 } : Request)) ∧
    (∃ (at_ : Nat) (s : State) (t : State), t = s.advance at_ ∧ t.twin.pairState = 2 ∧ t.twin.role = .standby ∧
      t.twin.settleFrom + t.twin.settleMs * 1000000 ≤ t.now) ∧
    (∃ (rq : Request) (s : State) (a : State) (p : List Byte), Served 0xA003 rq s a ∧ rq.payload = p ∧ p.length = 16 ∧
      u32 p 8 < 1000000000 ∧ u32 p 12 = 0 ∧ a.twin.role = .active ∧ a.twin.mirrored = true ∧ a.twinUp = true ∧
      a.peerFit = true ∧ a.twin.fitLost = false ∧ a.twin.swapHandle = none ∧ a.now + 1000000 ≤ timeAt p 0 8) ∧
    (∃ (rq : Request) (s : State) (a : State) (p : List Byte), Served 0xA003 rq s a ∧ rq.payload = p ∧ p.length = 16 ∧
      u32 p 8 < 1000000000 ∧ u32 p 12 = 0 ∧ a.twin.role ≠ .active) ∧
    (∃ (at_ : Nat) (s : State) (t : State) (h : _) (x : State), t = s.advance at_ ∧ t.twin.swapHandle = some h ∧
      t.twin.role = .active ∧ t.twin.swapAt ≠ none ∧ x = t.twinDrop ((t.now / 1000 + 1) * 1000) 3) ∧
    (∃ (rq : Request) (s : State) (a : State) (t : _), Served 0xA004 rq s a ∧ rq.payload = [] ∧ t = a.twin) ∧
    (∃ (rq : Request) (s : State) (a : State) (r : _), Served 0xA005 rq s a ∧ rq.payload = [] ∧ a.twin.report = some r) ∧
    (∃ (rq : Request) (s : State) (a : State), Served 0xA005 rq s a ∧ rq.payload = [] ∧ a.twin.report = none) := by
  refine ⟨?_, ?_, ?_, ?_, ?_, ?_, ?_, ?_, ?_, ?_, ?_, ?_, ?_, ?_, ?_⟩
  · refine ⟨req [1, 1, 63, 0, 96, 234, 232, 3], lnk .twin .up, _, _, ⟨?_, rfl⟩, rfl, ?_, ?_, ?_, ?_, ?_, ?_, ?_, ?_, ?_, ?_, ?_⟩
    all_goals decide +kernel
  · refine ⟨req [1, 0, 63, 0, 244, 1, 100, 0], lnk .twin .up, _, _, ⟨?_, rfl⟩, rfl, ?_, ?_, ?_, ?_, ?_, ?_, ?_, ?_, ?_, ?_, ?_⟩
    all_goals decide +kernel
  · refine ⟨req [], twin .solo, _, ⟨?_, rfl⟩, ?_, ?_, ?_⟩
    all_goals decide +kernel
  · refine ⟨req [], twin .active, _, ⟨?_, rfl⟩, ?_, ?_⟩
    all_goals decide +kernel
  · refine ⟨req [], (twin .solo).onLink 63 (fun l => { l with width := 0, rateClass := 6 }), _, ⟨?_, rfl⟩, ?_, ?_, ?_⟩
    all_goals decide +kernel
  · refine ⟨9, twin .solo, _, rfl, ?_, ?_, ?_, ?_, ?_, ?_⟩
    all_goals decide +kernel
  · refine ⟨lreq ([7, 0, 0, 0] ++ zeros 8 ++ [1]), twin .standby, _, _, ⟨?_, rfl⟩, rfl, ?_, ?_, ?_⟩
    all_goals decide +kernel
  · refine ⟨lreq [1, 0, 3, 0x20], twin .standby, _, _, _, _, ⟨?_, rfl⟩, rfl, ?_, ?_, ?_, rfl, rfl⟩
    all_goals decide +kernel
  · refine ⟨9, (twin .standby).onTwin (fun t => { t with pairState := 2, settleMs := 0, settleFrom := 9 }), _, rfl, ?_, ?_, ?_⟩
    all_goals decide +kernel
  · refine ⟨req (leBytes 8 0 ++ leBytes 4 1000000 ++ zeros 4), twin .active, _, _, ⟨?_, rfl⟩, rfl, ?_, ?_, ?_, ?_, ?_, ?_, ?_, ?_, ?_, ?_⟩
    all_goals decide +kernel
  · refine ⟨req (leBytes 8 0 ++ leBytes 4 1000000 ++ zeros 4), twin .solo, _, _, ⟨?_, rfl⟩, rfl, ?_, ?_, ?_, ?_⟩
    all_goals decide +kernel
  · refine ⟨9, (twin .active).onTwin (fun t => { t with swapAt := some 9, swapHandle := some {} }), _, _, _, rfl, rfl, ?_, ?_, rfl⟩
    all_goals decide +kernel
  · refine ⟨req [], twin .active, _, _, ⟨?_, rfl⟩, ?_, rfl⟩
    all_goals decide +kernel
  · refine ⟨req [], twin .active, _, _, ⟨?_, rfl⟩, ?_, rfl⟩
    all_goals decide +kernel
  · refine ⟨req [], svc, _, ⟨?_, rfl⟩, ?_, ?_⟩
    all_goals decide +kernel

/-- The hypotheses of every clause of TwinsTakeOver can be met together. -/
theorem witness_TwinsTakeOver :
    (∃ (st : Nat) (s : State), s.twin.role = .active ∧ st ≠ 1) ∧
    (∃ (e : MirrorWait) (st : _), e.own = some st ∧ e.peer = some st) ∧
    (∃ (at_ : Nat) (s : State) (t : State) (u : _) (sdi : _) (all : _) (l : _) (n : _) (x : _) (v : State), t = s.advance at_ ∧
      t.twin.role = .active ∧ t.twin.mirrored = true ∧ t.twinUp = true ∧ t.sdiDigests = (sdi, u) ∧
      all = u.twin.own.filter (·.done) ++ sdi ∧ all = l ∧ 1 ≤ l.length ∧ l.length ≤ 340 ∧
      v = u.onTwin (fun w => { w with own := w.own.filter (fun r => !r.done) }) ∧
      n = leBytes 2 l.length ++ zeros 2 ++ l.flatMap digestBytes ∧ x = v.ownPacket 0xA010 0 n) ∧
    (∃ (rq : Request) (s : State), onTwinLink rq s = true ∧ s.twin.role = .standby ∧ s.twin.settled = true ∧
      s.twin.mirrored = true) ∧
    (∃ (at_ : Nat) (s : State) (t : State), t = s.advance at_ ∧ t.twin.role = .standby ∧ t.twin.settled = true ∧
      t.twin.mirrored = true) ∧
    (∃ (at_ : Nat) (s : State), (s.advance at_).twin.role = .standby) ∧
    (∃ (rq : Request) (s : State), onTwinLink rq s = true ∧ s.twin.role = .active ∧ rq.payload.length = 48) ∧
    (∃ (at_ : Nat) (s : State) (t : State) (r : _), t = s.advance at_ ∧ t.twin.role = .active ∧ t.twin.lateRaised = false ∧
      t.twin.report = some r ∧ r.t + 3000000000 ≤ t.now) ∧
    (∃ (s : State), s.twin.peerPin = true ∧ s.twin.role = .standby ∧ s.topSeverity < 5) ∧
    (∃ (s : State), s.twin.peerPin = true ∧ s.twin.role = .standby ∧ s.topSeverity = 5) ∧
    (∃ (at_ : Nat) (s : State) (t : State), t = s.advance at_ ∧ t.twin.act = true ∧ t.twin.peerPin = true ∧
      t.twin.position = false) := by
  refine ⟨?_, ?_, ?_, ?_, ?_, ?_, ?_, ?_, ?_, ?_, ?_⟩
  · refine ⟨0, twin .active, ?_, ?_⟩
    all_goals decide +kernel
  · refine ⟨{ opcode := 0, tag := 0, portTag := 0, own := some 0, peer := some 0 }, _, rfl, ?_⟩
    all_goals decide +kernel
  · refine ⟨9, (twin .active).onTwin (fun t => { t with own := [{ done := true }] }), _, _, _, _, _, _, _, _, rfl, ?_, ?_, ?_, rfl, rfl, rfl, ?_, ?_, rfl, rfl, rfl⟩
    all_goals decide +kernel
  · refine ⟨lreq [0, 0, 0, 0], twin .standby, ?_, ?_, ?_, ?_⟩
    all_goals decide +kernel
  · refine ⟨9, twin .standby, _, rfl, ?_, ?_, ?_⟩
    all_goals decide +kernel
  · refine ⟨9, twin .standby, ?_⟩
    all_goals decide +kernel
  · refine ⟨lreq (zeros 48), twin .active, ?_, ?_, ?_⟩
    all_goals decide +kernel
  · refine ⟨3000000000, twin .active, _, _, rfl, ?_, ?_, rfl, ?_⟩
    all_goals decide +kernel
  · refine ⟨(twin .standby).onTwin (fun t => { t with peerPin := true }), ?_, ?_, ?_⟩
    all_goals decide +kernel
  · refine ⟨((twin .standby).onTwin (fun t => { t with peerPin := true })).onFaults (fun f => { f with selfFault := true }), ?_, ?_, ?_⟩
    all_goals decide +kernel
  · refine ⟨9, svc.onTwin (fun t => { t with act := true, peerPin := true }), _, rfl, ?_, ?_, ?_⟩
    all_goals decide +kernel

/-- The hypotheses of every clause of FaultsAreCollected can be met together. -/
theorem witness_FaultsAreCollected :
    (∃ (src : Nat) (kind : Nat) (at_ : Nat) (n : Nat) (s : State) (t : State), t = s.advance at_ ∧ src < 4096 ∧ kind < 256 ∧
      1 ≤ n ∧ n ≤ 65535 ∧ t.i36On = true) ∧
    (∃ (m : FaultMsg) (s : State), isNotice m.kind = false ∧ defaultSeverity m.source ≠ 0 ∧ s.twin.role ≠ .active) ∧
    (∃ (m : FaultMsg), isNotice m.kind = true) ∧
    (∃ (s : State) (e : _) (r : _), s.faults.queue = e :: r ∧ s.i36On = true) ∧
    (∃ (at_ : Nat) (s : State), (s.advance at_).i36On = true ∧ s.faults.selfFault = false) ∧
    (∃ (at_ : Nat) (s : State) (t : State) (f : _), t = s.advance at_ ∧ f = t.faults ∧ f.forced = false ∧ f.selfFault = false ∧
      f.holdMode = false ∧ f.lastAssert + 20000 ≤ t.now) ∧
    (∃ (s : State), s.faults.selfFault = true) ∧
    (∃ (at_ : Nat) (s : State) (t : State), t = s.advance at_ ∧ t.boot.resetDue = none) := by
  refine ⟨?_, ?_, ?_, ?_, ?_, ?_, ?_, ?_⟩
  · refine ⟨4095, 255, 9, 65535, svc, _, rfl, ?_, ?_, ?_, ?_, ?_⟩
    all_goals decide +kernel
  · refine ⟨{ source := 0x10, kind := 0x20 }, svc, ?_, ?_, ?_⟩
    all_goals decide +kernel
  · refine ⟨{ source := 0x10, kind := 1 }, ?_⟩
    all_goals decide +kernel
  · refine ⟨svc.onFaults (fun f => { f with queue := [{ source := 0x10, kind := 0x20 }] }), _, _, rfl, ?_⟩
    all_goals decide +kernel
  · refine ⟨9, svc, ?_, ?_⟩
    all_goals decide +kernel
  · refine ⟨20000, svc, _, _, rfl, rfl, ?_, ?_, ?_, ?_⟩
    all_goals decide +kernel
  · refine ⟨svc.onFaults (fun f => { f with selfFault := true }), ?_⟩
    all_goals decide +kernel
  · refine ⟨9, svc, _, rfl, ?_⟩
    all_goals decide +kernel

/-- The hypotheses of every clause of FaultCommandsAct can be met together. -/
theorem witness_FaultCommandsAct :
    (∃ (rq : Request) (s : State) (a : State) (p : List Byte) (l : _), Served 0xB001 rq s a ∧ rq.payload = p ∧ p.length = 8 ∧
      1 ≤ u8 p 4 ∧ u8 p 4 ≤ 16 ∧ fld p 5 3 = 0 ∧ l = (a.faults.log.reverse.filter (fun e => u32 p 0 ≤ e.seq)).take (u8 p 4) ∧
      l = []) ∧
    (∃ (rq : Request) (s : State) (a : State) (p : List Byte) (l : _) (e : FaultMsg), Served 0xB001 rq s a ∧ rq.payload = p ∧
      p.length = 8 ∧ 1 ≤ u8 p 4 ∧ u8 p 4 ≤ 16 ∧ fld p 5 3 = 0 ∧
      l = (a.faults.log.reverse.filter (fun e => u32 p 0 ≤ e.seq)).take (u8 p 4) ∧ l.getLast? = some e) ∧
    (∃ (rq : Request) (s : State) (a : State) (p : List Byte), Served 0xB002 rq s a ∧ rq.payload = p ∧ p.length = 8 ∧
      u16 p 2 = 1 ∧ 1 ≤ u8 p 4 ∧ u8 p 4 ≤ 5 ∧ fld p 5 3 = 0 ∧ u16 p 0 ≤ 4095 ∧ defaultSeverity (u16 p 0) ≠ 0 ∧ u16 p 0 ≠ 0x2FF) ∧
    (∃ (rq : Request) (s : State) (a : State) (p : List Byte), Served 0xB002 rq s a ∧ rq.payload = p ∧ p.length = 8 ∧
      u16 p 2 = 1 ∧ u16 p 0 = 0x2FF) ∧
    (∃ (rq : Request) (s : State) (a : State) (p : List Byte), Served 0xB003 rq s a ∧ rq.payload = p ∧ p.length = 4 ∧
      1 ≤ u16 p 2 ∧ u16 p 2 ≤ 500 ∧ u16 p 0 + u16 p 2 ≤ 4096) ∧
    (∃ (rq : Request) (s : State) (a : State) (p : List Byte), Served 0xB004 rq s a ∧ rq.payload = p ∧ p.length = 4 ∧
      1 ≤ u16 p 2 ∧ u16 p 2 ≤ 4096 ∧ u16 p 0 + u16 p 2 ≤ 4096) ∧
    (∃ (rq : Request) (s : State) (a : State), Served 0xB005 rq s a ∧ rq.payload = [] ∧ a.faults.selfFault = false ∧
      (∀ e ∈ a.faults.active, e.2 ≠ 5) ∧ a.faults.safe = true) ∧
    (∃ (rq : Request) (s : State) (a : State) (e : _), Served 0xB005 rq s a ∧ rq.payload = [] ∧ e ∈ a.faults.active ∧ e.2 = 5) ∧
    (∃ (rq : Request) (s : State) (a : State) (p : List Byte), Served 0xB006 rq s a ∧ rq.payload = p ∧ p.length = 4 ∧
      u8 p 0 ≤ 1 ∧ u8 p 1 = 0 ∧ 1 ≤ u8 p 2 ∧ u8 p 2 ≤ 5 ∧ u8 p 3 = 0 ∧ a.faults.pinLow = false) ∧
    (∃ (rq : Request) (s : State) (a : State) (p : List Byte), Served 0xB006 rq s a ∧ rq.payload = p ∧ p.length = 4 ∧
      u8 p 0 ≤ 1 ∧ u8 p 1 = 1 ∧ 1 ≤ u8 p 2 ∧ u8 p 2 ≤ 5 ∧ u8 p 3 = 0 ∧ a.faults.selfFault = true) ∧
    (∃ (rq : Request) (s : State) (a : State) (f : _), Served 0xB007 rq s a ∧ rq.payload = [] ∧ f = a.faults) ∧
    (∃ (rq : Request) (s : State) (a : State) (p : List Byte), Served 0xB008 rq s a ∧ rq.payload = p ∧ p.length = 12 ∧
      u16 p 0 ≤ 4095 ∧ u8 p 3 = 0 ∧ u64 p 4 < 2 ^ 48) ∧
    (∃ (rq : Request) (s : State) (a : State) (p : List Byte) (b : _), Served 0xB009 rq s a ∧ rq.payload = p ∧ p.length = 12 ∧
      u8 p 0 = 0 ∧ fld p 1 3 = 0 ∧ 1 ≤ u16 p 8 ∧ u16 p 8 ≤ 4000 ∧ u16 p 10 = 0 ∧ a.hier.shadow = some b ∧
      u32 p 4 + u16 p 8 ≤ (b.bytes false).length) ∧
    (∃ (rq : Request) (s : State) (a : State) (p : List Byte), Served 0xB009 rq s a ∧ rq.payload = p ∧ p.length = 12 ∧
      u8 p 0 = 1 ∧ fld p 1 3 = 0 ∧ 1 ≤ u16 p 8 ∧ u16 p 8 ≤ 4000 ∧ u16 p 10 = 0 ∧ a.keep.snapshot = none) := by
  refine ⟨?_, ?_, ?_, ?_, ?_, ?_, ?_, ?_, ?_, ?_, ?_, ?_, ?_, ?_⟩
  · refine ⟨req [0, 0, 0, 0, 16, 0, 0, 0], svc, _, _, _, ⟨?_, rfl⟩, rfl, ?_, ?_, ?_, ?_, rfl, ?_⟩
    all_goals decide +kernel
  · refine ⟨req [0, 0, 0, 0, 16, 0, 0, 0], svc.onFaults (fun f => { f with log := [{ seq := 3 }] }), _, _, _, { seq := 3 }, ⟨?_, rfl⟩, rfl, ?_, ?_, ?_, ?_, rfl, ?_⟩
    all_goals decide +kernel
  · refine ⟨req [0xC1, 1, 1, 0, 5, 0, 0, 0], svc, _, _, ⟨?_, rfl⟩, rfl, ?_, ?_, ?_, ?_, ?_, ?_, ?_, ?_⟩
    all_goals decide +kernel
  · refine ⟨req [0xFF, 2, 1, 0, 5, 0, 0, 0], svc, _, _, ⟨?_, rfl⟩, rfl, ?_, ?_, ?_⟩
    all_goals decide +kernel
  · refine ⟨req [12, 14, 244, 1], svc, _, _, ⟨?_, rfl⟩, rfl, ?_, ?_, ?_, ?_⟩
    all_goals decide +kernel
  · refine ⟨req [0, 0, 0, 16], svc, _, _, ⟨?_, rfl⟩, rfl, ?_, ?_, ?_, ?_⟩
    all_goals decide +kernel
  · refine ⟨req [], (activeSafe.onFaults (fun f => { f with active := [(0x1C1, 4)] })).onFaults (fun f => { f with safe := true }), _, ⟨?_, rfl⟩, ?_, ?_, ?_, ?_⟩
    all_goals decide +kernel
  · refine ⟨req [], activeSafe, _, (0x1C1, 5), ⟨?_, rfl⟩, ?_, ?_, ?_⟩
    all_goals decide +kernel
  · refine ⟨req [1, 0, 5, 0], svc, _, _, ⟨?_, rfl⟩, rfl, ?_, ?_, ?_, ?_, ?_, ?_, ?_⟩
    all_goals decide +kernel
  · refine ⟨req [0, 1, 1, 0], svc.onFaults (fun f => { f with selfFault := true }), _, _, ⟨?_, rfl⟩, rfl, ?_, ?_, ?_, ?_, ?_, ?_, ?_⟩
    all_goals decide +kernel
  · refine ⟨req [], svc, _, _, ⟨?_, rfl⟩, ?_, rfl⟩
    all_goals decide +kernel
  · refine ⟨req ([255, 15, 255, 0] ++ leBytes 8 (2 ^ 48 - 1)), svc, _, _, ⟨?_, rfl⟩, rfl, ?_, ?_, ?_, ?_⟩
    all_goals decide +kernel
  · refine ⟨req ([0, 0, 0, 0] ++ leBytes 4 111 ++ [1, 0, 0, 0]), svc.onHier (fun h => { h with shadow := some {} }), _, _, _, ⟨?_, rfl⟩, rfl, ?_, ?_, ?_, ?_, ?_, ?_, rfl, ?_⟩
    all_goals decide +kernel
  · refine ⟨req ([1, 0, 0, 0] ++ leBytes 4 0 ++ [1, 0, 0, 0]), svc, _, _, ⟨?_, rfl⟩, rfl, ?_, ?_, ?_, ?_, ?_, ?_, ?_⟩
    all_goals decide +kernel

/-- The hypotheses of every clause of PowerIsManaged can be met together. -/
theorem witness_PowerIsManaged :
    (∃ (rq : Request) (s : State) (a : State) (p : List Byte), Served 0xC001 rq s a ∧ rq.payload = p ∧ p.length = 24 ∧
      100 ≤ u16 p 20 ∧ u16 p 20 ≤ 60000 ∧ u16 p 22 = 0) ∧
    (∃ (rq : Request) (s : State) (a : State) (p : List Byte), Served 0xC001 rq s a ∧ rq.payload = p ∧ p.length = 24 ∧
      100 ≤ u16 p 20 ∧ u16 p 20 ≤ 60000 ∧ u16 p 22 = 0) ∧
    (∃ (rq : Request) (s : State) (a : State) (p : List Byte), Served 0xC001 rq s a ∧ rq.payload = p ∧ p.length = 24 ∧
      ((u16 p 20 < 100 ∨ 60000 < u16 p 20))) ∧
    (∃ (rq : Request) (s : State) (a : State) (p : List Byte), Served 0xC001 rq s a ∧ rq.payload = p ∧ p.length = 24 ∧
      ((u16 p 20 < 100 ∨ 60000 < u16 p 20))) ∧
    (∃ (rq : Request) (s : State) (a : State) (mw : _) (t : State), Served 0xC002 rq s a ∧ rq.payload = [] ∧
      a.packageMw = (mw, t)) ∧
    (∃ (rq : Request) (s : State) (a : State) (p : List Byte), Served 0xC003 rq s a ∧ rq.payload = p ∧ p.length = 8 ∧
      u8 p 4 < 32 ∧ fld p 5 3 = 0) ∧
    (∃ (rq : Request) (s : State) (a : State) (p : List Byte), Served 0xC004 rq s a ∧ rq.payload = p ∧ p.length = 4 ∧
      1 ≤ u16 p 2 ∧ u16 p 0 + u16 p 2 ≤ 340) ∧
    (∃ (rq : Request) (s : State) (a : State), Served 0xC005 rq s a ∧ rq.payload = []) ∧
    (∃ (d : _) (t : State) (u : State), d ≤ 330 ∧ t.power.state ≠ .dormant ∧ t.power.off = false ∧ t.inField = true ∧
      ((t.hasService d = true ∨ t.power.gated.contains d = true)) ∧
      u = t.onGroup (domainGroup d) (fun q => { q with idleSince := if t.groupBusy (domainGroup d) then none else some t.now })) ∧
    (∃ (g : Nat) (at_ : Nat) (s : State) (t : State), t = s.advance at_ ∧ t.idleLong g = true) ∧
    (∃ (at_ : Nat) (s : State) (t : State), t = s.advance at_ ∧ t.power.entryStep = 1 ∧ t.dormantBlock = 0 ∧
      t.lat.keepDue = none) ∧
    (∃ (at_ : Nat) (s : State) (t : State), t = s.advance at_ ∧ t.power.entryStep = 2 ∧ t.dormantBlock ≠ 0) ∧
    (∃ (at_ : Nat) (s : State) (t : State), t = s.advance at_ ∧ t.power.entryStep = 3 ∧ t.dormantBlock = 0) ∧
    (∃ (at_ : Nat) (s : State) (t : State), t = s.advance at_ ∧ t.power.off = false ∧ t.power.wakingStep = 0 ∧
      t.power.state = .dormant ∧ bit t.power.wakeFlags 0 = true) ∧
    (∃ (at_ : Nat) (s : State) (t : State) (n : _), t = s.advance at_ ∧ t.power.wakingStep = n ∧
      ((n = 1 ∨ n = 4 ∨ n = 5 ∨ n = 7))) ∧
    (∃ (at_ : Nat) (s : State) (t : State), t = s.advance at_ ∧ t.power.wakingStep = 3) ∧
    (∃ (i : Nat) (mv : Nat) (at_ : Nat) (s : State) (t : State), t = s.advance at_ ∧ i ≤ 6 ∧ mv < railThreshold i ∧
      (Tbl.at t.power.rails i {}).under = false) ∧
    (∃ (i : Nat) (mv : Nat) (at_ : Nat) (s : State) (t : State), t = s.advance at_ ∧ i ≤ 6 ∧ railThreshold i ≤ mv ∧
      mv < railThreshold i + 10 ∧ (Tbl.at t.power.rails i {}).under = true) ∧
    (∃ (i : Nat) (mv : Nat) (at_ : Nat) (s : State) (t : State), t = s.advance at_ ∧ i ≤ 6 ∧ railThreshold i ≤ mv ∧
      mv < railThreshold i + 10 ∧ (Tbl.at t.power.rails i {}).under = true) ∧
    (∃ (l : List Int) (at_ : Nat) (s : State) (t : State), t = s.advance at_ ∧ l.length ≤ 16 ∧ (∀ x ∈ l, x ≤ 105)) ∧
    (∃ (s : State), s.power.state = .dormant ∧ s.power.off = false) := by
  refine ⟨?_, ?_, ?_, ?_, ?_, ?_, ?_, ?_, ?_, ?_, ?_, ?_, ?_, ?_, ?_, ?_, ?_, ?_, ?_, ?_, ?_⟩
  · refine ⟨req (zeros 20 ++ [100, 0, 0, 0]), svc, _, _, ⟨?_, rfl⟩, rfl, ?_, ?_, ?_, ?_⟩
    all_goals decide +kernel
  · refine ⟨req (zeros 20 ++ [96, 234, 0, 0]), svc, _, _, ⟨?_, rfl⟩, rfl, ?_, ?_, ?_, ?_⟩
    all_goals decide +kernel
  · refine ⟨req (zeros 20 ++ [99, 0, 0, 0]), svc, _, _, ⟨?_, rfl⟩, rfl, ?_, ?_⟩
    all_goals decide +kernel
  · refine ⟨req (zeros 20 ++ [97, 234, 0, 0]), svc, _, _, ⟨?_, rfl⟩, rfl, ?_, ?_⟩
    all_goals decide +kernel
  · refine ⟨req [], svc, _, _, _, ⟨?_, rfl⟩, ?_, rfl⟩
    all_goals decide +kernel
  · refine ⟨req [255, 255, 255, 255, 31, 0, 0, 0], svc, _, _, ⟨?_, rfl⟩, rfl, ?_, ?_, ?_⟩
    all_goals decide +kernel
  · refine ⟨req [83, 1, 1, 0], svc, _, _, ⟨?_, rfl⟩, rfl, ?_, ?_, ?_⟩
    all_goals decide +kernel
  · refine ⟨req [], svc, _, ⟨?_, rfl⟩, ?_⟩
    all_goals decide +kernel
  · refine ⟨0, sdi [0], _, ?_, ?_, ?_, ?_, ?_, rfl⟩
    all_goals decide +kernel
  · refine ⟨4, 1000000000, idle, _, rfl, ?_⟩
    all_goals decide +kernel
  · refine ⟨1000000000, idle.onPower (fun p => { p with entryStep := 1 }), _, rfl, ?_, ?_, ?_⟩
    all_goals decide +kernel
  · refine ⟨9, svc.onPower (fun p => { p with entryStep := 2 }), _, rfl, ?_, ?_⟩
    all_goals decide +kernel
  · refine ⟨1000000000, idle.onPower (fun p => { p with entryStep := 3 }), _, rfl, ?_, ?_⟩
    all_goals decide +kernel
  · refine ⟨9, svc.onPower (fun p => { p with state := .dormant }), _, rfl, ?_, ?_, ?_, ?_⟩
    all_goals decide +kernel
  · refine ⟨9, svc.onPower (fun p => { p with state := .dormant, wakingStep := 7 }), _, 7, rfl, ?_, ?_⟩
    all_goals decide +kernel
  · refine ⟨9, svc.onPower (fun p => { p with state := .dormant, wakingStep := 3 }), _, rfl, ?_⟩
    all_goals decide +kernel
  · refine ⟨6, 679, 9, svc, _, rfl, ?_, ?_, ?_⟩
    all_goals decide +kernel
  · refine ⟨6, 680, 9, svc.onPower (fun p => { p with rails := [(6, { under := true })] }), _, rfl, ?_, ?_, ?_, ?_⟩
    all_goals decide +kernel
  · refine ⟨6, 689, 9, svc.onPower (fun p => { p with rails := [(6, { under := true })] }), _, rfl, ?_, ?_, ?_, ?_⟩
    all_goals decide +kernel
  · refine ⟨List.replicate 16 105, 9, svc, _, rfl, ?_, ?_⟩
    all_goals decide +kernel
  · refine ⟨svc.onPower (fun p => { p with state := .dormant }), ?_, ?_⟩
    all_goals decide +kernel

/-- The hypotheses of every clause of ProofRunsAct can be met together. -/
theorem witness_ProofRunsAct :
    (∃ (rq : Request) (s : State) (a : State) (p : List Byte) (l : _) (r : _), Served 0xD001 rq s a ∧ rq.payload = p ∧
      u8 p 0 = 0 ∧ u8 p 1 = 1 ∧ p.length = 12 ∧ u8 p 2 = 0 ∧ u8 p 3 = 0 ∧ u8 p 5 = 0 ∧ u16 p 10 = 0 ∧
      l = ProofItem.mk (u8 p 4) (u16 p 6) (u16 p 8) ∧ l.units ≠ 0 ∧ (∀ k, k < l.units → testUnit l.test (l.first + k) = true ∧
      a.mayTest false l.test (l.first + k) = true) ∧ a.proof.runs.length < 5 ∧ a.proof.runs ≠ [] ∧
      r = ({ id := a.proof.nextRun, steps := itemSteps [l], total := (itemSteps [l]).length, handle := handleOf 0xD001 rq, force := false } : ProofRunSt)) ∧
    (∃ (rq : Request) (s : State) (a : State) (p : List Byte), Served 0xD001 rq s a ∧ rq.payload = p ∧ u8 p 0 = 0 ∧
      u8 p 1 = 1 ∧ p.length = 12 ∧ u8 p 2 = 0 ∧ u8 p 3 = 0 ∧ u8 p 5 = 0 ∧ u16 p 10 = 0 ∧ u16 p 8 = 1 ∧
      testUnit (u8 p 4) (u16 p 6) = false) ∧
    (∃ (rq : Request) (s : State) (a : State) (p : List Byte), Served 0xD001 rq s a ∧ rq.payload = p ∧ u8 p 0 = 0 ∧
      u8 p 1 = 1 ∧ p.length = 12 ∧ u8 p 2 = 0 ∧ u8 p 3 = 0 ∧ u8 p 5 = 0 ∧ u16 p 10 = 0 ∧ u16 p 8 = 1 ∧
      testUnit (u8 p 4) (u16 p 6) = true ∧ a.mayTest false (u8 p 4) (u16 p 6) = false) ∧
    (∃ (rq : Request) (s : State) (a : State) (p : List Byte), Served 0xD001 rq s a ∧ rq.payload = p ∧ u8 p 0 = 0 ∧
      u8 p 1 = 1 ∧ p.length = 12 ∧ u8 p 2 = 0 ∧ u8 p 3 = 0 ∧ u8 p 5 = 0 ∧ u16 p 10 = 0 ∧ u16 p 8 = 1 ∧
      testUnit (u8 p 4) (u16 p 6) = true ∧ a.mayTest false (u8 p 4) (u16 p 6) = true ∧ 5 ≤ a.proof.runs.length) ∧
    (∃ (rq : Request) (s : State) (a : State) (p : List Byte) (r : _) (q : _) (l : _) (x : _), Served 0xD002 rq s a ∧
      rq.payload = p ∧ p.length = 4 ∧ u16 p 2 = 0 ∧ a.proof.runs = q :: l ∧ q.id ≠ u16 p 0 ∧
      l.find? (fun x => x.id = u16 p 0) = some r ∧ r.steps = [x]) ∧
    (∃ (rq : Request) (s : State) (a : State) (p : List Byte), Served 0xD002 rq s a ∧ rq.payload = p ∧ p.length = 4 ∧
      u16 p 2 = 0 ∧ (∀ x ∈ a.proof.runs, x.id ≠ u16 p 0)) ∧
    (∃ (rq : Request) (s : State) (a : State) (p : List Byte) (l : _) (e : ProofRec), Served 0xD003 rq s a ∧ rq.payload = p ∧
      p.length = 8 ∧ 1 ≤ u8 p 4 ∧ u8 p 4 ≤ 120 ∧ fld p 5 3 = 0 ∧
      l = (a.proof.results.reverse.filter (fun e => u32 p 0 ≤ e.seq)).take (u8 p 4) ∧ l.getLast? = some e) ∧
    (∃ (rq : Request) (s : State) (a : State) (p : List Byte) (l : _) (e : ProofRec), Served 0xD003 rq s a ∧ rq.payload = p ∧
      p.length = 8 ∧ 1 ≤ u8 p 4 ∧ u8 p 4 ≤ 120 ∧ fld p 5 3 = 0 ∧
      l = (a.proof.results.reverse.filter (fun e => u32 p 0 ≤ e.seq)).take (u8 p 4) ∧ l.getLast? = some e) ∧
    (∃ (rq : Request) (s : State) (a : State) (p : List Byte), Served 0xD004 rq s a ∧ rq.payload = p ∧ p.length = 4 ∧
      u8 p 0 = 7 ∧ sliceFormatOk (u8 p 1) = true ∧ 16 ≤ u8 p 2 ∧ u8 p 3 = 0 ∧ a.proof.slices = [] ∧ a.proof.liveFailed = []) ∧
    (∃ (rq : Request) (s : State) (a : State), Served 0xD005 rq s a ∧ rq.payload = [] ∧ a.proof.runs = []) ∧
    (∃ (at_ : Nat) (s : State) (t : _) (u : _) (mw : _) (r : _) (l : _) (x : _), t = s.advance at_ ∧ t.proof.runs = r :: l ∧
      t.faults.safe = false ∧ t.power.state ≠ .dormant ∧ t.power.off = false ∧ t.boot.phase = 0xFF ∧ t.packageMw = (mw, u) ∧
      r.steps = [x] ∧ x.started = none ∧ x.test = 3) ∧
    (∃ (t : Nat) (u : Nat) (at_ : Nat) (s : State) (x : _), (s.advance at_).runningStep t u = some x) ∧
    (∃ (t : Nat) (u : Nat) (at_ : Nat) (s : State) (x : _), (s.advance at_).runningStep t u = some x ∧ s.faults.safe = true) ∧
    (∃ (n : Nat) (seen : ProofSeen) (at_ : Nat) (s : State) (t : _), t = s.advance at_ ∧ n ≤ 1 ∧
      bit t.proof.liveMask 0 = true ∧ t.power.state ≠ .dormant ∧ t.power.off = false ∧ t.inField = true ∧ t.boot.phase = 0xFF ∧
      Tbl.at t.proof.slices (4096 + n) 0 < 63 ∧ seen.passed = true) ∧
    (∃ (n : Nat) (seen : ProofSeen) (at_ : Nat) (s : State) (t : _) (r : _), t = s.advance at_ ∧ n ≤ 1 ∧
      bit t.proof.liveMask 0 = true ∧ t.power.state ≠ .dormant ∧ t.power.off = false ∧ t.inField = true ∧ t.boot.phase = 0xFF ∧
      Tbl.at t.proof.slices (4096 + n) 0 = 63 ∧ seen.passed = true ∧ t.proof.liveFailed.contains (4096 + n) = false ∧
      r = ProofRec.mk 0 0 16 0 n seen.coverage 0 seen.durationUs (seen.detail % 2 ^ 48) 0) := by
  refine ⟨?_, ?_, ?_, ?_, ?_, ?_, ?_, ?_, ?_, ?_, ?_, ?_, ?_, ?_, ?_⟩
  · refine ⟨req [0, 1, 0, 0, 2, 0, 254, 0, 2, 0, 0, 0], probe [{}], _, _, _, _, ⟨?_, rfl⟩, rfl, ?_, ?_, ?_, ?_, ?_, ?_, ?_, rfl, ?_, ?_, ?_, ?_, rfl⟩
    all_goals decide +kernel
  · refine ⟨req [0, 1, 0, 0, 3, 0, 2, 0, 1, 0, 0, 0], svc, _, _, ⟨?_, rfl⟩, rfl, ?_, ?_, ?_, ?_, ?_, ?_, ?_, ?_, ?_⟩
    all_goals decide +kernel
  · refine ⟨req [0, 1, 0, 0, 3, 0, 1, 0, 1, 0, 0, 0], svc.onRef (fun r => { r with selected := some 1 }), _, _, ⟨?_, rfl⟩, rfl, ?_, ?_, ?_, ?_, ?_, ?_, ?_, ?_, ?_, ?_⟩
    all_goals decide +kernel
  · refine ⟨req [0, 1, 0, 0, 3, 0, 1, 0, 1, 0, 0, 0], probe (List.replicate 5 {}), _, _, ⟨?_, rfl⟩, rfl, ?_, ?_, ?_, ?_, ?_, ?_, ?_, ?_, ?_, ?_, ?_⟩
    all_goals decide +kernel
  · refine ⟨req [5, 0, 0, 0], probe [{ id := 1 }, { id := 5, steps := [{ test := 3 }] }], _, _, _, _, _, _, ⟨?_, rfl⟩, rfl, ?_, ?_, rfl, ?_, rfl, rfl⟩
    all_goals decide +kernel
  · refine ⟨req [5, 0, 0, 0], svc, _, _, ⟨?_, rfl⟩, rfl, ?_, ?_, ?_⟩
    all_goals decide +kernel
  · refine ⟨req [0, 0, 0, 0, 1, 0, 0, 0], svc.onProof (fun p => { p with results := [{ seq := 3 }] }), _, _, _, _, ⟨?_, rfl⟩, rfl, ?_, ?_, ?_, ?_, rfl, rfl⟩
    all_goals decide +kernel
  · refine ⟨req [0, 0, 0, 0, 120, 0, 0, 0], svc.onProof (fun p => { p with results := [{ seq := 3 }] }), _, _, _, _, ⟨?_, rfl⟩, rfl, ?_, ?_, ?_, ?_, rfl, rfl⟩
    all_goals decide +kernel
  · refine ⟨req [7, 0x33, 16, 0], svc, _, _, ⟨?_, rfl⟩, rfl, ?_, ?_, ?_, ?_, ?_, ?_, ?_⟩
    all_goals decide +kernel
  · refine ⟨req [], svc, _, ⟨?_, rfl⟩, ?_, ?_⟩
    all_goals decide +kernel
  · refine ⟨9, probe [{ id := 5, steps := [{ test := 3, unit := 1 }] }], _, _, _, _, _, _, rfl, rfl, ?_, ?_, ?_, ?_, rfl, rfl, ?_, ?_⟩
    all_goals decide +kernel
  · exact ⟨3, 1, 9, probe [{ steps := [{ test := 3, unit := 1, started := some 0 }] }], _, rfl⟩
  · refine ⟨3, 1, 9, (probe [{ steps := [{ test := 3, unit := 1, started := some 0 }] }]).onFaults (fun f => { f with safe := true }), _, rfl, ?_⟩
    all_goals decide +kernel
  · refine ⟨1, seen1, 9, svc.onProof (fun p => { p with liveMask := 1 }), _, rfl, ?_, ?_, ?_, ?_, ?_, ?_, ?_, ?_⟩
    all_goals decide +kernel
  · refine ⟨1, seen1, 9, svc.onProof (fun p => { p with liveMask := 1, slices := [(4097, 63)] }), _, _, rfl, ?_, ?_, ?_, ?_, ?_, ?_, ?_, ?_, ?_, rfl⟩
    all_goals decide +kernel

/-- The hypotheses of every clause of KeysAreKept can be met together. -/
theorem witness_KeysAreKept :
    (∃ (n : _) (u : _) (s : State) (k : _), k = s.keySlot n ∧ k.kind ≠ 0 ∧ k.bad = false ∧ bit k.usage u = true ∧
      k.inState s.life.lifecycle = true ∧ k.volatile = false ∧ k.uses ≠ 0xFFFFFFFF ∧ k.uses ≠ 0 ∧ k.uses ≠ 1) ∧
    (∃ (n : _) (u : _) (s : State) (k : _), k = s.keySlot n ∧ ((k.kind = 0 ∨ k.bad = true ∨ bit k.usage u = false))) ∧
    (∃ (n : _) (u : _) (s : State) (k : _), k = s.keySlot n ∧ k.kind ≠ 0 ∧ k.bad = false ∧ bit k.usage u = true ∧
      k.inState s.life.lifecycle = true ∧ k.volatile = false ∧ k.uses = 0) ∧
    (∃ (rq : Request) (s : State) (a : State) (p : List Byte) (k : _), Served 0xE010 rq s a ∧ rq.payload = p ∧ p.length = 4 ∧
      u8 p 0 ≤ 63 ∧ fld p 1 3 = 0 ∧ k = a.keySlot (u8 p 0)) ∧
    (∃ (rq : Request) (s : State) (a : State) (p : List Byte), Served 0xE011 rq s a ∧ rq.payload = p ∧ 16 ≤ p.length ∧
      ((u8 p 0 = 1 ∨ 16 ≤ u8 p 0 ∧ u8 p 0 ≤ 63)) ∧ fld p 1 3 = 0 ∧ attrOk (p.drop 4) = true ∧
      p.length = 16 + keyBytes (u8 p 4)) ∧
    (∃ (rq : Request) (s : State) (a : State) (p : List Byte), Served 0xE011 rq s a ∧ rq.payload = p ∧ 16 ≤ p.length ∧
      ((u8 p 0 = 1 ∨ 16 ≤ u8 p 0 ∧ u8 p 0 ≤ 63)) ∧ fld p 1 3 = 0 ∧ attrOk (p.drop 4) = true ∧
      p.length = 16 + keyBytes (u8 p 4)) ∧
    (∃ (rq : Request) (s : State) (a : State) (p : List Byte), Served 0xE011 rq s a ∧ rq.payload = p ∧
      ((u8 p 0 = 0 ∨ 2 ≤ u8 p 0 ∧ u8 p 0 ≤ 15 ∨ 63 < u8 p 0))) ∧
    (∃ (rq : Request) (s : State) (a : State) (p : List Byte), Served 0xE011 rq s a ∧ rq.payload = p ∧
      ((u8 p 0 = 0 ∨ 2 ≤ u8 p 0 ∧ u8 p 0 ≤ 15 ∨ 63 < u8 p 0))) ∧
    (∃ (rq : Request) (s : State) (a : State) (p : List Byte) (at_ : _) (t : _), Served 0xE012 rq s a ∧ rq.payload = p ∧
      44 ≤ p.length ∧ ((u8 p 0 = 1 ∨ 16 ≤ u8 p 0 ∧ u8 p 0 ≤ 63)) ∧ u8 p 1 ≤ 63 ∧ u16 p 2 = 0 ∧ at_ = (p.drop 4).take 12 ∧
      attrOk at_ = true ∧ p.length = 44 + keyBytes (u8 at_ 0) ∧ a.useSlot (u8 p 1) 1 = (0, t)) ∧
    (∃ (rq : Request) (s : State) (a : State) (p : List Byte) (at_ : _) (k : _), Served 0xE013 rq s a ∧ rq.payload = p ∧
      16 ≤ u8 p 0 ∧ u8 p 0 ≤ 63 ∧ u8 p 1 = 255 ∧ u8 p 2 ≤ 64 ∧ u8 p 3 ≤ 64 ∧ p.length = 16 + u8 p 2 + u8 p 3 ∧
      at_ = (p.drop 4).take 12 ∧ attrOk at_ = true ∧ u8 at_ 0 ≠ 3 ∧
      k = { parseAttr at_ with key := Crypto.kdf a.root ((p.drop 16).take (u8 p 2)) (p.drop (16 + u8 p 2)) (8 * keyBytes (u8 at_ 0)) }) ∧
    (∃ (rq : Request) (s : State) (a : State) (p : List Byte) (t : _), Served 0xE014 rq s a ∧ rq.payload = p ∧ u8 p 0 ≤ 63 ∧
      ((u8 p 0 < 3 ∨ 15 < u8 p 0)) ∧ u8 p 1 = 2 ∧ 1 ≤ u16 p 2 ∧ u16 p 2 ≤ 3900 ∧ p.length = 4 + u16 p 2 ∧
      a.useSlot (u8 p 0) 4 = (0, t)) ∧
    (∃ (rq : Request) (s : State) (a : State) (p : List Byte) (t : _) (st : _), Served 0xE014 rq s a ∧ rq.payload = p ∧
      u8 p 0 ≤ 63 ∧ ((u8 p 0 < 3 ∨ 15 < u8 p 0)) ∧ u8 p 1 = 2 ∧ 1 ≤ u16 p 2 ∧ u16 p 2 ≤ 3900 ∧ p.length = 4 + u16 p 2 ∧
      a.useSlot (u8 p 0) 4 = (st, t) ∧ st ≠ 0) ∧
    (∃ (rq : Request) (s : State) (a : State) (p : List Byte), Served 0xE015 rq s a ∧ rq.payload = p ∧ p.length = 4 ∧
      ((u8 p 0 = 1 ∨ 16 ≤ u8 p 0 ∧ u8 p 0 ≤ 63)) ∧ fld p 1 3 = 0) ∧
    (∃ (rq : Request) (s : State) (a : State), Served 0xE001 rq s a ∧ rq.payload = []) ∧
    (∃ (rq : Request) (s a : State) (p : List Byte) (t : State), Served 0xE002 rq s a ∧ rq.payload = p ∧ p.length = 112 ∧
      u16 p 10 = 0 ∧ u64 p 0 = Config.serial.toNat ∧ u8 p 8 = a.life.lifecycle.code ∧ u32 p 12 = a.nonce ∧
      a.useSlot 2 2 = (0, t) ∧ t.life.nextLifecycle = none ∧ t.life.lifecycle = .field ∧ u8 p 9 = 3 ∧
      t.life.serviceEntries < 8) ∧
    (∃ (rq : Request) (s : State) (a : State) (p : List Byte), Served 0xE003 rq s a ∧ rq.payload = p ∧ p.length = 196 ∧
      u16 p 194 = 0 ∧ a.life.nextLifecycle = none) ∧
    (∃ (rq : Request) (s : State) (a : State) (p : List Byte), Served 0xE003 rq s a ∧ rq.payload = p ∧ p.length = 196 ∧
      u16 p 194 = 0 ∧ a.life.nextLifecycle = none) ∧
    (∃ (s : State), s.life.nextLifecycle = some .service) ∧
    (∃ (s : State), s.life.nextLifecycle = some .retired) := by
  refine ⟨?_, ?_, ?_, ?_, ?_, ?_, ?_, ?_, ?_, ?_, ?_, ?_, ?_, ?_, ?_, ?_, ?_, ?_, ?_⟩
  · refine ⟨16, 1, key16 { kind := 1, usage := 2, lcMask := 2, uses := 2 }, _, rfl, ?_, ?_, ?_, ?_, ?_, ?_, ?_, ?_⟩
    all_goals decide +kernel
  · refine ⟨16, 1, svc, _, rfl, ?_⟩
    all_goals decide +kernel
  · refine ⟨16, 1, key16 { kind := 1, usage := 2, lcMask := 2, uses := 0 }, _, rfl, ?_, ?_, ?_, ?_, ?_, ?_⟩
    all_goals decide +kernel
  · refine ⟨req [63, 0, 0, 0], svc, _, _, _, ⟨?_, rfl⟩, rfl, ?_, ?_, ?_, rfl⟩
    all_goals decide +kernel
  · refine ⟨req ([1, 0, 0, 0] ++ attr1 ++ zeros 32), svc, _, _, ⟨?_, rfl⟩, rfl, ?_, ?_, ?_, ?_, ?_⟩
    all_goals decide +kernel
  · refine ⟨req ([63, 0, 0, 0, 3, 4, 2] ++ zeros 9 ++ zeros 97), svc, _, _, ⟨?_, rfl⟩, rfl, ?_, ?_, ?_, ?_, ?_⟩
    all_goals decide +kernel
  · refine ⟨req [15], svc, _, _, ⟨?_, rfl⟩, rfl, ?_⟩
    all_goals decide +kernel
  · refine ⟨req [64], svc, _, _, ⟨?_, rfl⟩, rfl, ?_⟩
    all_goals decide +kernel
  · refine ⟨req ([63, 16, 0, 0] ++ attr1 ++ zeros 60), key16 { kind := 1, usage := 2, lcMask := 2, uses := 0xFFFFFFFF, key := zeros 32 }, _, _, _, _, ⟨?_, rfl⟩, rfl, ?_, ?_, ?_, ?_, rfl, ?_, ?_, rfl⟩
    all_goals decide +kernel
  · refine ⟨req ([16, 255, 64, 64] ++ attr1 ++ zeros 128), svc, _, _, _, _, ⟨?_, rfl⟩, rfl, ?_, ?_, ?_, ?_, ?_, ?_, rfl, ?_, ?_, rfl⟩
    all_goals decide +kernel
  · refine ⟨req [16, 2, 1, 0, 7], key16 { kind := 2, usage := 16, lcMask := 2, uses := 0xFFFFFFFF, key := zeros 48 }, _, _, _, ⟨?_, rfl⟩, rfl, ?_, ?_, ?_, ?_, ?_, ?_, rfl⟩
    all_goals decide +kernel
  · refine ⟨req [16, 2, 1, 0, 7], svc, _, _, _, _, ⟨?_, rfl⟩, rfl, ?_, ?_, ?_, ?_, ?_, ?_, rfl, ?_⟩
    all_goals decide +kernel
  · refine ⟨req [63, 0, 0, 0], svc, _, _, ⟨?_, rfl⟩, rfl, ?_, ?_, ?_⟩
    all_goals decide +kernel
  · refine ⟨req [], svc, _, ⟨?_, rfl⟩, ?_⟩
    all_goals decide +kernel
  · refine ⟨lreq lcRecord, inField, _, _, _, ⟨?_, rfl⟩, rfl, rfl, rfl, fld_double (BitVec.isLt _), rfl, fld_word (BitVec.isLt _), rfl,
      rfl, rfl, rfl, ?_⟩
    all_goals decide +kernel
  · refine ⟨req (zeros 196), svc.onLife (fun l => { l with lifecycle := .blank }), _, _, ⟨?_, rfl⟩, rfl, ?_, ?_, ?_⟩
    all_goals decide +kernel
  · refine ⟨req (zeros 196), svc.onLife (fun l => { l with lifecycle := .blank }), _, _, ⟨?_, rfl⟩, rfl, ?_, ?_, ?_⟩
    all_goals decide +kernel
  · refine ⟨svc.onLife (fun l => { l with nextLifecycle := some .service }), ?_⟩
    all_goals decide +kernel
  · refine ⟨svc.onLife (fun l => { l with nextLifecycle := some .retired }), ?_⟩
    all_goals decide +kernel

/-- The hypotheses of every clause of FoliosAct can be met together. -/
theorem witness_FoliosAct :
    (∃ (rq : Request) (s : State) (a : State) (p : List Byte), Served 0xE020 rq s a ∧ rq.payload = p ∧ 8 ≤ p.length ∧
      1 ≤ u16 p 4 ∧ u16 p 4 ≤ 4000 ∧ p.length = 8 + u16 p 4 ∧ u16 p 6 = 0 ∧ u32 p 0 + u16 p 4 ≤ 33554304) ∧
    (∃ (rq : Request) (s : State) (a : State) (p : List Byte), Served 0xE020 rq s a ∧ rq.payload = p ∧ 8 ≤ p.length ∧
      1 ≤ u16 p 4 ∧ u16 p 4 ≤ 4000 ∧ p.length = 8 + u16 p 4 ∧ u16 p 6 = 0 ∧ u32 p 0 + u16 p 4 ≤ 33554304) ∧
    (∃ (rq : Request) (s : State) (a : State) (p : List Byte), Served 0xE021 rq s a ∧ rq.payload = p ∧ p.length = 4 ∧
      a.life.store = none ∧ a.targetArmed = false) ∧
    (∃ (rq : Request) (s : State) (a : State) (p : List Byte), Served 0xE021 rq s a ∧ rq.payload = p ∧ p.length = 4 ∧
      a.life.store ≠ none) ∧
    (∃ (p : _) (n : _), folioFormatOk p n = false) ∧
    (∃ (p : _) (n : _) (s : State), folioFormatOk p n = true ∧ epochOf (u32 p 8) < s.life.rollback) ∧
    (∃ (s : State) (j : _), s.life.store = some j ∧ j.golden = false ∧ j.reason ≠ 0) ∧
    (∃ (s : State) (j : _) (t : _), s.life.store = some j ∧ j.golden = false ∧ j.reason = 0 ∧
      t = (State.journalSlot j.slot .valid j.version ((s.onLife (fun l => { l with store := none })).journalDone (slotRegion j.slot))).onFolio j.slot (fun f => { f with state := .valid })) ∧
    (∃ (rq : Request) (s : State) (a : State) (p : List Byte), Served 0x3040 rq s a ∧ rq.payload = p ∧ p.length = 16 ∧
      a.life.a.holds (u32 p 0) ((p.drop 8).take 8) = false ∧ a.life.b.holds (u32 p 0) ((p.drop 8).take 8) = false ∧
      a.life.rollback ≤ epochOf (u32 p 0) ∧ a.life.store = none ∧ a.life.receiving = none) ∧
    (∃ (rq : Request) (s : State) (a : State) (p : List Byte), Served 0x3040 rq s a ∧ rq.payload = p ∧ p.length = 16 ∧
      a.life.a.holds (u32 p 0) ((p.drop 8).take 8) = true) ∧
    (∃ (rq : Request) (s : State) (a : State) (p : List Byte) (n : _), Served 0x3041 rq s a ∧ rq.payload = p ∧ n = u16 p 8 ∧
      1 ≤ n ∧ n ≤ 4000 ∧ p.length = 12 + n ∧ u16 p 10 = 0 ∧ u32 p 4 + n ≤ 33554304 ∧ a.life.receiving = some (linkOf rq) ∧
      a.life.receiveVersion = u32 p 0 ∧ u32 p 4 ≤ a.life.stagingLength ∧ u32 p 4 + n ≤ a.life.receiveLength) ∧
    (∃ (rq : Request) (s : State) (a : State) (p : List Byte), Served 0x3042 rq s a ∧ rq.payload = p ∧ p.length = 4 ∧
      a.life.store = none ∧ a.life.receiving = some (linkOf rq) ∧ a.life.receiveVersion = u32 p 0 ∧
      a.life.stagingLength = a.life.receiveLength ∧ a.targetArmed = false) ∧
    (∃ (rq : Request) (s : State) (a : State) (p : List Byte), Served 0x3042 rq s a ∧ rq.payload = p ∧ p.length = 4 ∧
      a.life.store = none ∧ a.life.receiving ≠ some (linkOf rq)) ∧
    (∃ (rq : Request) (s : State) (a : State) (r : _), Served 0x3043 rq s a ∧ rq.payload = [] ∧ r = a.hier.relay) ∧
    (∃ (rq : Request) (s : State) (a : State) (p : List Byte) (f : _) (t : _), Served 0xE022 rq s a ∧ rq.payload = p ∧
      p.length = 16 ∧ u8 p 0 ≤ 1 ∧ u8 p 1 = 0 ∧ u16 p 2 = 0 ∧ u32 p 12 < 1000000000 ∧ f = a.folioSlot (u8 p 0) ∧
      f.state = .valid ∧ a.folioVersion ≤ f.version ∧ a.life.rollback ≤ epochOf f.version ∧ a.life.activation = none ∧
      a.life.paused = none ∧ t = timeAt p 4 12 ∧ a.now + 100000000 ≤ t ∧ t ≤ a.now + 86400000000000 ∧ a.lat.pending = []) ∧
    (∃ (rq : Request) (s : State) (a : State) (p : List Byte) (f : _) (t : _), Served 0xE022 rq s a ∧ rq.payload = p ∧
      p.length = 16 ∧ u8 p 0 ≤ 1 ∧ u8 p 1 = 0 ∧ u16 p 2 = 0 ∧ u32 p 12 < 1000000000 ∧ f = a.folioSlot (u8 p 0) ∧
      f.state = .valid ∧ a.folioVersion ≤ f.version ∧ a.life.rollback ≤ epochOf f.version ∧ a.life.activation = none ∧
      a.life.paused = none ∧ t = timeAt p 4 12 ∧ a.now + 100000000 ≤ t ∧ t ≤ a.now + 86400000000000 ∧ a.lat.pending = []) ∧
    (∃ (rq : Request) (s : State) (a : State) (p : List Byte), Served 0xE022 rq s a ∧ rq.payload = p ∧ p.length = 16 ∧
      u8 p 0 ≤ 1 ∧ u8 p 1 = 0 ∧ u16 p 2 = 0 ∧ u32 p 12 < 1000000000 ∧ (a.folioSlot (u8 p 0)).version < a.folioVersion) ∧
    (∃ (at_ : Nat) (s : State) (x : _), (s.advance at_).life.activation = some x) ∧
    (∃ (at_ : Nat) (s : State), (s.advance at_).life.paused ≠ none) ∧
    (∃ (s : State) (x : _), s.life.paused = some x) ∧
    (∃ (at_ : Nat) (s : State) (t : _) (u : _) (n : _), t = s.advance at_ ∧ t.life.trialSince = some u ∧
      u + 60000000000 ≤ t.now ∧ t.faults.yielded = false ∧ t.life.selectTrial = true ∧
      n = epochOf (t.folioSlot t.life.selectSlot).version) ∧
    (∃ (at_ : Nat) (s : State) (u : _), s.life.trialSince = some u ∧ (s.advance at_).now < u + 60000000000) ∧
    (∃ (rq : Request) (s : State) (a : State) (l : _), Served 0xE023 rq s a ∧ rq.payload = [] ∧ l = a.life) ∧
    (∃ (rq : Request) (s : State) (a : State) (f : _), Served 0xE024 rq s a ∧ rq.payload = [] ∧ a.life.store = none ∧
      a.life.running ≤ 1 ∧ f = a.folioSlot a.life.running) ∧
    (∃ (s : State) (j : _), s.life.store = some j ∧ j.golden = true ∧ s.life.running ≤ 1) := by
  refine ⟨?_, ?_, ?_, ?_, ?_, ?_, ?_, ?_, ?_, ?_, ?_, ?_, ?_, ?_, ?_, ?_, ?_, ?_, ?_, ?_, ?_, ?_, ?_, ?_, ?_⟩
  · refine ⟨req (zeros 4 ++ [1, 0, 0, 0, 7]), svc, _, _, ⟨?_, rfl⟩, rfl, ?_, ?_, ?_, ?_, ?_, ?_⟩
    all_goals decide +kernel
  · refine ⟨req (leBytes 4 33554303 ++ [1, 0, 0, 0, 7]), svc, _, _, ⟨?_, rfl⟩, rfl, ?_, ?_, ?_, ?_, ?_, ?_⟩
    all_goals decide +kernel
  · refine ⟨req (zeros 4), svc, _, _, ⟨?_, rfl⟩, rfl, ?_, ?_, ?_⟩
    all_goals decide +kernel
  · refine ⟨req (zeros 4), svc.onLife (fun l => { l with store := some {} }), _, _, ⟨?_, rfl⟩, rfl, ?_, ?_⟩
    all_goals decide +kernel
  · refine ⟨[], 160, ?_⟩
    all_goals decide +kernel
  · refine ⟨leBytes 4 0x9256F011 ++ [1, 0, 1, 0] ++ leBytes 4 (254 * 2 ^ 24) ++ leBytes 4 160 ++ zeros 144, 160, svc.onLife (fun l => { l with rollback := 255 }), ?_, ?_⟩
    all_goals decide +kernel
  · refine ⟨svc.onLife (fun l => { l with store := some { reason := 1 } }), _, rfl, ?_, ?_⟩
    all_goals decide +kernel
  · refine ⟨svc.onLife (fun l => { l with store := some { slot := 1 } }), _, _, rfl, ?_, ?_, rfl⟩
    all_goals decide +kernel
  · refine ⟨lreq (zeros 16), below, _, _, ⟨?_, rfl⟩, rfl, ?_, ?_, ?_, ?_, ?_, ?_⟩
    all_goals decide +kernel
  · refine ⟨lreq (zeros 16), below.onLife (fun l => { l with a := { state := .valid, digest := zeros 48 } }), _, _, ⟨?_, rfl⟩, rfl, ?_, ?_⟩
    all_goals decide +kernel
  · refine ⟨lreq (zeros 8 ++ [1, 0, 0, 0, 7]), below.onLife (fun l => { l with receiving := some 63, receiveLength := 1 }), _, _, _, ⟨?_, rfl⟩, rfl, rfl, ?_, ?_, ?_, ?_, ?_, ?_, ?_, ?_, ?_⟩
    all_goals decide +kernel
  · refine ⟨lreq (zeros 4), below.onLife (fun l => { l with receiving := some 63 }), _, _, ⟨?_, rfl⟩, rfl, ?_, ?_, ?_, ?_, ?_, ?_⟩
    all_goals decide +kernel
  · refine ⟨lreq (zeros 4), below, _, _, ⟨?_, rfl⟩, rfl, ?_, ?_, ?_⟩
    all_goals decide +kernel
  · refine ⟨lreq [], below, _, _, ⟨?_, rfl⟩, ?_, rfl⟩
    all_goals decide +kernel
  · refine ⟨req (zeros 12 ++ leBytes 4 100000000), folioA 0, _, _, _, _, ⟨?_, rfl⟩, rfl, ?_, ?_, ?_, ?_, ?_, rfl, ?_, ?_, ?_, ?_, ?_, rfl, ?_, ?_, ?_⟩
    all_goals decide +kernel
  · refine ⟨req ([0, 0, 0, 0] ++ leBytes 8 86400 ++ zeros 4), folioA 0, _, _, _, _, ⟨?_, rfl⟩, rfl, ?_, ?_, ?_, ?_, ?_, rfl, ?_, ?_, ?_, ?_, ?_, rfl, ?_, ?_, ?_⟩
    all_goals decide +kernel
  · refine ⟨req ([1, 0, 0, 0] ++ zeros 12), (folioA 5).onLife (fun l => { l with running := 0 }), _, _, ⟨?_, rfl⟩, rfl, ?_, ?_, ?_, ?_, ?_, ?_⟩
    all_goals decide +kernel
  · exact ⟨9, svc.onLife (fun l => { l with activation := some {} }), _, rfl⟩
  · refine ⟨9, svc.onLife (fun l => { l with paused := some {} }), ?_⟩
    all_goals decide +kernel
  · exact ⟨svc.onLife (fun l => { l with paused := some {} }), _, rfl⟩
  · refine ⟨60000000000, svc.onLife (fun l => { l with trialSince := some 0, selectTrial := true }), _, _, _, rfl, rfl, ?_, ?_, ?_, rfl⟩
    all_goals decide +kernel
  · refine ⟨59999999999, svc.onLife (fun l => { l with trialSince := some 0 }), _, rfl, ?_⟩
    all_goals decide +kernel
  · refine ⟨req [], svc, _, _, ⟨?_, rfl⟩, ?_, rfl⟩
    all_goals decide +kernel
  · refine ⟨req [], svc.onLife (fun l => { l with running := 1 }), _, _, ⟨?_, rfl⟩, ?_, ?_, ?_, rfl⟩
    all_goals decide +kernel
  · refine ⟨svc.onLife (fun l => { l with running := 1, store := some { golden := true } }), _, rfl, ?_, ?_⟩
    all_goals decide +kernel

/-- The hypotheses of every clause of StartUpProceeds can be met together. -/
theorem witness_StartUpProceeds :
    (∃ (s : State), s.power.off = false) ∧
    (∃ (s : State), s.power.off = false) ∧
    (∃ (c : _), 3 ≤ c) ∧
    (∃ (n : _) (s : State) (k : _), s.life.slots = [(n, k)]) ∧
    (∃ (at_ : Nat) (s : State) (t : _), t = s.advance at_ ∧ t.power.off = false ∧ t.boot.phase = 0) ∧
    (∃ (s : State), s.boot.phase = 1) ∧
    (∃ (s : State), s.boot.phase = 3 ∧ s.life.lifecycle = .field) ∧
    (∃ (s : State), s.boot.phase = 3 ∧ s.life.lifecycle = .blank) ∧
    (∃ (s : State), s.boot.phase = 3 ∧ s.life.lifecycle = .retired) ∧
    (∃ (n : Nat) (s : State), s.boot.phase = 4 ∧ 1 ≤ n ∧ n ≤ 4 ∧ s.life.helperBlown = false) ∧
    (∃ (n : Nat) (s : State), s.boot.phase = 4 ∧ 1 ≤ n ∧ n ≤ 4 ∧ s.life.helperBlown = false) ∧
    (∃ (n : Nat) (s : State), s.boot.phase = 4 ∧ ((n = 0 ∨ 4 < n))) ∧
    (∃ (n : Nat) (s : State), s.boot.phase = 4 ∧ ((n = 0 ∨ 4 < n))) ∧
    (∃ (s : State), s.boot.phase = 5 ∧ openIntent s.life.journal = none ∧ s.life.a.state = .valid ∧ s.life.b.state = .empty ∧
      s.life.golden.state = .valid) ∧
    (∃ (s : State), s.boot.phase = 6 ∧ s.boot.bootSrc = false ∧ s.life.selectSlot = 0 ∧ s.life.selectTrial = false ∧
      s.life.tried = [] ∧ s.life.a.state = .valid ∧ (∀ n, n < 4 → (s.stack n).trained = false)) ∧
    (∃ (s : State), s.boot.phase = 6 ∧ s.boot.bootSrc = false ∧ s.life.selectSlot = 0 ∧ s.life.selectTrial = false ∧
      s.life.tried = [] ∧ s.life.a.state = .valid) ∧
    (∃ (s : State), s.boot.phase = 7 ∧ s.life.pendingLoad ≠ 255) ∧
    (∃ (s : State), s.boot.phase = 7) ∧
    (∃ (s : State), s.boot.phase = 8) ∧
    (∃ (at_ : Nat) (s : State) (t : _), t = s.advance at_ ∧ s.boot.phase = 8) ∧
    (∃ (s : State) (x : LaneTable), s.boot.phase = 9 ∧ s.lanes.flash = some x ∧ tableOk x.bytes = true) ∧
    (∃ (s : State) (x : LaneTable), s.boot.phase = 9 ∧ s.lanes.flash = none ∧ s.lanes.keep = some x ∧ tableOk x.bytes = true) ∧
    (∃ (s : State), s.boot.phase = 10 ∧ s.keep.restore = false) ∧
    (∃ (s : State), s.boot.phase = 11 ∧ s.faults.sticky = [] ∧ s.faults.held = [] ∧ s.life.fallbacks = [] ∧ s.vox.links = []) ∧
    (∃ (at_ : Nat) (s : State) (t : _) (d : _), t = s.advance at_ ∧ t.boot.profileDue = some d ∧ d ≤ t.now ∧
      t.boot.phase = 0xFF) := by
  refine ⟨?_, ?_, ?_, ?_, ?_, ?_, ?_, ?_, ?_, ?_, ?_, ?_, ?_, ?_, ?_, ?_, ?_, ?_, ?_, ?_, ?_, ?_, ?_, ?_, ?_⟩
  · refine ⟨svc, ?_⟩
    all_goals decide +kernel
  · refine ⟨svc, ?_⟩
    all_goals decide +kernel
  · refine ⟨3, ?_⟩
    all_goals decide +kernel
  · refine ⟨16, key16 { kind := 1, volatile := true }, { kind := 1, volatile := true }, ?_⟩
    all_goals decide +kernel
  · refine ⟨9, phase 0, _, rfl, ?_, ?_⟩
    all_goals decide +kernel
  · refine ⟨phase 1, ?_⟩
    all_goals decide +kernel
  · refine ⟨(phase 3).onLife (fun l => { l with lifecycle := .field }), ?_, ?_⟩
    all_goals decide +kernel
  · refine ⟨(phase 3).onLife (fun l => { l with lifecycle := .blank }), ?_, ?_⟩
    all_goals decide +kernel
  · refine ⟨(phase 3).onLife (fun l => { l with lifecycle := .retired }), ?_, ?_⟩
    all_goals decide +kernel
  · refine ⟨1, phase 4, ?_, ?_, ?_, ?_⟩
    all_goals decide +kernel
  · refine ⟨4, phase 4, ?_, ?_, ?_, ?_⟩
    all_goals decide +kernel
  · refine ⟨0, phase 4, ?_, ?_⟩
    all_goals decide +kernel
  · refine ⟨5, phase 4, ?_, ?_⟩
    all_goals decide +kernel
  · refine ⟨(phase 5).onLife (fun l => { l with a := { state := .valid }, golden := { state := .valid } }), ?_, ?_, ?_, ?_, ?_⟩
    all_goals decide +kernel
  · refine ⟨(phase 6).onLife (fun l => { l with a := { state := .valid }, selectSlot := 0 }), ?_, ?_, ?_, ?_, ?_, ?_, ?_⟩
    all_goals decide +kernel
  · refine ⟨(phase 6).onLife (fun l => { l with a := { state := .valid }, selectSlot := 0 }), ?_, ?_, ?_, ?_, ?_, ?_⟩
    all_goals decide +kernel
  · refine ⟨(phase 7).onLife (fun l => { l with pendingLoad := 0 }), ?_, ?_⟩
    all_goals decide +kernel
  · refine ⟨phase 7, ?_⟩
    all_goals decide +kernel
  · refine ⟨phase 8, ?_⟩
    all_goals decide +kernel
  · refine ⟨9, phase 8, _, rfl, ?_⟩
    all_goals decide +kernel
  · obtain ⟨c, h⟩ : ∃ c, crc32c (zeros 20480) = c := ⟨_, rfl⟩
    exact ⟨(phase 9).onLanes (fun l => { l with flash := some { bytes := tableFor c } }), _, rfl, rfl, tableFor_ok h⟩
  · obtain ⟨c, h⟩ : ∃ c, crc32c (zeros 20480) = c := ⟨_, rfl⟩
    exact ⟨(phase 9).onLanes (fun l => { l with keep := some { bytes := tableFor c } }), _, rfl, rfl, rfl, tableFor_ok h⟩
  · refine ⟨(phase 10).onKeep (fun k => { k with restore := false }), ?_, ?_⟩
    all_goals decide +kernel
  · refine ⟨phase 11, ?_, ?_, ?_, ?_, ?_⟩
    all_goals decide +kernel
  · refine ⟨9, svc.onBoot (fun b => { b with profileDue := some 5 }), _, _, rfl, rfl, ?_, ?_⟩
    all_goals decide +kernel

/-- The hypotheses of every clause of CompatibilityCommandsAct can be met together. -/
theorem witness_CompatibilityCommandsAct :
    (∃ (rq : Request) (s : State) (a : State), Served 0xF001 rq s a ∧ rq.payload = []) ∧
    (∃ (rq : Request) (s : State) (a : State) (p : List Byte) (e : _), Served 0xF002 rq s a ∧ rq.payload = p ∧ p.length = 4 ∧
      u16 p 0 ≤ 255 ∧ ((u16 p 2 ≤ 255 ∨ u16 p 2 = 0xFFFF)) ∧ e = Entry.mk (u16 p 2) 0 true false 0) ∧
    (∃ (rq : Request) (s : State) (a : State) (p : List Byte) (e : _), Served 0xF002 rq s a ∧ rq.payload = p ∧ p.length = 4 ∧
      u16 p 0 ≤ 255 ∧ ((u16 p 2 ≤ 255 ∨ u16 p 2 = 0xFFFF)) ∧ e = Entry.mk (u16 p 2) 0 true false 0) ∧
    (∃ (rq : Request) (s : State) (a : State) (p : List Byte), Served 0xF002 rq s a ∧ rq.payload = p ∧ p.length = 4 ∧
      u16 p 0 ≤ 255 ∧ u16 p 2 ≤ 255 ∧ a.openForme = none ∧
      a.platesUsed + a.platesAdded [(u16 p 0, Entry.mk (u16 p 2) 0 true false 0)] ≤ 32768 ∧
      a.trunkError (u16 p 0) (Entry.mk (u16 p 2) 0 true false 0) = 0) ∧
    (∃ (rq : Request) (s : State) (a : State) (p : List Byte), Served 0xF002 rq s a ∧ rq.payload = p ∧ p.length = 4 ∧
      255 < u16 p 0) ∧
    (∃ (rq : Request) (s : State) (a : State), Served 0xF003 rq s a ∧ rq.payload = [] ∧ a.boot.resetDue = none) ∧
    (∃ (at_ : Nat) (s : State) (t : _) (u : _), t = s.advance at_ ∧ t.boot.resetDue = some u ∧ u ≤ t.now) ∧
    (∃ (rq : Request) (s : State) (a : State) (p : List Byte) (f : _), Served 0xF004 rq s a ∧ rq.payload = p ∧ p.length = 4 ∧
      u8 p 0 ≤ 1 ∧ fld p 1 3 = 0 ∧ f = a.folioSlot (u8 p 0) ∧ f.state = .valid ∧ a.folioVersion ≤ f.version ∧
      a.life.rollback ≤ epochOf f.version ∧ a.life.activation = none ∧ a.life.paused = none) := by
  refine ⟨?_, ?_, ?_, ?_, ?_, ?_, ?_, ?_⟩
  · refine ⟨req [], svc, _, ⟨?_, rfl⟩, ?_⟩
    all_goals decide +kernel
  · refine ⟨req [255, 0, 255, 255], svc, _, _, _, ⟨?_, rfl⟩, rfl, ?_, ?_, ?_, rfl⟩
    all_goals decide +kernel
  · refine ⟨req [255, 0, 255, 0], svc, _, _, _, ⟨?_, rfl⟩, rfl, ?_, ?_, ?_, rfl⟩
    all_goals decide +kernel
  · refine ⟨req [255, 0, 255, 0], svc, _, _, ⟨?_, rfl⟩, rfl, ?_, ?_, ?_, ?_, ?_, ?_⟩
    all_goals decide +kernel
  · refine ⟨req [0, 1, 0, 0], svc, _, _, ⟨?_, rfl⟩, rfl, ?_, ?_⟩
    all_goals decide +kernel
  · refine ⟨req [], svc, _, ⟨?_, rfl⟩, ?_, ?_⟩
    all_goals decide +kernel
  · refine ⟨9, svc.onBoot (fun b => { b with resetDue := some 9 }), _, _, rfl, rfl, ?_⟩
    all_goals decide +kernel
  · refine ⟨req [0, 0, 0, 0], folioA 0, _, _, _, ⟨?_, rfl⟩, rfl, ?_, ?_, ?_, rfl, ?_, ?_, ?_, ?_, ?_⟩
    all_goals decide +kernel

/-- The hypotheses of every clause of StepsRunTheFront can be met together. -/
theorem witness_StepsRunTheFront :
    (∃ (c : _) (r : _) (s : State), s.pending = c :: r) ∧
    (∃ (s : State), s.pending = []) ∧
    (∃ (s : State) (k : _) (g : _) (q : _) (r : _) (body : _), s.pending = [] ∧ s.power.off = false ∧ s.life.paused = none ∧
      s.nextPort = some k ∧ g = Tbl.at s.ports.galleys k [] ∧ g = q :: r ∧ bodyOf q.opcode = some body) := by
  refine ⟨?_, ?_, ?_⟩
  · exact ⟨_, _, { svc with pending := [.powerOn] }, rfl⟩
  · refine ⟨svc, ?_⟩
    all_goals decide +kernel
  · refine ⟨svc.onPorts (fun p => { p with galleys := [(3, [{ opcode := 0x0002, request := req [] }])] }), _, _, _, _, _, ?_, ?_, ?_, rfl, rfl, rfl, rfl⟩
    all_goals decide +kernel

/-- The hypotheses of every clause of AdmissionKeepsItsOrder can be met together. -/
theorem witness_AdmissionKeepsItsOrder :
    (∃ (rq : Request) (s : State), headerOk rq s = false) ∧
    (∃ (op : _) (rq : Request) (s : State), headerOk rq s = true ∧ opClass op = none) ∧
    (∃ (op : _) (rq : Request) (s : State) (st : _), headerOk rq s = true ∧ opClass op ≠ none ∧
      (opClass op = some .deviceOnly → deviceTraffic op rq s = true) ∧ privilege op rq s = some st) ∧
    (∃ (op : _) (rq : Request) (s : State), headerOk rq s = true ∧ opClass op ≠ none ∧
      (opClass op = some .deviceOnly → deviceTraffic op rq s = true) ∧ privilege op rq s = none ∧ s.isForMe rq = false) ∧
    (∃ (op : _) (rq : Request) (s : State), headerOk rq s = true ∧ opClass op ≠ none ∧
      (opClass op = some .deviceOnly → deviceTraffic op rq s = true) ∧ privilege op rq s = none ∧ s.isForMe rq = true ∧
      s.unjoined rq = true) ∧
    (∃ (op : _) (rq : Request) (s : State), headerOk rq s = true ∧ opClass op ≠ none ∧
      (opClass op = some .deviceOnly → deviceTraffic op rq s = true) ∧ privilege op rq s = none ∧ s.isForMe rq = true ∧
      s.unjoined rq = false ∧ validNow op rq.port s = false) ∧
    (∃ (op : _) (rq : Request) (s : State), headerOk rq s = true ∧ opClass op ≠ none ∧ opClass op ≠ some .deviceOnly ∧
      privilege op rq s = none ∧ s.isForMe rq = true ∧ s.unjoined rq = false ∧ validNow op rq.port s = true ∧
      s.twin.role = .standby ∧ stateChanging op = true ∧ standbyAccepts op = false ∧
      ((rq.port = .cpa ∨ rq.port = .cpb ∨ rq.port = .cpm ∨ rq.port = .cpt))) ∧
    (∃ (op : _) (rq : Request) (s : State) (e : _), headerOk rq s = true ∧ opClass op ≠ none ∧ opClass op ≠ some .deviceOnly ∧
      privilege op rq s = none ∧ s.isForMe rq = true ∧ s.unjoined rq = false ∧ validNow op rq.port s = true ∧
      s.twin.role ≠ .standby ∧ s.findTag (tagKey rq.port rq.originator) rq.tag = some e) ∧
    (∃ (op : _) (rq : Request) (s : State), headerOk rq s = true ∧ opClass op ≠ none ∧ opClass op ≠ some .deviceOnly ∧
      privilege op rq s = none ∧ s.isForMe rq = true ∧ s.unjoined rq = false ∧ validNow op rq.port s = true ∧
      s.twin.role ≠ .standby ∧ s.findTag (tagKey rq.port rq.originator) rq.tag = none ∧ rq.etref ≠ 0 ∧ ownTime op = true ∧
      bit rq.flags 3 = false) ∧
    (∃ (op : _) (rq : Request) (s : State), headerOk rq s = true ∧ opClass op ≠ none ∧ opClass op ≠ some .deviceOnly ∧
      privilege op rq s = none ∧ s.isForMe rq = true ∧ s.unjoined rq = false ∧ validNow op rq.port s = true ∧
      s.twin.role ≠ .standby ∧ s.findTag (tagKey rq.port rq.originator) rq.tag = none ∧ rq.etref ≠ 0 ∧ ownTime op = false ∧
      ((s.ahead rq.etref < 50 ∨ 2 ^ 31 ≤ s.ahead rq.etref))) ∧
    (∃ (op : _) (rq : Request) (s : State), headerOk rq s = true ∧ opClass op ≠ none ∧ opClass op ≠ some .deviceOnly ∧
      privilege op rq s = none ∧ s.isForMe rq = true ∧ s.unjoined rq = false ∧ validNow op rq.port s = true ∧
      s.twin.role ≠ .standby ∧ s.findTag (tagKey rq.port rq.originator) rq.tag = none ∧ rq.etref ≠ 0 ∧ ownTime op = false ∧
      ((s.ahead rq.etref < 50 ∨ 2 ^ 31 ≤ s.ahead rq.etref))) ∧
    (∃ (op : _) (rq : Request) (s : State), headerOk rq s = true ∧ opClass op ≠ none ∧ opClass op ≠ some .deviceOnly ∧
      privilege op rq s = none ∧ s.isForMe rq = true ∧ s.unjoined rq = false ∧ validNow op rq.port s = true ∧
      s.twin.role = .solo ∧ s.findTag (tagKey rq.port rq.originator) rq.tag = none ∧ rq.etref ≠ 0 ∧ ownTime op = false ∧
      bit rq.flags 3 = false ∧ 50 ≤ s.ahead rq.etref ∧ s.ahead rq.etref < 2 ^ 31 ∧ 256 ≤ s.timedUsed) ∧
    (∃ (op : _) (rq : Request) (s : State), headerOk rq s = true ∧ opClass op ≠ none ∧ opClass op ≠ some .deviceOnly ∧
      privilege op rq s = none ∧ s.isForMe rq = true ∧ s.unjoined rq = false ∧ validNow op rq.port s = true ∧
      s.twin.role = .solo ∧ s.findTag (tagKey rq.port rq.originator) rq.tag = none ∧ rq.etref = 0 ∧
      ((rq.port = .cpa ∨ rq.port = .cpb)) ∧ rq.replyBytes < largestReply op + 20) ∧
    (∃ (op : _) (rq : Request) (s : State), headerOk rq s = true ∧ opClass op ≠ none ∧ opClass op ≠ some .deviceOnly ∧
      privilege op rq s = none ∧ s.isForMe rq = true ∧ s.unjoined rq = false ∧ validNow op rq.port s = true ∧
      s.twin.role = .solo ∧ s.findTag (tagKey rq.port rq.originator) rq.tag = none ∧ rq.etref = 0 ∧
      ((rq.port = .cpm ∨ rq.port = .cpt)) ∧ 64 ≤ (s.galley rq.port).length) ∧
    (∃ (op : _) (rq : Request) (s : State), headerOk rq s = true ∧ opClass op ≠ none ∧ opClass op ≠ some .deviceOnly ∧
      privilege op rq s = none ∧ s.isForMe rq = true ∧ s.unjoined rq = false ∧ validNow op rq.port s = true ∧
      s.twin.role = .solo ∧ s.findTag (tagKey rq.port rq.originator) rq.tag = none ∧ rq.etref = 0 ∧
      (((rq.port = .cpa ∨ rq.port = .cpb) → largestReply op + 20 ≤ rq.replyBytes)) ∧ (s.galley rq.port).length < 64) ∧
    (∃ (op : _) (rq : Request) (s : State), headerOk rq s = true ∧ opClass op ≠ none ∧ opClass op ≠ some .deviceOnly ∧
      privilege op rq s = none ∧ s.isForMe rq = true ∧ s.unjoined rq = false ∧ validNow op rq.port s = true ∧
      s.twin.role = .solo ∧ s.findTag (tagKey rq.port rq.originator) rq.tag = none ∧ rq.etref = 0 ∧
      (((rq.port = .cpa ∨ rq.port = .cpb) → largestReply op + 20 ≤ rq.replyBytes)) ∧ (s.galley rq.port).length < 64) := by
  refine ⟨?_, ?_, ?_, ?_, ?_, ?_, ?_, ?_, ?_, ?_, ?_, ?_, ?_, ?_, ?_, ?_⟩
  · refine ⟨{ req [] with flags := 32 }, svc, ?_⟩
    all_goals decide +kernel
  · refine ⟨0xFFFF, req [], svc, ?_, ?_⟩
    all_goals decide +kernel
  · refine ⟨0x1001, { port := .cpm }, svc, _, ?_, ?_, ?_, rfl⟩
    all_goals decide +kernel
  · refine ⟨0x0002, { req [] with target := 5 }, svc, ?_, ?_, ?_, ?_, ?_⟩
    all_goals decide +kernel
  · refine ⟨0x0002, { lreq [] with target := 9 }, node9, ?_, ?_, ?_, ?_, ?_, ?_⟩
    all_goals decide +kernel
  · refine ⟨0xE003, req [], svc, ?_, ?_, ?_, ?_, ?_, ?_, ?_⟩
    all_goals decide +kernel
  · refine ⟨0x1001, { port := .cpa }, svc.onTwin (fun t => { t with role := .standby }), ?_, ?_, ?_, ?_, ?_, ?_, ?_, ?_, ?_, ?_, ?_⟩
    all_goals decide +kernel
  · refine ⟨0x0002, { req [] with tag := 0x3FFF }, tagged, _, ?_, ?_, ?_, ?_, ?_, ?_, ?_, ?_, rfl⟩
    all_goals decide +kernel
  · refine ⟨0x1004, { req [] with etref := 5 }, svc, ?_, ?_, ?_, ?_, ?_, ?_, ?_, ?_, ?_, ?_, ?_, ?_⟩
    all_goals decide +kernel
  · refine ⟨0x0002, { req [] with etref := 49 }, svc, ?_, ?_, ?_, ?_, ?_, ?_, ?_, ?_, ?_, ?_, ?_, ?_⟩
    all_goals decide +kernel
  · refine ⟨0x0002, { req [] with etref := 2 ^ 31 }, svc, ?_, ?_, ?_, ?_, ?_, ?_, ?_, ?_, ?_, ?_, ?_, ?_⟩
    all_goals decide +kernel
  · refine ⟨0x0002, { req [] with etref := 50 }, svc.onPorts (fun p => { p with timed := List.replicate 256 {} }), ?_, ?_, ?_, ?_, ?_, ?_, ?_, ?_, ?_, ?_, ?_, ?_, ?_, ?_, ?_⟩
    all_goals decide +kernel
  · refine ⟨0x0002, { port := .cpa, replyBytes := 43 }, svc, ?_, ?_, ?_, ?_, ?_, ?_, ?_, ?_, ?_, ?_, ?_, ?_⟩
    all_goals decide +kernel
  · refine ⟨0x0002, req [], svc.onPorts (fun p => { p with galleys := [(3, List.replicate 64 { opcode := 0x0002 })] }), ?_, ?_, ?_, ?_, ?_, ?_, ?_, ?_, ?_, ?_, ?_, ?_⟩
    all_goals decide +kernel
  · refine ⟨0x0002, req [], svc, ?_, ?_, ?_, ?_, ?_, ?_, ?_, ?_, ?_, ?_, ?_, ?_⟩
    all_goals decide +kernel
  · refine ⟨0x0002, { port := .cpb, replyBytes := 44 }, svc, ?_, ?_, ?_, ?_, ?_, ?_, ?_, ?_, ?_, ?_, ?_, ?_⟩
    all_goals decide +kernel

/-- The hypotheses of every clause of RefusalsHaveNoEffect can be met together. -/
theorem witness_RefusalsHaveNoEffect :
    (∃ (op : Nat) (rq : Request) (s : State) (st : Nat) (p : List Byte), listening rq s = true ∧
      verdict op rq (s.received rq) = .refuse st p) ∧
    (∃ (rq : Request) (b : _) (agree : _) (s : State) (n : _) (u : _), listening rq s = true ∧
      ((lengthOk b = false ∨ agree = false)) ∧ n = requestOf rq.port b ∧
      u = s.count rq.port (fun c => { c with received := c.received + 1, refusedOther := c.refusedOther + 1 })) ∧
    (∃ (rq : Request) (b : _) (agree : _) (s : State) (n : _) (u : _), listening rq s = true ∧
      ((lengthOk b = false ∨ agree = false)) ∧ n = requestOf rq.port b ∧
      u = s.count rq.port (fun c => { c with received := c.received + 1, refusedOther := c.refusedOther + 1 })) ∧
    (∃ (rq : Request) (b : _) (s : State) (n : _) (u : _), listening rq s = true ∧ lengthOk b = true ∧ crcOk b = false ∧
      n = requestOf rq.port b ∧ u = s.count rq.port (fun c => { c with received := c.received + 1, badCrc := c.badCrc + 1 })) := by
  refine ⟨?_, ?_, ?_, ?_⟩
  · refine ⟨0xFFFF, req [], svc, 6, [], ?_, ?_⟩
    all_goals decide +kernel
  · refine ⟨req [], [], true, svc, _, _, ?_, ?_, rfl, rfl⟩
    all_goals decide +kernel
  · refine ⟨req [], zeros 20, false, svc, _, _, ?_, ?_, rfl, rfl⟩
    all_goals decide +kernel
  · refine ⟨req [], zeros 20, svc, _, _, ?_, ?_, ?_, rfl, rfl⟩
    all_goals decide +kernel

/-- The hypotheses of every clause of BusyLeavesNoTag can be met together. -/
theorem witness_BusyLeavesNoTag :
    (∃ (op : Nat) (body : Body) (rq : Request) (s : State) (a : State) (r : _), Served op rq s a ∧ r = body rq a ∧
      r.2.ports.tags = a.ports.tags ∧ r.1.status = 2) ∧
    (∃ (op : Nat) (body : Body) (rq : Request) (s : State) (a : State) (r : _), Served op rq s a ∧ r = body rq a ∧
      r.2.ports.tags = a.ports.tags ∧ r.1.status ≠ 1 ∧ r.1.status ≠ 2) ∧
    (∃ (op : Nat) (rq : Request) (s : State) (st : Nat) (p : List Byte), listening rq s = true ∧
      verdict op rq (s.received rq) = .refuse st p) ∧
    (∃ (op : _) (rq : Request) (s : State), headerOk rq s = true ∧ opClass op ≠ none ∧ opClass op ≠ some .deviceOnly ∧
      privilege op rq s = none ∧ s.isForMe rq = true ∧ validNow op rq.port s = true ∧ s.twin.role = .solo ∧ rq.etref = 0 ∧
      (s.galley rq.port).length < 64 ∧ ((rq.port = .cpm ∨ rq.port = .cpt))) ∧
    (∃ (op : _) (rq : Request) (s : State) (e : _), headerOk rq s = true ∧ opClass op ≠ none ∧ opClass op ≠ some .deviceOnly ∧
      privilege op rq s = none ∧ s.isForMe rq = true ∧ s.unjoined rq = false ∧ validNow op rq.port s = true ∧
      s.twin.role = .solo ∧ s.findTag (tagKey rq.port rq.originator) rq.tag = some e) := by
  refine ⟨?_, ?_, ?_, ?_, ?_⟩
  · refine ⟨0xE021, folioStoreBody, req (zeros 4), svc.onLife (fun l => { l with store := some {} }), _, _, ⟨?_, rfl⟩, rfl, ?_, ?_⟩
    all_goals decide +kernel
  · refine ⟨0xE021, folioStoreBody, req [], svc, _, _, ⟨?_, rfl⟩, rfl, ?_, ?_, ?_⟩
    all_goals decide +kernel
  · refine ⟨0xFFFF, req [], svc, 6, [], ?_, ?_⟩
    all_goals decide +kernel
  · refine ⟨0x0002, req [], svc, ?_, ?_, ?_, ?_, ?_, ?_, ?_, ?_, ?_, ?_⟩
    all_goals decide +kernel
  · refine ⟨0x0002, { req [] with tag := 0x3FFF }, tagged, _, ?_, ?_, ?_, ?_, ?_, ?_, ?_, ?_, rfl⟩
    all_goals decide +kernel

/-- The hypotheses of every clause of AnsweringKeepsSettings can be met together. -/
theorem witness_AnsweringKeepsSettings :
    (∃ (r : Res × State), r.1.status ≠ 0 ∧ r.1.status ≠ 1) := by
  · refine ⟨fail 2 svc, ?_, ?_⟩
    all_goals decide +kernel

/-- The hypotheses of every clause of FieldsAreLittleEndian can be met together. -/
theorem witness_FieldsAreLittleEndian :
    (∃ (n : Nat) (i : Nat), i < n) ∧
    (∃ v : Int, -2 ^ 31 ≤ v ∧ v < 2 ^ 31) ∧
    (∃ v : Int, -2 ^ 15 ≤ v ∧ v < 2 ^ 15) := by
  refine ⟨?_, ?_, ?_⟩
  · refine ⟨4, 3, ?_⟩
    all_goals decide +kernel
  · exact ⟨-2 ^ 31, by decide, by decide⟩
  · exact ⟨2 ^ 15 - 1, by decide, by decide⟩

/-- The hypotheses of every clause of EncodingsReadBack can be met together. -/
theorem witness_EncodingsReadBack :
    (∃ (op : _) (tag : _) (fl : _) (st : _) (tg : _) (og : _) (et : _) (d : List Byte), op < 2 ^ 16 ∧ tag < 2 ^ 16 ∧
      fl < 2 ^ 8 ∧ st < 2 ^ 8 ∧ tg < 2 ^ 16 ∧ og < 2 ^ 16 ∧ et < 2 ^ 32 ∧ d.length ≤ 4096) ∧
    (∃ (txid : _) (kind : _) (path : _) (hops : _) (content : _) (d : List Byte), txid < 1024 ∧ kind ≤ 2 ∧ path ≤ 1 ∧
      hops < 256 ∧ content ≤ 1 ∧ d.length < 2 ^ 16) ∧
    (∃ (dst : _) (e : Entry), dst < 2 ^ 16 ∧ e.source < 2 ^ 16 ∧ e.plane < 4 ∧ -2 ^ 31 ≤ e.offset ∧ e.offset < 2 ^ 31) ∧
    (∃ (e : Pte) (b : _), e.node < 2 ^ 14 ∧ e.plate < 2 ^ 21 ∧ b = pteBytes (some e)) ∧
    (∃ r : Page, r.input < 256 ∧ r.blend < 4 ∧ r.opacity < 2 ^ 16 ∧ r.edge < 256 ∧ r.srcX < 2 ^ 16 ∧ r.srcY < 2 ^ 16 ∧
      r.srcW < 2 ^ 16 ∧ r.srcH < 2 ^ 16 ∧ -2 ^ 15 ≤ r.dstX ∧ r.dstX < 2 ^ 15 ∧ -2 ^ 15 ≤ r.dstY ∧ r.dstY < 2 ^ 15 ∧
      r.dstW < 2 ^ 16 ∧ r.dstH < 2 ^ 16 ∧ r.keyLow < 2 ^ 16 ∧ r.keyHigh < 2 ^ 16) ∧
    (∃ (st : Nat) (d : List Byte), st < 256 ∧ d ≠ []) := by
  refine ⟨?_, ?_, ?_, ?_, ?_, ?_⟩
  · refine ⟨65535, 65535, 255, 255, 65535, 65535, 2 ^ 32 - 1, zeros 4096, ?_, ?_, ?_, ?_, ?_, ?_, ?_, ?_⟩
    all_goals decide +kernel
  · refine ⟨1023, 2, 1, 255, 1, zeros 65535, ?_, ?_, ?_, ?_, ?_, ?_⟩
    all_goals decide +kernel
  · refine ⟨65535, { source := 65535, plane := 3, offset := -2 ^ 31 }, ?_, ?_, ?_, ?_, ?_⟩
    all_goals decide +kernel
  · refine ⟨{ node := 2 ^ 14 - 1, plate := 2 ^ 21 - 1 }, _, ?_, ?_, rfl⟩
    all_goals decide +kernel
  · refine ⟨{ input := 255, blend := 3, opacity := 65535, edge := 255, srcX := 65535, srcY := 65535, srcW := 65535, srcH := 65535, dstX := -2 ^ 15, dstY := 2 ^ 15 - 1, dstW := 65535, dstH := 65535, keyLow := 65535, keyHigh := 65535 }, ?_⟩
    decide +kernel
  · exact ⟨255, [7], by decide, by decide⟩

/-- The hypotheses of every clause of MemoryKeepsItsForm can be met together. -/
theorem witness_MemoryKeepsItsForm :
    (∃ s t : State, Memory.wf s.mem.dram = true ∧ step s = .next t) := by
  · exact ⟨{ svc with pending := [.powerOn] }, _, rfl, rfl⟩

end Sys2Proof.Tests
end

/-! Multi-byte fields (R6) and signed fields (R7): the bytes of a value, the value of its bytes, and reading one back from the
other. -/

namespace Sys2Proof

theorem two_pow_byte_succ (n : Nat) : 2 ^ (8 * (n + 1)) = 256 * 2 ^ (8 * n) := by
  rw [Nat.mul_succ, Nat.add_comm, Nat.pow_add]

@[simp] theorem length_leBytes (n v : Nat) : (leBytes n v).length = n := by
  induction n generalizing v with
  | zero => rfl
  | succ n ih => simp [leBytes, ih]

theorem getElem?_leBytes {n i : Nat} (v : Nat) (h : i < n) :
    (leBytes n v)[i]? = some (BitVec.ofNat 8 (v / 2 ^ (8 * i))) := by
  induction n generalizing v i with
  | zero => omega
  | succ n ih =>
    cases i with
    | zero => simp [leBytes]
    | succ i =>
      rw [leBytes, List.getElem?_cons_succ, ih _ (by omega), Nat.div_div_eq_div_mul, two_pow_byte_succ]

@[simp] theorem leNat_leBytes (n v : Nat) : leNat (leBytes n v) = v % 2 ^ (8 * n) := by
  induction n generalizing v with
  | zero => simp [leBytes, leNat, Nat.mod_one]
  | succ n ih =>
    rw [leBytes, leNat, ih, BitVec.toNat_ofNat, two_pow_byte_succ, Nat.mod_mul]

@[simp] theorem leBytes_length_leNat (l : List Byte) : leBytes l.length (leNat l) = l := by
  induction l with
  | nil => rfl
  | cons b r ih =>
    have hb : b.toNat < 256 := b.isLt
    have hlow : BitVec.ofNat 8 (b.toNat + 256 * leNat r) = b := by
      apply BitVec.eq_of_toNat_eq
      rw [BitVec.toNat_ofNat]
      omega
    have hhigh : (b.toNat + 256 * leNat r) / 256 = leNat r := by omega
    rw [List.length_cons, leNat, leBytes, hlow, hhigh, ih]

/-- A field behind a prefix is read as if it stood at the start. -/
theorem fld_append_length (a b : List Byte) (n : Nat) : fld (a ++ b) a.length n = fld b 0 n := by
  rw [fld, fld, List.drop_left, List.drop_zero]

@[simp] theorem fld_leBytes (n v : Nat) : fld (leBytes n v) 0 n = v % 2 ^ (8 * n) := by
  rw [fld, List.drop_zero, List.take_of_length_le (length_leBytes n v).le, leNat_leBytes]

theorem unsigned_lt (k : Nat) (v : Int) : unsigned k v < 2 ^ k := by
  have h := Int.emod_lt_of_pos v (show (0 : Int) < 2 ^ k by positivity)
  rw [unsigned, Int.toNat_lt_of_ne_zero (by positivity)]
  exact_mod_cast h

/-- The field written for a signed value holds its two's complement. -/
@[simp] theorem fld_leInt (n : Nat) (v : Int) : fld (leInt n v) 0 n = unsigned (8 * n) v := by
  rw [leInt, fld_leBytes, Nat.mod_eq_of_lt (unsigned_lt (8 * n) v)]

/-- Two's complement in `k + 1` bits reads back every value of its range (R7). -/
theorem signed_unsigned (k : Nat) {v : Int} (hlo : -2 ^ k ≤ v) (hhi : v < 2 ^ k) : signed (k + 1) (unsigned (k + 1) v) = v := by
  have hpow : (2 : Int) ^ (k + 1) = 2 * 2 ^ k := by rw [pow_succ, mul_comm]
  have hcast : ((2 ^ k : Nat) : Int) = 2 ^ k := by push_cast; rfl
  rw [signed, unsigned, Nat.add_sub_cancel, hpow]
  rcases Int.lt_or_le v 0 with hv | hv
  · have hmod : v % (2 * 2 ^ k) = v + 2 * 2 ^ k := by
      rw [← Int.add_emod_right, Int.emod_eq_of_lt (by omega) (by omega)]
    rw [hmod, if_neg (by omega)]
    omega
  · rw [Int.emod_eq_of_lt hv (by omega), if_pos (by omega), Int.toNat_of_nonneg hv]

theorem s32_leInt {v : Int} (hlo : -2 ^ 31 ≤ v) (hhi : v < 2 ^ 31) : s32 (leInt 4 v) 0 = v := by
  rw [s32, fld_leInt]
  exact signed_unsigned 31 hlo hhi

theorem s16_leInt {v : Int} (hlo : -2 ^ 15 ≤ v) (hhi : v < 2 ^ 15) : s16 (leInt 2 v) 0 = v := by
  rw [s16, fld_leInt]
  exact signed_unsigned 15 hlo hhi

/-- Settles O58: each clause is one law of the little-endian fields above. -/
theorem fieldsAreLittleEndian : Obligations.FieldsAreLittleEndian := by
  unfold Obligations.FieldsAreLittleEndian
  exact ⟨fun _ v _ h => getElem?_leBytes v h, length_leBytes, leNat_leBytes, leBytes_length_leNat, fld_append_length,
    fun _ => s32_leInt, fun _ => s16_leInt⟩

end Sys2Proof

/-! The tag record (R38) over the shared operations: only recording and finishing a tag change it. Events, faults, links, replies,
mirrored statuses and the power groups leave it as it was. -/

namespace Sys2Proof.Machine

section TagsKept

variable (s : State)

@[simp] theorem tags_ite (c : Prop) [Decidable c] (t u : State) :
    (if c then t else u).ports.tags = if c then t.ports.tags else u.ports.tags :=
  apply_ite (fun s : State => s.ports.tags) c t u

/-- Changes that keep the tag record, made in order over a list, keep it. -/
theorem tags_each {α : Type} {f : α → State → State} (h : ∀ a s, (f a s).ports.tags = s.ports.tags) (l : List α) :
    (each l f s).ports.tags = s.ports.tags := by
  unfold each
  induction l generalizing s with
  | nil => rfl
  | cons a l ih => rw [List.foldl_cons, ih, h]

/-! Ports and their rings. -/

@[simp] theorem tags_onPcie (side : PcieSide) (f : PciePort → PciePort) : (s.onPcie side f).ports.tags = s.ports.tags := by
  cases side <;> rfl
@[simp] theorem tags_onCpm (f : CpmPort → CpmPort) : (s.onCpm f).ports.tags = s.ports.tags := rfl
@[simp] theorem tags_onCpt (f : CptPort → CptPort) : (s.onCpt f).ports.tags = s.ports.tags := rfl
@[simp] theorem tags_count (p : Port) (f : PortCounters → PortCounters) : (s.count p f).ports.tags = s.ports.tags := by
  cases p <;> rfl
@[simp] theorem tags_loseEvent (p : Port) : (s.loseEvent p).ports.tags = s.ports.tags := by
  simp [State.loseEvent]
@[simp] theorem tags_losePcie (side : PcieSide) : (s.losePcie side).ports.tags = s.ports.tags := by
  simp [State.losePcie]
@[simp] theorem tags_toHost (side : PcieSide) (a : Nat) (d : List Byte) : (s.toHost side a d).ports.tags = s.ports.tags := rfl
@[simp] theorem tags_signalMsix (side : PcieSide) (v : Nat) : (s.signalMsix side v).ports.tags = s.ports.tags := by
  simp [State.signalMsix]
@[simp] theorem tags_writeEvent (side : PcieSide) (e : EventEntry) : (s.writeEvent side e).ports.tags = s.ports.tags := by
  simp [State.writeEvent]
@[simp] theorem tags_deliver (side : PcieSide) (e : EventEntry) : (s.deliver side e).ports.tags = s.ports.tags := by
  cases h : dropNewestNotice (s.pcie side).held <;> simp [State.deliver, h]

/-! Links. -/

@[simp] theorem tags_onLink (n : Nat) (f : Link → Link) : (s.onLink n f).ports.tags = s.ports.tags := rfl
@[simp] theorem tags_emitWith (poison : List Nat) (n channel : Nat) (d : List Byte) :
    (s.emitWith poison n channel d).ports.tags = s.ports.tags := by
  simp only [State.emitWith, onPorts_ports]
  split <;> rfl
@[simp] theorem tags_emit (n channel : Nat) (d : List Byte) : (s.emit n channel d).ports.tags = s.ports.tags :=
  tags_emitWith s [] n channel d
@[simp] theorem tags_drainLink (n k : Nat) : (State.drainLink n k s).ports.tags = s.ports.tags := by
  induction k generalizing s with
  | zero => rfl
  | succ k ih =>
    unfold State.drainLink
    split
    · rfl
    · simp [ih]
@[simp] theorem tags_drain (n : Nat) : (s.drain n).ports.tags = s.ports.tags := tags_drainLink s n _
@[simp] theorem tags_countLink (n : Nat) : (s.countLink n).ports.tags = s.ports.tags := rfl
@[simp] theorem tags_putLink (n vc : Nat) (d : List Byte) : (s.putLink n vc d).ports.tags = s.ports.tags := by
  simp [State.putLink]
@[simp] theorem tags_putPacket (n vc txid kind path hops : Nat) (pkt : List Byte) :
    (s.putPacket n vc txid kind path hops pkt).ports.tags = s.ports.tags := tags_putLink s n vc _
@[simp] theorem tags_post (vc target : Nat) (pkt : List Byte) : (s.post vc target pkt).ports.tags = s.ports.tags := by
  unfold State.post
  split <;> simp

/-! Events and faults. -/

@[simp] theorem tags_raiseOnLinks (c code obj : Nat) (d : List Byte) :
    (s.raiseOnLinks c code obj d).ports.tags = s.ports.tags :=
  tags_each s (fun _ _ => by simp) _
@[simp] theorem tags_raise (c code obj : Nat) (d : List Byte) : (s.raise c code obj d).ports.tags = s.ports.tags := by
  simp only [State.raise, tags_raiseOnLinks, tags_ite, tags_deliver, ite_self]
  rfl
@[simp] theorem tags_setTwinRole (r : TwinRole) (cause : Nat) : (s.setTwinRole r cause).ports.tags = s.ports.tags := by
  simp [State.setTwinRole]
@[simp] theorem tags_twinDrop (t cause : Nat) : (s.twinDrop t cause).ports.tags = s.ports.tags := by
  simp [State.twinDrop]
@[simp] theorem tags_assertFaultN : s.assertFaultN.ports.tags = s.ports.tags := rfl
@[simp] theorem tags_enterSafe (src : Nat) : (s.enterSafe src).ports.tags = s.ports.tags := by
  simp [State.enterSafe]
@[simp] theorem tags_classify (m : FaultMsg) : (s.classify m).ports.tags = s.ports.tags := by
  simp [State.classify]
@[simp] theorem tags_fault (source kind detail : Nat) : (s.fault source kind detail).ports.tags = s.ports.tags := by
  simp [State.fault, State.faultMsg]

/-! Replies, mirrored statuses and completion events. -/

@[simp] theorem tags_cptRoom : s.cptRoom.ports.tags = s.ports.tags := by
  simp [State.cptRoom]
@[simp] theorem tags_sendReply (rq : Request) (status : Nat) (pkt : List Byte) :
    (s.sendReply rq status pkt).ports.tags = s.ports.tags := by
  unfold State.sendReply
  split <;> simp
@[simp] theorem tags_refuse (op : Nat) (rq : Request) (status : Nat) (p : List Byte) :
    (s.refuse op rq status p).ports.tags = s.ports.tags := by
  simp [State.refuse]
@[simp] theorem tags_splitPair (cause : Nat) : (s.splitPair cause).ports.tags = s.ports.tags := by
  simp [State.splitPair]
@[simp] theorem tags_mirrorJudge (e : MirrorWait) : (s.mirrorJudge e).ports.tags = s.ports.tags := by
  unfold State.mirrorJudge
  split <;> simp
@[simp] theorem tags_mirrorSide (opcode tag : Nat) (f : MirrorWait → MirrorWait) :
    (s.mirrorSide opcode tag f).ports.tags = s.ports.tags := by
  unfold State.mirrorSide
  split <;> simp
@[simp] theorem tags_mirrorOwn (opcode : Nat) (p : Port) (tag status : Nat) :
    (s.mirrorOwn opcode p tag status).ports.tags = s.ports.tags := tags_mirrorSide s _ _ _
@[simp] theorem tags_completionAt (p : Port) (pkt : List Byte) : (s.completionAt p pkt).ports.tags = s.ports.tags := by
  unfold State.completionAt
  split <;> simp

/-! Settings and power groups. -/

@[simp] theorem tags_profileTouch : s.profileTouch.ports.tags = s.ports.tags := rfl
@[simp] theorem tags_noteSetting (op : Nat) (rq : Request) (status : Nat) :
    (s.noteSetting op rq status).ports.tags = s.ports.tags := by
  unfold State.noteSetting
  cases profileKey op <;> simp
@[simp] theorem tags_linkWake (n cause : Nat) : (s.linkWake n cause).ports.tags = s.ports.tags := by
  simp [State.linkWake, State.restartMembers, tags_each _ (f := State.restartLane 6) (fun _ _ => rfl)]
@[simp] theorem tags_wakeLocal : s.wakeLocal.ports.tags = s.ports.tags :=
  tags_each s (fun _ _ => by simp) _
@[simp] theorem tags_onGroup (i : Nat) (f : Group → Group) : (s.onGroup i f).ports.tags = s.ports.tags := rfl
@[simp] theorem tags_setGroup (g : Nat) (st : GroupState) : (s.setGroup g st).ports.tags = s.ports.tags := by
  simp [State.setGroup]
@[simp] theorem tags_settleDevice : s.settleDevice.ports.tags = s.ports.tags := by
  simp [State.settleDevice]
@[simp] theorem tags_trackGroups : s.trackGroups.ports.tags = s.ports.tags := by
  simp [State.trackGroups, tags_each]

end TagsKept

/-! Recording a tag, finishing it, and finding it again (R38, R452). -/

section TagRecord

variable (s : State)

/-- Finding a tag depends on the tag record alone. -/
theorem findTag_congr {s t : State} (h : t.ports.tags = s.ports.tags) (k tag : Nat) : t.findTag k tag = s.findTag k tag := by
  rw [State.findTag, State.findTag, h]

theorem findTag_recordTag_self (k tag : Nat) :
    (s.recordTag k tag).findTag k tag = some { tag := tag, status := 1, length := 0 } := by
  simp [State.findTag, State.recordTag, State.onTags]

/-- A request that arrives has its tag in the record, in progress. -/
theorem findTag_arrive (rq : Request) (s : State) :
    (arrive rq s).findTag (tagKey rq.port rq.originator) rq.tag = some { tag := rq.tag, status := 1, length := 0 } :=
  findTag_recordTag_self _ _ _

/-- A tag that ends with BUSY is removed (R452). -/
theorem findTag_finishTag_busy (k tag length : Nat) : (s.finishTag k tag 2 length).findTag k tag = none := by
  simp [State.findTag, State.finishTag, State.onTags]

/-- A recorded tag that ends with any other status keeps that status and the reply's length (R38). -/
theorem findTag_finishTag {s : State} {k tag : Nat} {e : TagEntry} (h : s.findTag k tag = some e) {status : Nat}
    (hb : status ≠ 2) (length : Nat) :
    (s.finishTag k tag status length).findTag k tag = some { e with status := status, length := length } := by
  have htag : e.tag = tag := by simpa using List.find?_some h
  have hkeep (x : TagEntry) :
      ((if x.tag = tag then { x with status := status, length := length } else x).tag == tag) = (x.tag == tag) := by
    by_cases hx : x.tag = tag <;> simp [hx]
  unfold State.findTag at h ⊢
  simp only [State.finishTag, State.onTags, if_neg hb, onPorts_ports, Tbl.at_upd_self, List.find?_map, Function.comp_def, hkeep,
    h, Option.map_some, if_pos htag]

/-- Answering a command that is not ACCEPTED finishes its tag, and does nothing else to the tag record. -/
theorem tags_finish (op : Nat) (rq : Request) (r : Res × State) (h : r.1.status ≠ 1) :
    (finish op rq r).ports.tags =
      ((r.2.noteSetting op rq r.1.status).finishTag (tagKey rq.port rq.originator) rq.tag r.1.status
        r.1.payload.length).ports.tags := by
  simp [finish, State.answer, h]

/-- A completion event finishes its tag, and does nothing else to the tag record. -/
theorem tags_complete (h : Handle) (status : Nat) (p : List Byte) :
    (s.complete h status p).ports.tags =
      (s.finishTag (tagKey h.port h.originator) h.tag (if h.late && status = 0 then 11 else status)
        (p.take 44).length).ports.tags := by
  unfold State.complete
  cases h.port <;> simp

end TagRecord

/-! Admission's answer to a tag (R38, R40). -/

/-- A request that passes steps 3 to 7 with a tag that is in the record is answered DUPLICATE. -/
theorem verdict_duplicate {op : Nat} {rq : Request} {s : State} {e : TagEntry} (hh : headerOk rq s = true)
    (hc : opClass op ≠ none) (hd : opClass op ≠ some .deviceOnly) (hp : privilege op rq s = none) (hm : s.isForMe rq = true)
    (hj : s.unjoined rq = false) (hv : validNow op rq.port s = true) (hr : s.twin.role = .solo)
    (he : s.findTag (tagKey rq.port rq.originator) rq.tag = some e) :
    verdict op rq s = .refuse 12 (leBytes 1 e.status ++ [0] ++ leBytes 2 e.length) := by
  simp [verdict, hh, hc, hd, hp, hm, hj, hv, hr, he]

/-- A SOLO device runs a command without an instant of its own as soon as its galley has it. -/
theorem timeVerdict_solo {op : Nat} {rq : Request} {s : State} (hr : s.twin.role = .solo) (ht : rq.etref = 0) :
    timeVerdict op rq s = .run := by
  simp [timeVerdict, ht, State.mirrors, hr]

/-- On CPM and CPT, where step 10 asks nothing, a request that passes steps 3 to 7 with a tag that is not in the record is
admitted to its galley while that has room. -/
theorem verdict_fresh {op : Nat} {rq : Request} {s : State} (hh : headerOk rq s = true)
    (hc : opClass op ≠ none) (hd : opClass op ≠ some .deviceOnly) (hp : privilege op rq s = none) (hm : s.isForMe rq = true)
    (hj : s.unjoined rq = false) (hv : validNow op rq.port s = true) (hr : s.twin.role = .solo) (ht : rq.etref = 0)
    (hg : (s.galley rq.port).length < 64) (hport : rq.port = .cpm ∨ rq.port = .cpt)
    (hn : s.findTag (tagKey rq.port rq.originator) rq.tag = none) : verdict op rq s = .run := by
  have hnoReply : (rq.port = .cpa || rq.port = .cpb) = false := by
    rcases hport with h | h <;> simp [h]
  simp [verdict, hh, hc, hd, hp, hm, hj, hv, hr, hn, timeVerdict_solo hr ht, hnoReply, Nat.not_le.mpr hg]

/-- Only a link brings packets that an unjoined facet does not take. -/
theorem unjoined_of_local {rq : Request} {s : State} (h : rq.port = .cpm ∨ rq.port = .cpt) : s.unjoined rq = false := by
  rcases h with h | h <;> simp [State.unjoined, h]

/-- Settles O55: a final answer finishes the tag, and what else answering does keeps the tag record. -/
theorem busyLeavesNoTag : Obligations.BusyLeavesNoTag := by
  unfold Obligations.BusyLeavesNoTag
  refine ⟨?busy, ?other, ?completed, ?refused, ?admitted, ?duplicate⟩
  case busy =>
    rintro op body rq s a r hs rfl - hb
    rw [command_served body hs, findTag_congr (tags_finish op rq _ (by omega)), hb]
    exact findTag_finishTag_busy _ _ _ _
  case other =>
    rintro op body rq s a r hs rfl hkept h1 h2
    have hrec : (((body rq a).2.noteSetting op rq (body rq a).1.status).findTag (tagKey rq.port rq.originator) rq.tag)
        = some { tag := rq.tag, status := 1, length := 0 } := by
      rw [findTag_congr ((tags_noteSetting _ _ _ _).trans hkept), hs.2, findTag_arrive]
    rw [command_served body hs, findTag_congr (tags_finish op rq _ h1), findTag_finishTag hrec h2]
  case completed =>
    intro h p s
    have hnot : (if h.late && decide (2 = 0) then 11 else 2) = 2 := by simp
    rw [findTag_congr (tags_complete s h 2 p), hnot]
    exact findTag_finishTag_busy _ _ _ _
  case refused =>
    intro op body rq s st p k tag hl hv
    rw [command_refused body hl hv]
    exact findTag_congr ((tags_refuse _ _ _ _ _).trans (tags_count _ _ _)) k tag
  case admitted =>
    intro op rq s hh hc hd hp hm hv hr ht hg hport
    have hj := unjoined_of_local (s := s) hport
    refine ⟨fun hrun => ?_, verdict_fresh hh hc hd hp hm hj hv hr ht hg hport⟩
    cases he : s.findTag (tagKey rq.port rq.originator) rq.tag with
    | none => rfl
    | some e => simp [verdict_duplicate hh hc hd hp hm hj hv hr he] at hrun
  case duplicate => exact fun _ _ _ _ => verdict_duplicate

end Sys2Proof.Machine

/-! Encodings read back (R35, R71, R150, R179, R265, R281): a field of a concatenation is a field of the part it stands in, so
each record's fields are read from the parts that were written. -/

namespace Sys2Proof

/-! Fields of a concatenation. -/

theorem fld_append_left {a b : List Byte} {k n : Nat} (h : k + n ≤ a.length) : fld (a ++ b) k n = fld a k n := by
  rw [fld, fld, List.drop_append_of_le_length (by omega), List.take_append_of_le_length (by rw [List.length_drop]; omega)]

theorem fld_append_right {a b : List Byte} {k n : Nat} (h : a.length ≤ k) : fld (a ++ b) k n = fld b (k - a.length) n := by
  obtain ⟨j, rfl⟩ := Nat.exists_eq_add_of_le h
  rw [fld, fld, List.drop_append, Nat.add_sub_cancel_left, List.drop_eq_nil_of_le (by omega), List.nil_append]

/-- A field that is followed by more reads back by itself. -/
theorem fld_leBytes_append (n v : Nat) (b : List Byte) : fld (leBytes n v ++ b) 0 n = v % 2 ^ (8 * n) := by
  rw [fld_append_left (by simp), fld_leBytes]

@[simp] theorem length_leInt (n : Nat) (v : Int) : (leInt n v).length = n := length_leBytes n _

@[simp] theorem length_zeros (n : Nat) : (zeros n).length = n := by
  rw [zeros, List.length_replicate]

theorem crc32c_lt (p : List Byte) : crc32c p < 2 ^ 32 := BitVec.isLt _

theorem crc16_lt (p : List Byte) : crc16 p < 2 ^ 16 := BitVec.isLt _

/-- What is followed by its own CRC-32C passes the check (R36). -/
theorem crcOk_append_crc (body : List Byte) : Machine.crcOk (body ++ leBytes 4 (crc32c body)) = true := by
  have hcut : (body ++ leBytes 4 (crc32c body)).length - 4 = body.length := by simp
  rw [Machine.crcOk, hcut, List.take_left, fld_append_length, fld_leBytes, Nat.mod_eq_of_lt (crc32c_lt body)]
  simp

namespace Machine

/-! Packets (R35, R36). -/

theorem length_packet (op tag fl st tg og et : Nat) (d : List Byte) : (packet op tag fl st tg og et d).length = 20 + d.length := by
  simp only [packet, List.length_append, length_leBytes]
  omega

theorem parseHeader_packet {op tag fl st tg og et : Nat} {d : List Byte} (hop : op < 2 ^ 16) (htag : tag < 2 ^ 16) (hfl : fl < 2 ^ 8)
    (hst : st < 2 ^ 8) (htg : tg < 2 ^ 16) (hog : og < 2 ^ 16) (het : et < 2 ^ 32) (hd : d.length ≤ 4096) :
    parseHeader (packet op tag fl st tg og et d) = {
      opcode := op
      tag := tag
      length := d.length
      flags := fl
      status := st
      target := tg
      originator := og
      etref := et } := by
  simp [parseHeader, packet, u8, u16, u32, fld_append_right, fld_leBytes_append]
  omega

theorem u16_length_packet {op tag fl st tg og et : Nat} {d : List Byte} (hd : d.length ≤ 4096) :
    u16 (packet op tag fl st tg og et d) 4 = d.length := by
  simp [packet, u16, fld_append_right, fld_leBytes_append]
  omega

theorem lengthOk_packet {op tag fl st tg og et : Nat} {d : List Byte} (hd : d.length ≤ 4096) :
    lengthOk (packet op tag fl st tg og et d) = true := by
  simp [lengthOk, length_packet, u16_length_packet hd, hd]

theorem payloadOf_packet {op tag fl st tg og et : Nat} {d : List Byte} (hd : d.length ≤ 4096) :
    payloadOf (packet op tag fl st tg og et d) = d := by
  rw [payloadOf, u16_length_packet hd]
  simp [packet, leBytes]

/-! Link transaction headers (R179). -/

/-- The first word of a transaction header, from which its fields are cut. -/
theorem txWord_fields {txid kind path : Nat} (h1 : txid < 1024) (h2 : kind ≤ 2) (h3 : path ≤ 1) :
    (txid + 1024 * kind + 4096 * path) % 1024 = txid ∧ (txid + 1024 * kind + 4096 * path) / 1024 % 4 = kind ∧
      (txid + 1024 * kind + 4096 * path) / 4096 % 2 = path ∧ txid + 1024 * kind + 4096 * path < 2 ^ 13 := by
  omega

/-- A transaction header is six bytes and their CRC-16. -/
theorem txHeader_eq (txid kind path hops content n : Nat) : ∃ h : List Byte,
    h = leBytes 2 (txid % 1024 + 1024 * kind + 4096 * path) ++ leBytes 1 hops ++ leBytes 1 content ++ leBytes 2 n ∧ h.length = 6 ∧
      txHeader txid kind path hops content n = h ++ leBytes 2 (crc16 h) :=
  ⟨_, rfl, by simp, rfl⟩

theorem length_txHeader (txid kind path hops content n : Nat) : (txHeader txid kind path hops content n).length = 8 := by
  simp [txHeader]

theorem parseTx_txHeader {txid kind path hops content n : Nat} (d : List Byte) (h1 : txid < 1024) (h2 : kind ≤ 2) (h3 : path ≤ 1)
    (h4 : hops < 256) (h5 : content ≤ 1) (h6 : n < 2 ^ 16) :
    parseTx (txHeader txid kind path hops content n ++ d) = {
      txid := txid
      kind := kind
      path := path
      hops := hops
      content := content
      bytes := n } := by
  obtain ⟨w1, w2, w3, w4⟩ := txWord_fields h1 h2 h3
  have hw : (txid + 1024 * kind + 4096 * path) % 65536 = txid + 1024 * kind + 4096 * path := by omega
  simp [parseTx, txHeader, u8, u16, fld_append_right, fld_leBytes_append, Nat.mod_eq_of_lt h1, hw, w1, w2, w3]
  omega

theorem txOk_txHeader {txid kind path hops content : Nat} {d : List Byte} (h1 : txid < 1024) (h2 : kind ≤ 2) (h3 : path ≤ 1)
    (h4 : hops < 256) (h5 : content ≤ 1) (h6 : d.length < 2 ^ 16) : txOk (txHeader txid kind path hops content d.length ++ d) = true := by
  have hlen : (txHeader txid kind path hops content d.length ++ d).length = 8 + d.length := by
    rw [List.length_append, length_txHeader]
  have hword : u16 (txHeader txid kind path hops content d.length ++ d) 0 < 0x2000 := by
    have hw := (txWord_fields h1 h2 h3).2.2.2
    have hw' : (txid + 1024 * kind + 4096 * path) % 65536 = txid + 1024 * kind + 4096 * path := by omega
    simp [txHeader, u16, fld_leBytes_append, Nat.mod_eq_of_lt h1, hw']
    omega
  have hcrc : u16 (txHeader txid kind path hops content d.length ++ d) 6
      = crc16 ((txHeader txid kind path hops content d.length ++ d).take 6) := by
    obtain ⟨h, -, h6, e⟩ := txHeader_eq txid kind path hops content d.length
    rw [e, List.append_assoc, ← h6, List.take_left, u16, fld_append_length, fld_leBytes_append,
      Nat.mod_eq_of_lt (crc16_lt h)]
  simp [txOk, hlen, hword, hcrc, parseTx_txHeader d h1 h2 h3 h4 h5 h6, h5]
  omega

/-! Forme entries, page records and plate table entries (R71, R265, R281). -/

/-- The mode byte of an entry and of a page record: two bits and two flags. -/
theorem modeByte_fields {m : Nat} (h : m < 4) (f g : Bool) :
    (m + 4 * flag f + 8 * flag g) % 4 = m ∧ bit (m + 4 * flag f + 8 * flag g) 2 = f ∧ bit (m + 4 * flag f + 8 * flag g) 3 = g ∧
      m + 4 * flag f + 8 * flag g < 16 := by
  have hbit (v i : Nat) : bit v i = decide (v / 2 ^ i % 2 = 1) := rfl
  cases f <;> cases g <;> simp [flag, hbit] <;> omega

/-- The single bytes of a record read back, each modulo 256. -/
@[simp] theorem fld_bytes_cons_zero (n : Nat) (l : List Nat) (b : List Byte) : fld (bytes (n :: l) ++ b) 0 1 = n % 256 := by
  simp [fld, bytes, leNat]

@[simp] theorem fld_bytes_cons_succ (n k j : Nat) (l : List Nat) (b : List Byte) :
    fld (bytes (n :: l) ++ b) (k + 1) j = fld (bytes l ++ b) k j := rfl

@[simp] theorem length_bytes (l : List Nat) : (bytes l).length = l.length := List.length_map ..

theorem length_entryBytes (dst : Nat) (e : Entry) : (entryBytes dst e).length = 12 := by
  simp [entryBytes]

theorem modeByte_entryBytes (dst : Nat) {e : Entry} (hp : e.plane < 4) :
    u8 (entryBytes dst e) 4 = e.plane + 4 * flag e.follow + 8 * flag e.black := by
  have hmode := (modeByte_fields hp e.follow e.black).2.2.2
  simp [entryBytes, u8, fld_append_right, Nat.mod_eq_of_lt hp]
  omega

theorem offset_entryBytes (dst : Nat) {e : Entry} (hlo : -2 ^ 31 ≤ e.offset) (hhi : e.offset < 2 ^ 31) :
    s32 (entryBytes dst e) 8 = e.offset := by
  have hfield : s32 (entryBytes dst e) 8 = s32 (leInt 4 e.offset) 0 := by simp [s32, entryBytes, fld_append_right]
  rw [hfield, s32_leInt hlo hhi]

theorem parseEntry_entryBytes {dst : Nat} {e : Entry} (hd : dst < 2 ^ 16) (hs : e.source < 2 ^ 16) (hp : e.plane < 4)
    (hlo : -2 ^ 31 ≤ e.offset) (hhi : e.offset < 2 ^ 31) : parseEntry (entryBytes dst e) = (dst, e) := by
  obtain ⟨hplane, hfollow, hblack, -⟩ := modeByte_fields hp e.follow e.black
  have hdst : u16 (entryBytes dst e) 0 = dst := by
    simpa [u16, entryBytes, fld_leBytes_append] using hd
  have hsrc : u16 (entryBytes dst e) 2 = e.source := by
    simpa [u16, entryBytes, fld_append_right, fld_leBytes_append] using hs
  rw [parseEntry, hdst, hsrc, modeByte_entryBytes dst hp, hplane, hfollow, hblack, offset_entryBytes dst hlo hhi]

theorem entryReservedOk_entryBytes (dst : Nat) {e : Entry} (hp : e.plane < 4) : entryReservedOk (entryBytes dst e) = true := by
  have hmode := (modeByte_fields hp e.follow e.black).2.2.2
  have hzero : zeroAt (entryBytes dst e) 5 3 = true := by
    simp [zeroAt, entryBytes, fld_append_right]
    simp [fld, bytes, leNat]
  simp [entryReservedOk, modeByte_entryBytes dst hp, hmode, hzero]

theorem length_pageBytes (r : Page) : (pageBytes r).length = 32 := by
  simp [pageBytes]

theorem modeByte_pageBytes {r : Page} (hb : r.blend < 4) :
    u8 (pageBytes r) 1 = r.blend + 4 * flag r.drawn + 8 * flag r.keyInvert := by
  have hmode := (modeByte_fields hb r.drawn r.keyInvert).2.2.2
  simp [pageBytes, u8]
  omega

theorem dst_pageBytes {r : Page} (hx : -2 ^ 15 ≤ r.dstX) (hx' : r.dstX < 2 ^ 15) (hy : -2 ^ 15 ≤ r.dstY) (hy' : r.dstY < 2 ^ 15) :
    s16 (pageBytes r) 16 = r.dstX ∧ s16 (pageBytes r) 18 = r.dstY := by
  have hxf : s16 (pageBytes r) 16 = s16 (leInt 2 r.dstX) 0 := by simp [s16, pageBytes, fld_append_right, fld_append_left]
  have hyf : s16 (pageBytes r) 18 = s16 (leInt 2 r.dstY) 0 := by simp [s16, pageBytes, fld_append_right, fld_append_left]
  rw [hxf, hyf, s16_leInt hx hx', s16_leInt hy hy']
  exact ⟨rfl, rfl⟩

theorem parsePage_pageBytes {r : Page} (hin : r.input < 256) (hb : r.blend < 4) (hop : r.opacity < 2 ^ 16) (hed : r.edge < 256)
    (hsx : r.srcX < 2 ^ 16) (hsy : r.srcY < 2 ^ 16) (hsw : r.srcW < 2 ^ 16) (hsh : r.srcH < 2 ^ 16) (hx : -2 ^ 15 ≤ r.dstX)
    (hx' : r.dstX < 2 ^ 15) (hy : -2 ^ 15 ≤ r.dstY) (hy' : r.dstY < 2 ^ 15) (hdw : r.dstW < 2 ^ 16) (hdh : r.dstH < 2 ^ 16)
    (hkl : r.keyLow < 2 ^ 16) (hkh : r.keyHigh < 2 ^ 16) : parsePage (pageBytes r) = r := by
  obtain ⟨hblend, hdrawn, hinvert, -⟩ := modeByte_fields hb r.drawn r.keyInvert
  obtain ⟨hdx, hdy⟩ := dst_pageBytes hx hx' hy hy'
  have hword {v : Nat} (h : v < 2 ^ 16) (b : List Byte) : fld (leBytes 2 v ++ b) 0 2 = v := by
    rw [fld_leBytes_append]
    exact Nat.mod_eq_of_lt h
  rw [parsePage, modeByte_pageBytes hb, hblend, hdrawn, hinvert, hdx, hdy]
  simp [pageBytes, u8, u16, fld_append_right, Nat.mod_eq_of_lt hin, Nat.mod_eq_of_lt hed, hword hop, hword hsx,
    hword hsy, hword hsw, hword hsh, hword hdw, hword hdh, hword hkl, hword hkh]

/-- The first word of a plate table entry: five flags from bit 0, the generation and the node. -/
theorem pteWord_fields (w p r m : Bool) {g n : Nat} (hg : g < 256) (hn : n < 2 ^ 14) {v : Nat}
    (hv : v = 1 + 2 * flag w + 4 * flag p + 8 * flag r + 16 * flag m + g * 2 ^ 8 + n * 2 ^ 16) :
    v < 2 ^ 32 ∧ bit v 0 = true ∧ bit v 1 = w ∧ bit v 2 = p ∧ bit v 3 = r ∧ bit v 4 = m ∧ v / 256 % 256 = g ∧
      v / 65536 % 65536 = n := by
  have hbit (v i : Nat) : bit v i = decide (v / 2 ^ i % 2 = 1) := rfl
  subst hv
  cases w <;> cases p <;> cases r <;> cases m <;> simp [flag, hbit] <;> omega

theorem leBytes_add (n j v : Nat) : leBytes (n + j) v = leBytes n v ++ leBytes j (v / 2 ^ (8 * n)) := by
  induction n generalizing v with
  | zero => simp [leBytes]
  | succ n ih => rw [Nat.succ_add, leBytes, leBytes, ih, List.cons_append, Nat.div_div_eq_div_mul, two_pow_byte_succ]

/-- The bytes of a word are read at their offsets. -/
theorem fld_leBytes_at {w k n : Nat} (v : Nat) (h : k + n ≤ w) : fld (leBytes w v) k n = v / 2 ^ (8 * k) % 2 ^ (8 * n) := by
  induction k generalizing w v with
  | zero =>
    obtain ⟨j, rfl⟩ := Nat.exists_eq_add_of_le' h
    rw [Nat.zero_add, Nat.add_comm, leBytes_add, fld_leBytes_append, Nat.mul_zero, pow_zero, Nat.div_one]
  | succ k ih =>
    obtain ⟨w, rfl⟩ := Nat.exists_eq_add_of_le' (show 1 ≤ w by omega)
    rw [show fld (leBytes (w + 1) v) (k + 1) n = fld (leBytes w (v / 256)) k n from rfl, ih _ (by omega), Nat.div_div_eq_div_mul,
      two_pow_byte_succ]

theorem pteBytes_fields {e : Pte} (hn : e.node < 2 ^ 14) (hp : e.plate < 2 ^ 21) {b : List Byte} (hb : b = pteBytes (some e)) :
    b.length = 8 ∧ bit (u32 b 0) 0 = true ∧ bit (u32 b 0) 1 = e.writable ∧ bit (u32 b 0) 2 = e.pinned ∧ bit (u32 b 0) 3 = e.rt ∧
      bit (u32 b 0) 4 = e.remote ∧ u8 b 1 = e.generation.toNat ∧ u16 b 2 = e.node ∧ u32 b 4 = e.plate := by
  obtain ⟨v, hv⟩ : ∃ v, v = 1 + 2 * flag e.writable + 4 * flag e.pinned + 8 * flag e.rt + 16 * flag e.remote
    + e.generation.toNat * 2 ^ 8 + e.node * 2 ^ 16 := ⟨_, rfl⟩
  obtain ⟨hlt, h0, h1, h2, h3, h4, hgen, hnode⟩ := pteWord_fields _ _ _ _ e.generation.isLt hn hv
  have hbytes : b = leBytes 4 v ++ leBytes 4 e.plate := by
    rw [hb, hv, pteBytes, Nat.mod_eq_of_lt hn, Nat.mod_eq_of_lt hp]
  have hword : u32 b 0 = v := by
    rw [hbytes, u32, fld_leBytes_append, Nat.mod_eq_of_lt hlt]
  have hplate : u32 b 4 = e.plate := by
    rw [hbytes, u32, fld_append_right (by simp)]
    simpa using Nat.mod_eq_of_lt (show e.plate < 2 ^ 32 by omega)
  have hgenf : u8 b 1 = e.generation.toNat := by
    rw [hbytes, u8, fld_append_left (by simp), fld_leBytes_at _ (by omega)]
    exact hgen
  have hnodef : u16 b 2 = e.node := by
    rw [hbytes, u16, fld_append_left (by simp), fld_leBytes_at _ (by omega)]
    exact hnode
  rw [hword]
  exact ⟨by simp [hbytes], h0, h1, h2, h3, h4, hgenf, hnodef, hplate⟩

/-! VC blocks (R150). -/

/-- What one block says: its stream, its marks, and the bytes it carries. -/
theorem vcPayload_fields {st : Nat} (first last : Bool) {d : List Byte} (hs : st < 256) (hd : d.length ≤ 60) {b : List Byte}
    (hb : b = vcPayload st first last d) :
    b.length = 62 ∧ u8 b 0 = st ∧ bit (u8 b 1) 6 = first ∧ bit (u8 b 1) 7 = last ∧ (b.drop 2).take (u8 b 1 % 64) = d := by
  have hbit (v i : Nat) : bit v i = decide (v / 2 ^ i % 2 = 1) := rfl
  obtain ⟨v, hv⟩ : ∃ v, v = d.length + 64 * flag first + 128 * flag last := ⟨_, rfl⟩
  obtain ⟨hlt, hfirst, hlast, hlen⟩ : v < 256 ∧ bit v 6 = first ∧ bit v 7 = last ∧ v % 64 = d.length := by
    subst hv
    cases first <;> cases last <;> simp [flag, hbit] <;> omega
  have hmark : u8 b 1 = v := by
    rw [hb, hv, vcPayload, u8, fld_bytes_cons_succ, fld_bytes_cons_zero, Nat.mod_eq_of_lt (hv ▸ hlt)]
  have hdrop : b.drop 2 = (d ++ zeros 60).take 60 := by rw [hb]; rfl
  rw [hmark, hdrop, hlen, List.take_take, min_eq_left hd, List.take_left]
  refine ⟨?_, ?_, hfirst, hlast, rfl⟩
  · simp [hb, vcPayload]
  · rw [hb, vcPayload, u8, fld_bytes_cons_zero, Nat.mod_eq_of_lt hs]

/-- Cutting more than one block's bytes gives a block that is not the last and the blocks of the rest. -/
theorem vcBlocks_long {st k : Nat} (first : Bool) {d : List Byte} (h : 60 < d.length) :
    vcBlocks st first (k + 1) d = vcPayload st first false (d.take 60) :: vcBlocks st false k (d.drop 60) := by
  simp [vcBlocks, Nat.not_le.mpr h]

/-- Cutting one block's bytes gives one block, the last. -/
theorem vcBlocks_short {st k : Nat} (first : Bool) {d : List Byte} (h : d.length ≤ 60) :
    vcBlocks st first (k + 1) d = [vcPayload st first true d] := by
  simp [vcBlocks, h, List.take_of_length_le h]

/-- The blocks of so many bytes, as many as are needed, join to them again, and the marks stand at the ends alone. -/
theorem vcBlocks_join {st : Nat} (hs : st < 256) (k : Nat) (first : Bool) {d : List Byte} (hlo : 60 * k < d.length)
    (hhi : d.length ≤ 60 * (k + 1)) :
    (vcBlocks st first (k + 1) d).flatMap (fun b => (b.drop 2).take (u8 b 1 % 64)) = d ∧
      (vcBlocks st first (k + 1) d).length = k + 1 ∧
      ∀ i b, (vcBlocks st first (k + 1) d)[i]? = some b → b.length = 62 ∧ u8 b 0 = st ∧
        (bit (u8 b 1) 6 = true ↔ i = 0 ∧ first = true) ∧ (bit (u8 b 1) 7 = true ↔ i = k) := by
  induction k generalizing d first with
  | zero =>
    obtain ⟨hlen, hst, hfirst, hlast, hdata⟩ := vcPayload_fields first true hs (d := d) (by omega) rfl
    rw [vcBlocks_short first (by omega)]
    refine ⟨by simpa using hdata, rfl, fun i b hb => ?_⟩
    cases i with
    | zero =>
      obtain rfl : vcPayload st first true d = b := by simpa using hb
      exact ⟨hlen, hst, by simp [hfirst], by simp [hlast]⟩
    | succ i => simp at hb
  | succ k ih =>
    obtain ⟨hlen, hst, hfirst, hlast, hdata⟩ := vcPayload_fields first false hs (d := d.take 60) (by simp) rfl
    obtain ⟨hjoin, hcount, hmarks⟩ := ih false (d := d.drop 60) (by simp; omega) (by simp; omega)
    rw [vcBlocks_long first (by omega)]
    refine ⟨?_, by simp [hcount], fun i b hb => ?_⟩
    · rw [List.flatMap_cons, hjoin, hdata, List.take_append_drop]
    · cases i with
      | zero =>
        obtain rfl : vcPayload st first false (d.take 60) = b := by simpa using hb
        exact ⟨hlen, hst, by simp [hfirst], by simp [hlast]⟩
      | succ i =>
        obtain ⟨h1, h2, h3, h4⟩ := hmarks i b (by simpa using hb)
        exact ⟨h1, h2, by simpa using h3, by simpa using h4⟩

/-- Settles O59: each encoding's fields are read from the parts that were written. -/
theorem encodingsReadBack : Obligations.EncodingsReadBack := by
  unfold Obligations.EncodingsReadBack
  refine ⟨?packets, ?transactions, ?entries, ?pages, ?tableEntries, ?blocks⟩
  case packets =>
    intro op tag fl st tg og et d hop htag hfl hst htg hog het hd
    exact ⟨_, rfl, length_packet .., lengthOk_packet hd, crcOk_append_crc _, payloadOf_packet hd,
      parseHeader_packet hop htag hfl hst htg hog het hd⟩
  case transactions =>
    intro txid kind path hops content d h1 h2 h3 h4 h5 h6
    refine ⟨_, rfl, txOk_txHeader h1 h2 h3 h4 h5 h6, ?_, parseTx_txHeader d h1 h2 h3 h4 h5 h6⟩
    rw [← length_txHeader txid kind path hops content d.length, List.drop_left]
  case entries =>
    intro dst e hd hs hp hlo hhi
    exact ⟨parseEntry_entryBytes hd hs hp hlo hhi, entryReservedOk_entryBytes dst hp, length_entryBytes dst e⟩
  case pages =>
    intro r hin hb hop hed hsx hsy hsw hsh hx hx' hy hy' hdw hdh hkl hkh
    exact ⟨parsePage_pageBytes hin hb hop hed hsx hsy hsw hsh hx hx' hy hy' hdw hdh hkl hkh, length_pageBytes r⟩
  case tableEntries => exact fun e b hn hp hb => pteBytes_fields hn hp hb
  case blocks =>
    intro st d hs hd
    have hpos : 0 < d.length := List.length_pos_iff.mpr hd
    have hcount : blocksOf d.length = (d.length - 1) / 60 + 1 := by rw [blocksOf, cdiv]; omega
    obtain ⟨hjoin, hlen, hmarks⟩ := vcBlocks_join hs ((d.length - 1) / 60) true (d := d) (by omega) (by omega)
    rw [blocksFor, hcount]
    refine ⟨hjoin, by rw [hlen]; omega, fun i b hb => ?_⟩
    obtain ⟨h1, h2, h3, h4⟩ := hmarks i b hb
    exact ⟨h1, h2, by simpa using h3, by rw [h4]; omega⟩

end Machine
end Sys2Proof

/-! What events, faults, links, replies, mirrored statuses and the power groups leave of the settings: everything but the ports, the
lanes and links, the hierarchy, the twin's and the fault collector's records, and the power groups. -/

namespace Sys2Proof.Machine

/-- What of a state answering a command and raising an event may not touch: the state with the sections they may touch emptied. -/
def State.settings (s : State) : State :=
  { s with ports := {}, lanes := {}, vox := {}, hier := {}, twin := {}, faults := {}, power := {} }

section SettingsOf

variable (s : State)

theorem SettingsKept.of_settings {s t : State} (h : t.settings = s.settings) : SettingsKept s t :=
  ⟨(congrArg State.pending h :), (congrArg State.tb h :), (congrArg State.lat h :), (congrArg State.eth h :), (congrArg State.audio h :),
    (congrArg State.chord h :), (congrArg State.imp h :), (congrArg State.mem h :), (congrArg State.ref h :), (congrArg State.proof h :),
    (congrArg State.life h :), (congrArg State.keep h :)⟩

theorem SettingsKept.trans {s t u : State} (h : SettingsKept s t) (k : SettingsKept t u) : SettingsKept s u := by
  unfold SettingsKept at *
  simp only [h, k, and_self]

theorem PortsOnly.settings {s t : State} (h : PortsOnly s t) : t.settings = s.settings := by
  rw [h]; rfl

theorem PortsLinksOnly.settings {s t : State} (h : PortsLinksOnly s t) : t.settings = s.settings := by
  rw [h]; rfl

@[simp] theorem settings_ite (c : Prop) [Decidable c] (t u : State) :
    (if c then t else u).settings = if c then t.settings else u.settings :=
  apply_ite State.settings c t u

/-- Changes that keep the settings, made in order over a list, keep them. -/
theorem settings_each {α : Type} {f : α → State → State} (h : ∀ a s, (f a s).settings = s.settings) (l : List α) :
    (each l f s).settings = s.settings := by
  unfold each
  induction l generalizing s with
  | nil => rfl
  | cons a l ih => rw [List.foldl_cons, ih, h]

@[simp] theorem settings_onPorts (f : Ports → Ports) : (s.onPorts f).settings = s.settings := rfl
@[simp] theorem settings_onLink (n : Nat) (f : Link → Link) : (s.onLink n f).settings = s.settings := rfl
@[simp] theorem settings_onLane (n : Nat) (f : Lane → Lane) : (s.onLane n f).settings = s.settings := rfl
@[simp] theorem settings_onTwin (f : Twin → Twin) : (s.onTwin f).settings = s.settings := rfl
@[simp] theorem settings_onFaults (f : Faults → Faults) : (s.onFaults f).settings = s.settings := rfl
@[simp] theorem settings_onPower (f : Power → Power) : (s.onPower f).settings = s.settings := rfl
@[simp] theorem settings_onGroup (i : Nat) (f : Group → Group) : (s.onGroup i f).settings = s.settings := rfl
@[simp] theorem settings_emit (n c : Nat) (d : List Byte) : (s.emit n c d).settings = s.settings := rfl
@[simp] theorem settings_count (p : Port) (f : PortCounters → PortCounters) : (s.count p f).settings = s.settings :=
  (count_only s p f).settings
@[simp] theorem settings_loseEvent (p : Port) : (s.loseEvent p).settings = s.settings := (loseEvent_only s p).settings
@[simp] theorem settings_deliver (side : PcieSide) (e : EventEntry) : (s.deliver side e).settings = s.settings :=
  (deliver_only s side e).settings
@[simp] theorem settings_putPacket (n vc txid kind path hops : Nat) (pkt : List Byte) :
    (s.putPacket n vc txid kind path hops pkt).settings = s.settings := (putLink_only s n vc _).settings
@[simp] theorem settings_post (vc target : Nat) (pkt : List Byte) : (s.post vc target pkt).settings = s.settings :=
  (post_only s vc target pkt).settings
@[simp] theorem settings_sendReply (rq : Request) (status : Nat) (pkt : List Byte) :
    (s.sendReply rq status pkt).settings = s.settings := (sendReply_only s rq status pkt).settings
@[simp] theorem settings_finishTag (k tag status length : Nat) : (s.finishTag k tag status length).settings = s.settings :=
  (finishTag_only s k tag status length).settings

/-! Events and faults. -/

/-- A notice sent to the devices that listen on links changes ports and links only. -/
theorem raiseOnLinks_only (c code obj : Nat) (d : List Byte) : PortsLinksOnly s (s.raiseOnLinks c code obj d) := by
  unfold State.raiseOnLinks each
  generalize s.ports.links = l
  induction l generalizing s with
  | nil => exact .refl s
  | cons e l ih =>
    rw [List.foldl_cons]
    refine .trans ?_ (ih _)
    dsimp only
    split
    · exact post_only s _ _ _
    · exact .refl s

/-- An event changes ports and links only (R47, R57). -/
theorem raise_only (c code obj : Nat) (d : List Byte) : PortsLinksOnly s (s.raise c code obj d) := by
  unfold State.raise
  dsimp only
  refine .trans ?_ (raiseOnLinks_only _ c code obj d)
  have hdeliver (side : PcieSide) (e : EventEntry) (p : Prop) [Decidable p] (s : State) :
      PortsLinksOnly s (if p then s.deliver side e else s) := by
    split
    · exact (deliver_only s side e).links
    · exact .refl s
  exact (onPorts_only s _).links.trans ((hdeliver .cpa _ _ _).trans (hdeliver .cpb _ _ _))

/-! What an event leaves of each section. -/

@[simp] theorem tb_raise (c code obj : Nat) (d : List Byte) : (s.raise c code obj d).tb = s.tb :=
  (congrArg State.tb (raise_only s c code obj d) :)
@[simp] theorem lat_raise (c code obj : Nat) (d : List Byte) : (s.raise c code obj d).lat = s.lat :=
  (congrArg State.lat (raise_only s c code obj d) :)
@[simp] theorem lanes_raise (c code obj : Nat) (d : List Byte) : (s.raise c code obj d).lanes = s.lanes :=
  (congrArg State.lanes (raise_only s c code obj d) :)
@[simp] theorem eth_raise (c code obj : Nat) (d : List Byte) : (s.raise c code obj d).eth = s.eth :=
  (congrArg State.eth (raise_only s c code obj d) :)
@[simp] theorem hier_raise (c code obj : Nat) (d : List Byte) : (s.raise c code obj d).hier = s.hier :=
  (congrArg State.hier (raise_only s c code obj d) :)
@[simp] theorem audio_raise (c code obj : Nat) (d : List Byte) : (s.raise c code obj d).audio = s.audio :=
  (congrArg State.audio (raise_only s c code obj d) :)
@[simp] theorem chord_raise (c code obj : Nat) (d : List Byte) : (s.raise c code obj d).chord = s.chord :=
  (congrArg State.chord (raise_only s c code obj d) :)
@[simp] theorem imp_raise (c code obj : Nat) (d : List Byte) : (s.raise c code obj d).imp = s.imp :=
  (congrArg State.imp (raise_only s c code obj d) :)
@[simp] theorem mem_raise (c code obj : Nat) (d : List Byte) : (s.raise c code obj d).mem = s.mem :=
  (congrArg State.mem (raise_only s c code obj d) :)
@[simp] theorem ref_raise (c code obj : Nat) (d : List Byte) : (s.raise c code obj d).ref = s.ref :=
  (congrArg State.ref (raise_only s c code obj d) :)
@[simp] theorem twin_raise (c code obj : Nat) (d : List Byte) : (s.raise c code obj d).twin = s.twin :=
  (congrArg State.twin (raise_only s c code obj d) :)
@[simp] theorem faults_raise (c code obj : Nat) (d : List Byte) : (s.raise c code obj d).faults = s.faults :=
  (congrArg State.faults (raise_only s c code obj d) :)
@[simp] theorem power_raise (c code obj : Nat) (d : List Byte) : (s.raise c code obj d).power = s.power :=
  (congrArg State.power (raise_only s c code obj d) :)
@[simp] theorem proof_raise (c code obj : Nat) (d : List Byte) : (s.raise c code obj d).proof = s.proof :=
  (congrArg State.proof (raise_only s c code obj d) :)
@[simp] theorem life_raise (c code obj : Nat) (d : List Byte) : (s.raise c code obj d).life = s.life :=
  (congrArg State.life (raise_only s c code obj d) :)
@[simp] theorem keep_raise (c code obj : Nat) (d : List Byte) : (s.raise c code obj d).keep = s.keep :=
  (congrArg State.keep (raise_only s c code obj d) :)
@[simp] theorem boot_raise (c code obj : Nat) (d : List Byte) : (s.raise c code obj d).boot = s.boot :=
  (congrArg State.boot (raise_only s c code obj d) :)
@[simp] theorem pending_raise (c code obj : Nat) (d : List Byte) : (s.raise c code obj d).pending = s.pending :=
  (congrArg State.pending (raise_only s c code obj d) :)

@[simp] theorem settings_raise (c code obj : Nat) (d : List Byte) : (s.raise c code obj d).settings = s.settings :=
  (raise_only s c code obj d).settings
@[simp] theorem settings_setTwinRole (r : TwinRole) (cause : Nat) : (s.setTwinRole r cause).settings = s.settings := by
  simp [State.setTwinRole]
@[simp] theorem settings_twinDrop (t cause : Nat) : (s.twinDrop t cause).settings = s.settings := by
  simp [State.twinDrop]
@[simp] theorem settings_assertFaultN : s.assertFaultN.settings = s.settings := rfl
@[simp] theorem settings_enterSafe (src : Nat) : (s.enterSafe src).settings = s.settings := by
  simp [State.enterSafe]
@[simp] theorem settings_classify (m : FaultMsg) : (s.classify m).settings = s.settings := by
  simp [State.classify]
@[simp] theorem settings_fault (source kind detail : Nat) : (s.fault source kind detail).settings = s.settings := by
  simp [State.fault, State.faultMsg]

/-! Mirrored statuses and replies. -/

@[simp] theorem settings_splitPair (cause : Nat) : (s.splitPair cause).settings = s.settings := by
  simp [State.splitPair]
@[simp] theorem settings_mirrorJudge (e : MirrorWait) : (s.mirrorJudge e).settings = s.settings := by
  unfold State.mirrorJudge
  split <;> simp
@[simp] theorem settings_mirrorSide (opcode tag : Nat) (f : MirrorWait → MirrorWait) :
    (s.mirrorSide opcode tag f).settings = s.settings := by
  unfold State.mirrorSide
  split <;> simp
@[simp] theorem settings_mirrorOwn (opcode : Nat) (p : Port) (tag status : Nat) :
    (s.mirrorOwn opcode p tag status).settings = s.settings := settings_mirrorSide s _ _ _
@[simp] theorem settings_answer (op : Nat) (rq : Request) (r : Res) : (s.answer op rq r).settings = s.settings := by
  simp [State.answer]

/-! Power groups. -/

@[simp] theorem settings_linkWake (n cause : Nat) : (s.linkWake n cause).settings = s.settings := by
  simp [State.linkWake, State.restartMembers, settings_each _ (f := State.restartLane 6) (fun _ _ => rfl)]
@[simp] theorem settings_wakeLocal : s.wakeLocal.settings = s.settings :=
  settings_each s (fun _ _ => by simp) _
@[simp] theorem settings_setGroup (g : Nat) (st : GroupState) : (s.setGroup g st).settings = s.settings := by
  simp [State.setGroup]
@[simp] theorem settings_settleDevice : s.settleDevice.settings = s.settings := by
  simp [State.settleDevice]
@[simp] theorem settings_trackGroups : s.trackGroups.settings = s.settings := by
  simp [State.trackGroups, settings_each]

/-! A setting that is noted. -/

/-- Noting a setting touches the twin's log and the profile alone. -/
theorem noteSetting_kept (op : Nat) (rq : Request) (status : Nat) : SettingsKept s (s.noteSetting op rq status) := by
  have hlog (t : State) (ht : t.settings = s.settings) (f : Boot → Boot) : SettingsKept s (t.onBoot f).profileTouch :=
    (SettingsKept.of_settings ht).trans ⟨rfl, rfl, rfl, rfl, rfl, rfl, rfl, rfl, rfl, rfl, rfl, rfl⟩
  unfold State.noteSetting
  dsimp only
  split
  · exact .of_settings rfl
  · split
    · exact .of_settings (by simp)
    · exact hlog _ (by simp) _

/-- A command that is neither OK nor ACCEPTED notes no setting. -/
theorem noteSetting_failed {status : Nat} (h0 : status ≠ 0) (h1 : status ≠ 1) (op : Nat) (rq : Request) :
    s.noteSetting op rq status = s := by
  simp [State.noteSetting, h0, h1]

theorem settings_finish (op : Nat) (rq : Request) (r : Res × State) :
    (finish op rq r).settings = (r.2.noteSetting op rq r.1.status).settings := by
  simp [finish]

/-- Answering a command keeps the settings. -/
theorem finish_kept (op : Nat) (rq : Request) (r : Res × State) : SettingsKept r.2 (finish op rq r) :=
  (noteSetting_kept _ _ _ _).trans (.of_settings (settings_finish op rq r))

theorem mem_finish (op : Nat) (rq : Request) (r : Res × State) : (finish op rq r).mem = r.2.mem := by
  obtain ⟨-, -, -, -, -, -, -, hmem, -⟩ := finish_kept op rq r
  exact hmem

end SettingsOf

/-- Settles O56: noting a setting, the answer and the power groups each keep the settings, and a refusal notes none. -/
theorem answeringKeepsSettings : Obligations.AnsweringKeepsSettings := by
  unfold Obligations.AnsweringKeepsSettings
  refine ⟨finish_kept, ?memory, ?refused, fun c code obj d s => raise_only s c code obj d⟩
  case memory =>
    intro op rq r x
    rw [mem_finish]
  case refused =>
    intro op rq r h0 h1
    have h := settings_finish op rq r
    rw [noteSetting_failed _ h0 h1] at h
    exact (congrArg State.boot h :)

end Sys2Proof.Machine

/-! How the statements' requests are run: a command that runs at once ends as its body says, and the reserved fields that the
bodies check. -/

namespace Sys2Proof.Machine

/-- A request that runs at once is answered with what its command's body gives in the state in which it runs. -/
theorem exec_served {i : Instr} {op : Nat} {body : Body} {rq : Request} {s a : State} {r : Res × State} (h : Served op rq s a)
    (hexec : exec i s = .next (command op body rq s)) (hbody : body rq a = r) : exec i s = .next (finish op rq r) := by
  rw [hexec, command_served body h, hbody]

@[simp] theorem zeroAt_one (p : List Byte) (off : Nat) : zeroAt p off 1 = (u8 p off == 0) := rfl
@[simp] theorem zeroAt_two (p : List Byte) (off : Nat) : zeroAt p off 2 = (u16 p off == 0) := rfl
@[simp] theorem zeroAt_four (p : List Byte) (off : Nat) : zeroAt p off 4 = (u32 p off == 0) := rfl

@[simp] theorem zeroAt_iff {p : List Byte} {off n : Nat} : zeroAt p off n = true ↔ fld p off n = 0 := by
  simp [zeroAt]

@[simp] theorem zeroAt_eq_false_iff {p : List Byte} {off n : Nat} : zeroAt p off n = false ↔ fld p off n ≠ 0 := by
  simp [zeroAt]

/-- A change made over no elements changes nothing. -/
@[simp] theorem each_nil {α : Type} (f : α → State → State) (s : State) : each [] f s = s := rfl

@[simp] theorem each_cons {α : Type} (a : α) (l : List α) (f : α → State → State) (s : State) :
    each (a :: l) f s = each l f (f a s) := rfl

/-- What no turn of an `each` changes stands after it. -/
theorem each_keeps {α β : Type} (get : State → β) {f : α → State → State} (h : ∀ a s, get (f a s) = get s) (l : List α) :
    ∀ s, get (each l f s) = get s := by
  induction l with
  | nil => exact fun _ => rfl
  | cons a l ih => exact fun s => (ih (f a s)).trans (h a s)

/-- A command whose fields pass goes on. -/
theorem require_pass {good : Bool} (k : Res × State) (s : State) (h : good = true) : require good k s = k := if_pos h

theorem require_fail {good : Bool} (k : Res × State) (s : State) (h : good = false) : require good k s = fail stBadParam s := by
  simp [require, h]

/-- A command without a handle is completed by nothing. -/
@[simp] theorem completeOpt_none (status : Nat) (p : List Byte) (s : State) : s.completeOpt none status p = s := rfl

/-! Tables. -/

theorem Tbl.has_eq_false {α : Type} {t : Tbl α} {p : Nat → α → Bool} (h : ∀ e ∈ t, p e.1 e.2 = false) : t.has p = false :=
  List.any_eq_false.mpr (fun e he => by simp [h e he])

end Sys2Proof.Machine

/-! The lattice's commands (R70 to R92): formes, single routes and trunk maps. -/

namespace Sys2Proof.Machine

/-- Settles O5: each command's body, in the state in which its fields pass. -/
theorem formesAreBuiltAndScheduled : Obligations.FormesAreBuiltAndScheduled := by
  unfold Obligations.FormesAreBuiltAndScheduled
  refine ⟨?opened, ?stored, ?badRecord, ?closed, ?closeFails, ?scheduled, ?cancelled⟩
  case opened =>
    rintro rq s a p hs rfl hlen hid hmerge hrate hzero hroom hnone hstand hnew
    refine exec_served hs rfl ?_
    simp (disch := omega) [formeOpenBody, if_neg, Option.isNone_iff_eq_none, *]
  case stored =>
    rintro rq s a p f hs rfl h1 h2 hlen hzero hall hf hst
    refine exec_served hs rfl ?_
    simp (disch := omega) [formeEntriesBody, storeEntries, if_neg, *]
  case badRecord =>
    rintro rq s a p r hs rfl hr hbad
    refine exec_served hs rfl ?_
    have hall : (records rq.payload 8 12 (u16 rq.payload 4)).all
        (fun p => entryReservedOk p && entryFieldsOk (parseEntry p).1 (parseEntry p).2) = false :=
      List.all_eq_false.mpr ⟨r, hr, by rcases hbad with h | h <;> simp [h]⟩
    simp [formeEntriesBody, hall]
  case closed =>
    rintro rq s a p f hs rfl hlen hzero hf hst herr
    refine exec_served hs rfl ?_
    simp [formeCloseBody, closeForme, *]
  case closeFails =>
    rintro rq s a p f d r hs rfl hlen hzero hf hst herr hr
    refine exec_served hs rfl ?_
    simp [formeCloseBody, closeForme, reasonStatus, *]
  case scheduled =>
    rintro rq s a p f t hs rfl hlen h4 h20 hns ht hf hlo hhi hspace hprep hst
    refine exec_served hs rfl ?_
    have htime : a.lockupTimeError (u32 rq.payload 0) t = 0 := by
      simp (disch := omega) [State.lockupTimeError, day, sec, if_neg, hspace]
    simp only [formeScheduleBody, ← ht]
    rcases hst with hst | hst <;> simp [nsOk, sec, hlen, h4, h20, hns, hf, htime, hprep, hst]
  case cancelled =>
    rintro rq s a p f hs rfl hlen hf hprep hst
    refine exec_served hs rfl ?_
    rcases hst with hst | hst <;> simp [formeCancelBody, State.dropForme, *]

/-! A single route (R83, R84). -/

theorem sat_eq_min (hi v : Nat) : sat hi v = min hi v := by
  unfold sat
  split <;> omega

/-- What allotting and freeing stores leaves of the lattice. -/
def RoutesKept (s t : State) : Prop :=
  t.lat.standing = s.lat.standing ∧ t.lat.pending = s.lat.pending ∧ t.lat.dests = s.lat.dests

theorem RoutesKept.refl (s : State) : RoutesKept s s := ⟨rfl, rfl, rfl⟩

theorem RoutesKept.trans {s t u : State} (h : RoutesKept s t) (k : RoutesKept t u) : RoutesKept s u := by
  unfold RoutesKept at *
  simp only [h, k, and_self]

/-- Changes that keep the routes, made in order over a list, keep them. -/
theorem RoutesKept.each {α : Type} {f : α → State → State} (h : ∀ a s, RoutesKept s (f a s)) (l : List α) (s : State) :
    RoutesKept s (Machine.each l f s) := by
  induction l generalizing s with
  | nil => exact .refl s
  | cons a l ih => exact (h a s).trans (ih _)

theorem ensureStore_keepsRoutes (q : Nat × Nat) (s : State) : RoutesKept s (s.ensureStore q) := by
  unfold State.ensureStore
  split
  · dsimp only
    split
    · exact ⟨rfl, rfl, rfl⟩
    · exact .refl s
  · exact .refl s

theorem freeStores_keepsRoutes (s : State) : RoutesKept s s.freeStores := by
  have hfilter : RoutesKept s (s.onLat (fun l => { l with stores := l.stores.filter (fun e => s.storeWanted e.1) })) := ⟨rfl, rfl, rfl⟩
  refine hfilter.trans (RoutesKept.each ?_ _ _)
  exact fun _ _ => ⟨rfl, rfl, rfl⟩

theorem keepTouch_keepsRoutes (s : State) : RoutesKept s s.keepTouch := ⟨rfl, rfl, rfl⟩

/-- A route taken into the standing entries, its change waiting for the destination's next switch instant at least 100 us away. -/
def State.routed (d : Nat) (e : Entry) (s : State) : State :=
  (s.onDest d (fun x =>
    { x with restoreWait := false, route := some { entry := e, notBefore := s.now + 100000, afterNext := x.next.isSome } })).onLat (fun l =>
      { l with standing := { l.standing with
        entries := l.standing.entries.put d e, modified := sat 65535 (l.standing.modified + 1) } })

theorem openForme_routed (d : Nat) (e : Entry) (s : State) : (s.routed d e).openForme = s.openForme := rfl

/-- A route taken, and the stores that it needs and leaves (R68). -/
def State.routeTaken (d : Nat) (e : Entry) (s : State) : State :=
  (each (s.newStoreSources [(d, e)]) State.ensureStore (s.routed d e)).freeStores.keepTouch

theorem routeTaken_keepsRoutes (d : Nat) (e : Entry) (s : State) : RoutesKept (s.routed d e) (s.routeTaken d e) :=
  ((RoutesKept.each ensureStore_keepsRoutes _ _).trans (freeStores_keepsRoutes _)).trans (keepTouch_keepsRoutes _)

/-- Without an OPEN forme a route that passes the checks is taken. -/
theorem routeSet_taken {d : Nat} {e : Entry} {m : Bool} {s : State} (hopen : s.openForme = none) (htrunk : s.trunkError d e = 0)
    (hplates : s.platesUsed + s.platesAdded [(d, e)] ≤ 32768) : routeSet d e m s = ok (s.routeTaken d e) := by
  rw [routeSet, if_neg (by simp [hopen]), if_neg (by simp [htrunk]), if_neg (by omega)]
  change ok (each _ State.ensureStore (match (s.routed d e).openForme with
    | some f => _
    | none => s.routed d e)).freeStores.keepTouch = _
  rw [openForme_routed, hopen]
  rfl

theorem dest_routed (d : Nat) (e : Entry) (s : State) : (s.routed d e).dest d =
    { s.dest d with
      restoreWait := false
      route := some { entry := e, notBefore := s.now + 100000, afterNext := (s.dest d).next.isSome } } := by
  simp [State.dest, State.routed, State.onDest]

/-- Settles O6: an OPEN forme refuses the route, and a route taken keeps all but its destination and its standing entry. -/
theorem routeSetChangesOneRoute : Obligations.RouteSetChangesOneRoute := by
  unfold Obligations.RouteSetChangesOneRoute
  refine ⟨?refused, ?taken⟩
  case refused =>
    rintro rq s a p hs rfl hlen hres hmirror hzero herr hopen
    refine exec_served hs rfl ?_
    simp [routeSetBody, routeSet, Option.isSome_iff_ne_none, *]
  case taken =>
    rintro rq s a p d e hs rfl hlen hres hmirror hzero hparse herr hopen htrunk hplates
    obtain ⟨hstand, hpend, hdests⟩ := routeTaken_keepsRoutes d e a
    have hdest : (a.routeTaken d e).dest d = (a.routed d e).dest d := by rw [State.dest, State.dest, hdests]
    refine ⟨a.routeTaken d e, exec_served hs rfl ?_, ?_⟩
    · simp (disch := omega) [routeSetBody, ← hparse, routeSet_taken hopen htrunk hplates, if_neg, hlen, hres, hzero, herr]
    · rw [hstand, hpend, hdest, dest_routed]
      refine ⟨rfl, ?_, rfl, rfl, rfl, _, rfl, rfl, rfl⟩
      exact sat_eq_min 65535 (a.lat.standing.modified + 1)

/-! Trunk maps (R85, R86). -/

/-- Settles O8: a mapping that no other uses is written within its link's limit, and one that no forme names is removed. -/
theorem trunkMapsKeepToTheLimit : Obligations.TrunkMapsKeepToTheLimit := by
  unfold Obligations.TrunkMapsKeepToTheLimit
  refine ⟨?send, ?receive, ?remove⟩
  case send =>
    rintro rq s a p n m c hs rfl hlen hdir hn hdest hzero hlink rfl hrate hcharge hnone hfree hbundle
    refine exec_served hs rfl ?_
    simp (disch := omega) [trunkSetBody, trunkMap, ← hn, if_neg, hlen, hdir, hdest, hzero, hrate, hcharge, hnone, hfree, hbundle]
    simp only [← not_le, ite_not]
  case receive =>
    rintro rq s a p n m hs rfl hlen hdir hn hsrc hzero hlink rfl hrate hnone hfree hbundle
    refine exec_served hs rfl ?_
    simp (disch := omega) [trunkSetBody, trunkMap, ← hn, if_neg, hlen, hdir, hsrc, hzero, hrate, hnone, hfree, hbundle]
  case remove =>
    rintro rq s a p hs rfl hlen hdir hdest hzero hlink hnamed
    refine exec_served hs rfl ?_
    simp [trunkSetBody, trunkRemove, *]

end Sys2Proof.Machine

/-! What the lattice reports and keeps (R85, R88, R92). -/

namespace Sys2Proof.Machine

/-- Settles O7: each report is the reply of a body that changes nothing, and the restore flag is its own setting. -/
theorem latticeReports : Obligations.LatticeReports := by
  unfold Obligations.LatticeReports
  refine ⟨?standing, ?entries, ?dests, ?trunk, ?restore, ?noRecord, ?record⟩
  case standing =>
    rintro rq s a p hs rfl hlen hwhich hzero
    refine exec_served hs rfl ?_
    simp [formeInfoBody, infoBytes, flag, *]
  case entries =>
    rintro rq s a p hs rfl hlen hwhich hzero hlo hhi hrange
    refine exec_served hs rfl ?_
    simp (disch := omega) [formeReadBody, if_neg, *]
  case dests =>
    rintro rq s a p hs rfl hlen hlo hhi hrange
    exact exec_served hs rfl (require_pass _ _ (by simp [*]))
  case trunk =>
    rintro rq s a p hs rfl hlen hlink hzero
    exact exec_served hs rfl (require_pass _ _ (by simp [*]))
  case restore =>
    rintro rq s a p hs rfl hlen hflag hzero
    exact exec_served hs rfl (require_pass _ _ (by simp [*]))
  case noRecord =>
    intro rq s a hs hempty hnew
    refine exec_served hs rfl ?_
    simp [keepInfoBody, require, *]
  case record =>
    intro rq s a k r hs hempty hnew
    refine exec_served hs rfl ?_
    simp [keepInfoBody, require, *]

end Sys2Proof.Machine

/-! Lane roles and lane settings (R96 to R115, R118). -/

namespace Sys2Proof.Machine

/-- A lane without a role has nothing to stop. -/
theorem stopRole_none {n : Nat} {s : State} (h : (s.lane n).role = .none) : s.stopRole n = s := by
  simp [State.stopRole, h]

/-- A receiver that is not locked loses nothing. -/
theorem rxLost_unlocked {n cause : Nat} {s : State} (h : (s.lane n).rx.locked = false) : s.rxLost n cause = s := by
  simp [State.rxLost, h]

/-- Lanes in role SDI without a transmit bond may join one. -/
theorem bondFree_tx {n k : Nat} {s : State} (hk : k ≠ 1)
    (h : ∀ i ∈ laneRange n k, (s.lane i).role = .sdi ∧ (s.lane i).txBond = 0) : s.bondFree n k true = true := by
  simp only [State.bondFree, if_neg hk, List.all_eq_true]
  intro i hi
  simp [Lane.bond, h i hi]

/-- Lanes without a transmit bond are all given the new one. -/
theorem setBonds_tx {n k : Nat} {s : State} (hk : k ≠ 1) (hpos : 0 < k)
    (h : ∀ i ∈ laneRange n k, (s.lane i).role = .sdi ∧ (s.lane i).txBond = 0) :
    s.setBonds n k true = each (laneRange n k) (fun i s => s.onLane i (Lane.setBond true k n)) s := by
  have hfirst : (s.lane n).txBond = 0 := (h n (by simp [laneRange]; omega)).2
  have hnew : ((s.lane n).bond true) ≠ (k, n) := by
    simp [Lane.bond, hfirst]
    omega
  simp [State.setBonds, hk, hnew]

/-- Settles O10: each setting's body where its fields and its lane pass. -/
theorem laneSettingsAreWritten : Obligations.LaneSettingsAreWritten := by
  unfold Obligations.LaneSettingsAreWritten
  refine ⟨?roles, ?role, ?sdiTx, ?rxConfig, ?txConfig, ?family, ?familyBusy, ?bond, ?filter⟩
  case roles =>
    rintro rq s a p hs rfl hlen hcount hrange hrole hforce hzero hinUse hfree
    refine exec_served hs rfl ?_
    have hbonds : (laneRange (u16 rq.payload 0) (u16 rq.payload 2)).any
        (fun n => (a.lane n).rxBond != 0 || (a.lane n).txBond != 0) = false := by
      simp only [List.any_eq_false]
      intro n hn
      simp [hfree n hn]
    have hlinks : (u8 rq.payload 5 = 0 && (laneRange (u16 rq.payload 0) (u16 rq.payload 2)).any
        (fun n => a.carriesLink n)) = false := by
      rw [Bool.and_eq_false_iff, decide_eq_false_iff_not, List.any_eq_false]
      by_cases hf : u8 rq.payload 5 = 0
      · refine .inr fun n hn => ?_
        simp [(hfree n hn).2.2.resolve_left (by omega)]
      · exact .inl hf
    simp (disch := omega) [laneRoleSetBody, if_neg, *]
  case role =>
    intro r n s k hr hrole hfind
    have hnone : r ≠ .none := by
      rintro rfl
      simp [LaneRole.classes] at hfind
    simp [State.setRole, stopRole_none hrole, hfind, hr, hnone]
  case sdiTx =>
    intro n k c s hclass
    simp [State.txSettings, hclass]
  case rxConfig =>
    rintro rq s a p n hs rfl hlen rfl hn hrates hen hanc hzero hrole hlock
    refine exec_served hs rfl ?_
    simp (disch := omega) [sdiRxConfigBody, if_neg, hlen, hzero, hrole]
    rcases hlock with hunlocked | ⟨hon, hrate⟩
    · split
      · exact congrArg ok (rxLost_unlocked (by simp [hunlocked]))
      · rfl
    · simp [hon, hrate]
  case txConfig =>
    rintro rq s a p n k hs rfl hlen rfl hn hmode htc hzero hclass hlo hhi hrole hlinks hfam
    refine exec_served hs rfl ?_
    have hoff : (s32 rq.payload 8).natAbs ≤ 41708332 := by omega
    simp (disch := omega) [sdiTxConfigBody, if_neg, State.entryFor, *]
    exact fun hk hpull => absurd (hfam.resolve_left hk) hpull
  case family =>
    rintro rq s a p hs rfl hlen ho hf hzero hslow
    refine exec_served hs rfl ?_
    simp (disch := omega) [octantFamilyBody, if_neg, *]
    exact fun n hn hfast => absurd hfast (by simp [hslow n hn])
  case familyBusy =>
    rintro rq s a p n hs rfl hlen ho hf hzero hn hfast
    refine exec_served hs rfl ?_
    simp (disch := omega) [octantFamilyBody, if_neg, *]
    exact fun hslow => absurd hfast (by simp [hslow n hn])
  case bond =>
    rintro rq s a p n k hs rfl hlen rfl rfl hn hdir hk hlanes
    refine exec_served hs rfl ?_
    have hlinks : u8 rq.payload 3 ≠ 1 := by omega
    simp (disch := omega) [bondSetBody, if_neg, hlen, hdir, bondFree_tx hlinks hlanes, setBonds_tx hlinks (by omega) hlanes]
    rfl
  case filter =>
    rintro rq s a p n hs rfl rfl hn hcount hzero hlen hrole
    refine exec_served hs rfl ?_
    simp (disch := omega) [ancFilterSetBody, if_neg, *]

end Sys2Proof.Machine

/-! The lane table (R106 to R109, R118). -/

namespace Sys2Proof.Machine

/-- Settles O11: the commands' bodies, and the two ends of a commit in hand. -/
theorem laneTableIsCommitted : Obligations.LaneTableIsCommitted := by
  unfold Obligations.LaneTableIsCommitted
  refine ⟨?staged, ?committed, ?done, ?timeout⟩
  case staged =>
    rintro rq s a p hs rfl hlo hhi hrange hlen hzero
    refine exec_served hs rfl ?_
    simp (disch := omega) [laneTableWriteBody, if_neg, *]
  case committed =>
    rintro rq s a p hs rfl hlen hnone htable hcrc
    refine exec_served hs rfl ?_
    simp [laneTableCommitBody, *]
  case done =>
    intro s h hcommit
    change execLaneTableCommitDone s = _
    simp [execLaneTableCommitDone, hcommit]
  case timeout =>
    intro s h hcommit
    change execLaneTableCommitTimeout s = _
    simp [execLaneTableCommitTimeout, hcommit]

end Sys2Proof.Machine

/-! What lanes and SDI receivers report (R101 to R106, R110, R118, R119). -/

namespace Sys2Proof.Machine

theorem checkBond_unbonded {n : Nat} {s : State} (h : (s.lane n).rxBond = 0) : s.checkBond n = s := by
  simp [State.checkBond, h]

/-- A change that leaves lanes with a property leaves every lane of a list with it once made over the list. -/
theorem lane_each_onLane {P : Lane → Prop} {g : Lane → Lane} (hg : ∀ l, P (g l)) {ls : List Nat} {i : Nat} (hi : i ∈ ls) (s : State) :
    P ((each ls (fun k s => s.onLane k g) s).lane i) := by
  have hkeep (ls : List Nat) (s : State) (h : P (s.lane i)) : P ((each ls (fun k s => s.onLane k g) s).lane i) := by
    induction ls generalizing s with
    | nil => exact h
    | cons k ls ih =>
      refine ih _ ?_
      by_cases hk : i = k
      · rw [hk, lane_onLane_self]
        exact hg _
      · rwa [lane_onLane_other _ _ hk]
  induction ls generalizing s with
  | nil => cases hi
  | cons k ls ih =>
    rcases List.mem_cons.mp hi with rfl | hi
    · refine hkeep ls _ ?_
      rw [lane_onLane_self]
      exact hg _
    · exact ih hi _

/-- A locked receiver without a bond loses its lock, and nothing else follows. -/
theorem rxLost_locked {n cause : Nat} {s : State} (h : (s.lane n).rx.locked = true) (hb : (s.lane n).rxBond = 0) :
    s.rxLost n cause = (s.onLane n (fun l => { l with rx := l.rx.lost cause })).raise 6 2 n (bytes [cause]) := by
  have hbond : (s.onLane n (fun l => { l with rx := l.rx.lost cause })).checkBond n
      = s.onLane n (fun l => { l with rx := l.rx.lost cause }) := checkBond_unbonded (by simp [hb])
  simp [State.rxLost, h, hb, hbond]

theorem rxMembers_onLane_skew (n skew : Nat) (s : State) :
    (s.onLane n (fun l => { l with rx := { l.rx with skew := skew } })).rxMembers n = s.rxMembers n := by
  simp [State.rxMembers]

/-- Settles O12: the reports change nothing, and each event of a receiver takes its one branch. -/
theorem lanesAndReceiversReport : Obligations.LanesAndReceiversReport := by
  unfold Obligations.LanesAndReceiversReport
  refine ⟨?table, ?lanes, ?receivers, ?lock, ?loss, ?lossOfCdr, ?notLocked, ?format, ?payloadId, ?bond⟩
  case table =>
    intro rq s a t hs hempty hinUse
    refine exec_served hs rfl ?_
    simp [laneTableInfoBody, *]
  case lanes =>
    rintro rq s a p hs rfl hlen hcount hrange
    refine exec_served hs rfl ?_
    simp (disch := omega) [laneInfoBody, State.laneInfo, if_neg, *]
  case receivers =>
    rintro rq s a p hs rfl hlen hcount hmax hrange
    refine exec_served hs rfl ?_
    simp (disch := omega) [sdiRxStatusBody, if_neg, *]
  case lock =>
    intro lane k family format carriage s hunlocked hmay hbond
    change Host.Outcome.next (rxLock lane k family format carriage s) = _
    have hbond' (f : Lane → Lane) (hf : (f (s.lane lane)).rxBond = (s.lane lane).rxBond) :
        (s.onLane lane f).checkBond lane = s.onLane lane f := checkBond_unbonded (by simp [hf, hbond])
    simp [rxLock, hunlocked, hmay, hbond']
  case loss =>
    intro lane cause s hlocked hbond hcause
    change Host.Outcome.next (s.rxLost lane cause) = _
    simp [rxLost_locked hlocked hbond, SdiRx.lost, hcause]
  case lossOfCdr =>
    intro lane s hlocked hbond
    exact congrArg Host.Outcome.next (rxLost_locked hlocked hbond)
  case notLocked => exact fun lane cause s h => congrArg Host.Outcome.next (rxLost_unlocked h)
  case format =>
    intro lane format carriage s hlocked hnew hwithin
    change execFormatChange lane format carriage s = _
    have hin : format ≠ 0 → formatClass format (carriage % 4) = some (s.lane lane).rx.rateClass := fun h => hwithin.resolve_left h
    rw [execFormatChange, if_neg (by simpa [hlocked, hnew] using hin)]
    have hsame := onLane_congr s (n := lane) (f := fun l =>
      { l with rx := { l.rx with format := format, carriage := carriage % 4 + (s.lane lane).rx.carriage / 4 * 4, measured := false, inBand := 0 } })
      (g := fun l =>
      { l with rx := { l.rx with format := format, carriage := carriage % 4 + l.rx.carriage / 4 * 4, measured := false, inBand := 0 } }) rfl
    exact congrArg (fun t => Host.Outcome.next (State.raise 6 3 lane (bytes [(s.lane lane).rx.format, format]) t)) hsame
  case payloadId =>
    intro lane id format sampling carriage s hlocked hmismatch hformat
    refine ⟨s.onLane lane (fun l => { l with
      rx := { l.rx with
        pidValid := true
        pidMismatch := true
        payloadId := id
        sampling422 := sampling
        carriage := (s.lane lane).rx.carriage % 4 + carriage / 4 % 4 * 4 } }), ?_, by simp⟩
    change Host.Outcome.next (payloadId lane true id format sampling carriage s) = _
    have hbad : (format != (s.lane lane).rx.format) = true := bne_iff_ne.mpr hformat
    simp [payloadId, hlocked, hmismatch, hbad]
  case bond =>
    intro lane skew s hbond hfirst hok hskew
    refine ⟨_, ?_, fun i hi => lane_each_onLane (P := fun l => l.rx.bondOk = false)
      (g := fun l => { l with rx := { l.rx with bondOk := false } }) (fun _ => rfl) hi
      (s.onLane lane (fun l => { l with rx := { l.rx with skew := skew } }))⟩
    change Host.Outcome.next (bondSkew lane skew false s) = _
    simp [bondSkew, rxMembers_onLane_skew, hbond, hfirst, hok, Nat.not_le.mpr hskew]

end Sys2Proof.Machine

/-! The classifier's banks (R125 to R130). -/

namespace Sys2Proof.Machine

/-- An entry that no way holds goes to the lowest free way of its set. -/
theorem addCls_free {now k : Nat} {b : Tbl Way} {e : ClsEntry} (hnone : findWay b e = none) (hfree : freeWay b e = some k) :
    addCls now b e = (0, b.upd k {} (fun w => { entry := some e, generation := w.generation + 1, lastHit := now })) := by
  simp [addCls, hnone, hfree]

/-- A set without a free way takes no entry. -/
theorem addCls_full {now : Nat} {b : Tbl Way} {e : ClsEntry} (hnone : findWay b e = none) (hfull : freeWay b e = none) :
    addCls now b e = (16, b) := by
  simp [addCls, hnone, hfull]

/-- Settles O14: the bodies of the classifier's commands, and the ageing of an entry. -/
theorem classifierBanksAreKept : Obligations.ClassifierBanksAreKept := by
  unfold Obligations.ClassifierBanksAreKept
  refine ⟨?taken, ?full, ?busy, ?opened, ?written, ?committed, ?dropped, ?read, ?aged⟩
  case taken =>
    rintro rq s a p e k hs rfl hlen hok hfl hzero rfl hrebuild hnone hfree
    refine exec_served hs rfl ?_
    simp [clsEntrySetBody, addCls_free hnone hfree, bit, *]
    rfl
  case full =>
    rintro rq s a p e hs rfl hlen hok hfl hzero rfl hrebuild hnone hfull
    refine exec_served hs rfl ?_
    simp [clsEntrySetBody, addCls_full hnone hfull, bit, *]
  case busy =>
    rintro rq s a p hs rfl hlen hok hfl hzero hrebuild
    refine exec_served hs rfl ?_
    simp [clsEntrySetBody, bit, *]
  case opened =>
    rintro rq s a p hs rfl hlen hcopy hzero hrebuild
    refine exec_served hs rfl ?_
    simp (disch := omega) [clsRebuildOpenBody, if_neg, *]
  case written =>
    rintro rq s a p b hs rfl hlo hhi hlen hzero hall hrebuild hadd
    refine exec_served hs rfl ?_
    simp (disch := omega) [clsRebuildWriteBody, if_neg, *]
  case committed =>
    rintro rq s a p hs rfl hlen hcommit hzero hrebuild
    refine ⟨a.swapBanks, exec_served hs rfl ?_, ?_⟩
    · simp [clsRebuildCommitBody, *]
    · simp [State.swapBanks]
  case dropped =>
    rintro rq s a p hs rfl hlen hdrop hzero hrebuild
    refine exec_served hs rfl ?_
    simp [clsRebuildCommitBody, *]
  case read =>
    rintro rq s a p hs rfl hlen hbank hzero hset
    refine exec_served hs rfl ?_
    simp (disch := omega) [clsReadBody, if_neg, *]
  case aged =>
    intro set way at_ s e he hlimit hdue
    change execEntryAged set way at_ s = _
    simp only [execEntryAged, entryAged, eth_advance, he]
    rw [if_neg]
    simp (disch := omega) only [hlimit, not_lt_of_ge, decide_false, Bool.or_self, Bool.false_eq_true, not_false_eq_true]

end Sys2Proof.Machine

/-! Frames and packets that leave and arrive (R120 to R144). -/

namespace Sys2Proof.Machine

/-! MACs. -/

@[simp] theorem mac_advance (n at_ : Nat) (s : State) : (s.advance at_).mac n = s.mac n := by
  rw [State.mac, State.mac, eth_advance]

@[simp] theorem mac_onMac_self (n : Nat) (f : Mac → Mac) (s : State) : (s.onMac n f).mac n = f (s.mac n) := by
  simp [State.mac, State.onMac]

@[simp] theorem twin_onMac (n : Nat) (f : Mac → Mac) (s : State) : (s.onMac n f).twin = s.twin := rfl

@[simp] theorem now_onMac (n : Nat) (f : Mac → Mac) (s : State) : (s.onMac n f).now = s.now := rfl

@[simp] theorem txFlow_advance (n at_ : Nat) (s : State) : (s.advance at_).txFlow n = s.txFlow n := by
  rw [State.txFlow, State.txFlow, eth_advance]

@[simp] theorem txFlow_onTx_self (n : Nat) (f : TxFlow → TxFlow) (s : State) : (s.onTx n f).txFlow n = f (s.txFlow n) := by
  simp [State.txFlow, State.onTx]

@[simp] theorem txIdle_advance (n at_ : Nat) (s : State) : (s.advance at_).txIdle n = s.txIdle n := rfl

theorem passes_countFec (n : Nat) (m : Mac) (f : List Byte) : (m.countFec n).passes f = m.passes f := by
  unfold Mac.countFec
  split <;> rfl

/-- A device that is no STANDBY sends an exception frame where its priority is open and the link is up. -/
theorem sendException_open {n : Nat} {f : List Byte} {h : Option Handle} {s : State} (hr : s.twin.role ≠ .standby)
    (hp : s.paused n (framePrio f) = false) (hu : (s.mac n).linkUp = true) :
    s.sendException n f h = (s.sendFrame n f).completeOpt h 0 (timeBytes s.now) := by
  rw [State.sendException, if_neg hr, sendOrHold_open s n _ hp hu rfl]
  rfl

/-- On a paused priority the frame is held. -/
theorem sendException_paused {n : Nat} {f : List Byte} {h : Option Handle} {s : State} (hr : s.twin.role ≠ .standby)
    (hp : s.paused n (framePrio f) = true) (hu : (s.mac n).linkUp = true) :
    s.sendException n f h = s.onMac n (fun m =>
      { m with held := m.held ++ [{ prio := framePrio f, due := s.now, frame := f, handle := h }] }) := by
  rw [State.sendException, if_neg hr, sendOrHold_paused s n _ hp hu]

/-! What sending a packet's frame leaves of the senders: their configuration and their sequence numbers. -/

/-- The senders' configurations and sequence numbers stay. -/
def SendersKept (s t : State) : Prop := ∀ n, (t.txFlow n).seq = (s.txFlow n).seq ∧ (t.txFlow n).cfg = (s.txFlow n).cfg

theorem SendersKept.refl (s : State) : SendersKept s s := fun _ => ⟨rfl, rfl⟩

theorem SendersKept.trans {s t u : State} (h : SendersKept s t) (k : SendersKept t u) : SendersKept s u :=
  fun n => ⟨(k n).1.trans (h n).1, (k n).2.trans (h n).2⟩

theorem SendersKept.of_eth {s t : State} (h : t.eth.tx = s.eth.tx) : SendersKept s t := fun n => by
  rw [State.txFlow, State.txFlow, h]
  exact ⟨rfl, rfl⟩

theorem onTx_keepsSenders {k : Nat} {f : TxFlow → TxFlow} (h : ∀ x, (f x).seq = x.seq ∧ (f x).cfg = x.cfg) (s : State) :
    SendersKept s (s.onTx k f) := fun n => by
  by_cases hn : n = k
  · subst hn
    simpa [State.txFlow, State.onTx] using h _
  · simp [State.txFlow, State.onTx, Tbl.at_upd_other _ _ _ _ hn]

theorem sendFrameAt_keepsSenders (n t : Nat) (f : List Byte) (s : State) : SendersKept s (s.sendFrameAt n t f) := by
  unfold State.sendFrameAt
  split
  · exact .of_eth rfl
  · exact .refl s

/-- A frame without a command of its own that is sent or held keeps the senders' configurations and numbers. -/
theorem sendOrHold_keepsSenders (n : Nat) {h : HeldFrame} (hh : h.handle = none) (s : State) : SendersKept s (s.sendOrHold n h) := by
  unfold State.sendOrHold
  split
  · split
    · exact .of_eth rfl
    · rw [hh]
      exact .refl s
  · rw [hh]
    dsimp only [completeOpt_none]
    have hsent := sendFrameAt_keepsSenders n (s.now + h.wait) h.frame s
    split
    · exact hsent
    · split
      · exact hsent
      · refine hsent.trans (onTx_keepsSenders ?_ _)
        exact fun _ => ⟨rfl, rfl⟩

theorem digestOn_keepsSenders (dest kind index : Nat) (whole : Bool) (p : List Byte) (s : State) :
    SendersKept s (s.digestOn dest kind index whole p) := by
  unfold State.digestOn
  split
  · exact .refl s
  · exact .of_eth rfl

/-- A packet launched counts its sender's sequence number on, and its configuration stands. -/
theorem launchPacket_counts (n u k due wa wb : Nat) (s : State) :
    ((s.launchPacket n u k due wa wb).txFlow n).running = true ∧ ((s.launchPacket n u k due wa wb).txFlow n).lastFrame = some u ∧
      ((s.launchPacket n u k due wa wb).txFlow n).seq = ((s.txFlow n).seq + 1) % 2 ^ 32 ∧
      ((s.launchPacket n u k due wa wb).txFlow n).cfg = (s.txFlow n).cfg := by
  have hcopy (p : Prop) [Decidable p] (path : TxPath) (b : Bool) (wait : Nat) (frame : List Byte) (t : State) :
      SendersKept t (if p then t.sendCopyOn n path b due wait frame else t) := by
    split
    · exact sendOrHold_keepsSenders _ rfl t
    · exact .refl t
  have hfree (t : State) : SendersKept t t.freeByte.2 := .of_eth rfl
  have hlast {t : State} (h : SendersKept s t) (f : TxFlow → TxFlow) (hf : ∀ x, (f x).running = true ∧ (f x).lastFrame = some u ∧
      (f x).seq = (x.seq + 1) % 2 ^ 32 ∧ (f x).cfg = x.cfg) :
      ((t.onTx n f).txFlow n).running = true ∧ ((t.onTx n f).txFlow n).lastFrame = some u ∧
        ((t.onTx n f).txFlow n).seq = ((s.txFlow n).seq + 1) % 2 ^ 32 ∧ ((t.onTx n f).txFlow n).cfg = (s.txFlow n).cfg := by
    obtain ⟨hseq, hcfg⟩ := h n
    simpa only [txFlow_onTx_self, hseq, hcfg] using hf (t.txFlow n)
  unfold State.launchPacket
  exact hlast (((((hfree s).trans (hfree _)).trans (hcopy _ _ _ _ _ _)).trans (hcopy _ _ _ _ _ _)).trans
    (digestOn_keepsSenders _ _ _ _ _ _)) _ (fun _ => ⟨rfl, rfl, rfl, rfl⟩)

/-- Settles O16: each frame's way out and in, by the state of its MAC. -/
theorem framesLeaveAndArrive : Obligations.FramesLeaveAndArrive := by
  unfold Obligations.FramesLeaveAndArrive
  refine ⟨?sent, ?armed, ?read, ?launched, ?held, ?packet, ?bad, ?exception, ?pauseEnds, ?preempt, ?up, ?down⟩
  case sent =>
    rintro rq s a p hs rfl hmac hzero hlo hhi hlen hns hmode hup htime hrole hopen
    refine exec_served hs rfl ?_
    rw [← sendFrame_up _ _ _ hup]
    simp (disch := omega) [frameTxBody, if_neg, nsOk, sec, sendException_open hrole hopen hup, *]
  case armed =>
    rintro rq s a p hs rfl hmac hzero hlo hhi hlen hns hmode hup hahead htime
    refine exec_served hs rfl ?_
    simp (disch := omega) [frameTxBody, if_neg, nsOk, sec, *]
  case read =>
    rintro rq s a p l hs rfl hlen hlo hhi hzero rfl
    refine exec_served hs rfl ?_
    simp (disch := omega) [frameRxReadBody, if_neg, *]
  case launched =>
    intro n due at_ s l hfind hup hrole hopen
    change Host.Outcome.next (frameLaunch n due (s.advance at_)) = _
    simp only [frameLaunch, mac_advance, hfind]
    exact congrArg Host.Outcome.next (sendException_open (by simp [hrole]) (by simpa [State.paused] using hopen) (by simp [hup]))
  case held =>
    rintro rq s a p h hs rfl hmac hzero hlo hhi hlen hns hmode hup htime hrole hpaused rfl
    refine exec_served hs rfl ?_
    simp (disch := omega) [frameTxBody, if_neg, nsOk, sec, sendException_paused hrole hpaused hup, *]
  case packet =>
    intro n wa wb at_ s u k hkind hen hstaged hidle hgroup hpower hnext hdue
    have hframed : (s.txFlow n).cfg.framed = false := by simp [TxFlowCfg.framed, hkind]
    refine ⟨(s.advance at_).launchPacket n u k ((s.txFlow n).cfg.startOf ((s.advance at_).senderRate n) u) wa wb, ?_,
      launchPacket_counts n u k _ wa wb (s.advance at_)⟩
    change Host.Outcome.next (packetLaunch n wa wb (s.advance at_)) = _
    simp (disch := omega) [packetLaunch, if_neg, *]
  case bad =>
    intro n frame at_ s hn hmode hup hgroup hbad
    change Host.Outcome.next (ethFrame n frame (s.advance at_)) = _
    simp (disch := omega) [ethFrame, if_neg, *]
  case exception =>
    rintro n frame at_ s f hn hmode hup hgroup hok rfl hpause hpass hudp
    change Host.Outcome.next (ethFrame n frame (s.advance at_)) = _
    simp (disch := omega) [ethFrame, State.goodFrame, if_neg, *]
    exact fun hstop => absurd (show ((s.mac n).countFec n).passes _ = false from hstop) (by simp [passes_countFec, hpass])
  case pauseEnds => exact fun _ _ _ _ => rfl
  case preempt =>
    intro n passed s hpre hup
    exact congrArg Host.Outcome.next (if_pos (by simp [hpre, hup]))
  case up =>
    intro n s hmode hdown hlanes hg0 hg1 hpower
    refine congrArg Host.Outcome.next (if_pos ?_)
    simpa [hmode, hdown, hg0, hg1, hpower] using hlanes
  case down => exact fun n cause s hup => congrArg Host.Outcome.next (if_pos hup)

end Sys2Proof.Machine

/-! Voxad receivers that align (R155, R156). -/

namespace Sys2Proof.Machine

@[simp] theorem lane_countLinks (m n : Nat) (f : LinkCtr → LinkCtr) (s : State) : (s.countLinks n f).lane m = s.lane m :=
  each_keeps (·.lane m) (fun k s => lane_onLink s m k _) _ s

@[simp] theorem lane_countCharErrors (m n code disparity : Nat) (s : State) :
    (s.countCharErrors n code disparity).lane m = s.lane m := by
  unfold State.countCharErrors
  dsimp only
  split
  · exact lane_countLinks m n _ s
  · exact lane_countLinks m n _ s

theorem lane_measureSkew (m n : Nat) (s : State) : (s.measureSkew n).lane m = s.lane m := by
  unfold State.measureSkew
  split
  · rfl
  · split <;> rfl

theorem countLinks_of_no_link {n : Nat} {s : State} (h : s.linksOn n = []) (f : LinkCtr → LinkCtr) : s.countLinks n f = s := by
  rw [State.countLinks, h, each_nil]

theorem memberLost_of_no_link {n : Nat} {s : State} (h : s.linksOn n = []) : s.memberLost n = s := by
  rw [State.memberLost, h, each_nil]

theorem linksOn_countCharErrors_of_no_link {n : Nat} {s : State} (h : s.linksOn n = []) (code disparity : Nat) :
    (s.countCharErrors n code disparity).linksOn n = [] := by
  unfold State.countCharErrors
  dsimp only
  rw [countLinks_of_no_link h]
  split
  · exact h
  · exact h

/-- Settles O17: each seen character's effect, by the state of the lane's receiver. -/
theorem receiversAlign : Obligations.ReceiversAlign := by
  unfold Obligations.ReceiversAlign
  refine ⟨?detected, ?lost, ?comma, ?lock, ?valid, ?unlock, ?timeout⟩
  case detected =>
    rintro n s t hn hrole halign rfl
    refine congrArg Host.Outcome.next ((if_pos hn).trans ?_)
    simp only [signalDetected, hrole, halign, decide_true, Bool.and_self, if_true]
    rfl
  case lost =>
    intro n s hn hrole halign
    refine congrArg Host.Outcome.next ((if_pos hn).trans ?_)
    simp only [signalLost, hrole, if_pos, if_neg halign]
    rfl
  case comma =>
    intro n s hn hrole halign hcommas
    refine ⟨congrArg Host.Outcome.next (if_pos hn), ?_⟩
    simp [commaDetected, Lane.alignTo, hrole, halign, hcommas]
  case lock =>
    intro n seen s hn hrole halign hheaders hvalid
    refine ⟨blockHeader n seen s, congrArg Host.Outcome.next (if_pos hn), ?_⟩
    have hseen : ((s.lane n).headers != 0) = true := bne_iff_ne.mpr (by omega)
    have hskew (ls : List Nat) (t : State) : (each ls State.measureSkew t).lane n = t.lane n :=
      each_keeps (·.lane n) (lane_measureSkew n) ls t
    simp [blockHeader, hrole, halign, hvalid, hheaders, hseen, hskew, Lane.alignTo]
  case valid =>
    intro n seen s hn hrole halign hvalid
    refine congrArg Host.Outcome.next ((if_pos hn).trans ?_)
    simp [blockHeader, hrole, halign, hvalid]
  case unlock =>
    intro n seen s hn hrole halign hlinks hvalid hbad
    refine ⟨blockHeader n seen s, congrArg Host.Outcome.next (if_pos hn), ?_⟩
    have hlost := linksOn_countCharErrors_of_no_link hlinks seen.codeErrors seen.disparityErrors
    generalize hs : s.countCharErrors n seen.codeErrors seen.disparityErrors = t at hlost
    have hlostLane : (t.onLane n (Lane.alignTo .comma)).linksOn n = [] := hlost
    have hseven : 7 ≤ (((s.lane n).badHeaders.take 63).filter (fun b => b)).length := by simpa using hbad
    simp [blockHeader, hrole, halign, hvalid, hs, hseven, countLinks_of_no_link hlostLane, memberLost_of_no_link hlostLane, Lane.alignTo]
  case timeout =>
    intro n s hn hrole halign
    exact congrArg Host.Outcome.next (if_pos (by simp [hn, hrole, halign]))

end Sys2Proof.Machine

/-! Credits, HOLD and CONTROL messages on a link (R150 to R163). -/

namespace Sys2Proof.Machine

/-- Counting a link's time leaves all but its counts. -/
theorem honourVc0_countLink (n : Nat) (s : State) : ((s.countLink n).link n).honourVc0 = (s.link n).honourVc0 := by
  rw [State.countLink, link_onLink_self]

theorem sendCredit_told {n vc : Nat} {s : State} (h : ((s.link n).credit vc).returned = ((s.link n).credit vc).told) :
    s.sendCredit n vc = s := if_pos h

theorem sendCredit_owed {n vc : Nat} {s : State} (h : ((s.link n).credit vc).returned ≠ ((s.link n).credit vc).told) :
    s.sendCredit n vc = (s.sendControl n (bytes [1, vc] ++ leBytes 2 ((s.link n).credit vc).returned)).onLink n
      (fun l => l.onCredit vc (fun c => { c with told := c.returned })) := if_neg h

/-- Settles O19: each message and block by the state of its link. -/
theorem linksKeepCredit : Obligations.LinksKeepCredit := by
  unfold Obligations.LinksKeepCredit
  refine ⟨?credit, ?broken, ?hold, ?unknown, ?send, ?holdRepeat, ?expiry, ?overrun, ?block⟩
  case credit =>
    intro n vc k s hup hlo hhi
    refine congrArg Host.Outcome.next ((if_pos rfl).trans (if_neg ?_))
    simp [hup]
    omega
  case broken =>
    exact fun n k v us s => ⟨rfl, rfl, rfl, rfl⟩
  case hold =>
    intro n us s hup hus hhonour
    refine congrArg Host.Outcome.next ((if_pos rfl).trans ?_)
    simp only [hold, hup, hhonour, bne_self_eq_false, Bool.false_eq_true, if_false]
    refine congrArg _ (onLink_congr _ ?_)
    simp [bit, hus, honourVc0_countLink, hhonour]
  case unknown =>
    intro n k s hup hk
    refine congrArg Host.Outcome.next (if_neg ?_)
    simp [hup]
    omega
  case send =>
    intro n s hup h1 h2 h3
    refine congrArg Host.Outcome.next ((if_pos hup).trans ?_)
    rw [sendCredit_owed (vc := 1) h1, sendCredit_told (vc := 2), sendCredit_told (vc := 3)]
    · rfl
    · simpa [Link.credit, Link.onCredit, State.sendControl] using h3
    · simpa [Link.credit, Link.onCredit, State.sendControl] using h2
  case holdRepeat =>
    intro n at_ s hup hholding huntil
    refine congrArg Host.Outcome.next ?_
    simp [holdRepeat, hup, hholding, if_neg (Nat.not_le.mpr huntil)]
  case expiry =>
    exact fun n at_ s => rfl
  case overrun =>
    intro n b at_ s hup hlen hfull
    refine congrArg Host.Outcome.next ?_
    have hroom : (s.advance at_).creditRoom n 1 = 0 := by
      simpa [State.creditRoom, creditOffer, Link.credit] using Nat.sub_eq_zero_of_le hfull
    simp [vcBlock, hup, hlen, hroom]
  case block =>
    intro n b at_ s hup hlen hlo hhi hfirst hlast hfree
    refine ⟨vcBlock n 2 b .none (s.advance at_), rfl, ?_⟩
    have hroom : (s.advance at_).creditRoom n 2 ≠ 0 := by
      simpa [State.creditRoom, creditOffer, Link.credit] using Nat.sub_ne_zero_of_lt hfree
    simp [vcBlock, packetBlock, hup, hlen, hroom, hfirst, hlast, Partial.extend, State.gotBlocks, Link.onCredit]
    omega

end Sys2Proof.Machine

/-! Nodes that join and the routes kept to them (R171 to R176, R200). -/

namespace Sys2Proof.Machine

theorem length_updateNodes (p : List Byte) : (updateNodes p).length = u16 p 2 := by
  simp [updateNodes, records]

/-- A device in the APEX role answers every JOIN by itself, as it came. -/
theorem exec_join_apex {rq : Request} {s : State} (h : s.hier.apexRole = true) :
    exec (.join rq) s = .next (command 0x3016 joinBody rq s) := by
  have htier : s.joinTier rq = rq := by simp [State.joinTier, h]
  refine congrArg Host.Outcome.next ((if_neg (by simp [State.joinRefused, h])).trans ?_)
  rw [htier]

/-- Settles O21: each command by its body, and ROUTE_UPDATE by its payload. -/
theorem nodesJoin : Obligations.NodesJoin := by
  unfold Obligations.NodesJoin
  refine ⟨?config, ?configJoined, ?role, ?roleFixed, ?hierConfig, ?status, ?routeRead, ?plan, ?join, ?retry, ?update, ?updateBroken⟩
  case config =>
    rintro rq s a p hs rfl hlen hnode hzero hjoined hserials
    refine exec_served hs rfl ?_
    rcases hjoined with hjoined | hapex
    · rcases hserials with hnone | hnone <;> simp (disch := omega) [nodeConfigBody, if_neg, *]
    · have hnone : a.hier.joinedSerials = [] := hserials.resolve_left (by simp [hapex])
      simp (disch := omega) [nodeConfigBody, if_neg, *]
  case configJoined =>
    rintro rq s a p hs rfl hlen hnode hzero hjoined hapex
    refine exec_served hs rfl ?_
    simp (disch := omega) [nodeConfigBody, if_neg, *]
  case role =>
    rintro rq s a p hs rfl hlen hrole hzero hfixed
    refine exec_served hs rfl ?_
    simp (disch := omega) [roleSetBody, if_neg, *]
  case roleFixed =>
    rintro rq s a p hs rfl hlen hrole hzero hfixed
    refine exec_served hs rfl ?_
    simp (disch := omega) [roleSetBody, if_neg, *]
  case hierConfig =>
    rintro rq s a p hs rfl hlen h1 h2 h3 h4 h5 h6 hzero
    refine exec_served hs rfl ?_
    simp [hierConfigBody, *]
  case status =>
    intro rq s a hs hp
    refine exec_served hs rfl ?_
    simp [hierStatusBody, hp]
  case routeRead =>
    rintro rq s a p hs rfl hlen hlo hhi hlast
    refine exec_served hs rfl ?_
    simp (disch := omega) [routeReadBody, if_neg, *]
  case plan =>
    rintro rq s a p hs rfl hlen hcount hzero hremove hlo hhi hapex hroom
    refine exec_served hs rfl ?_
    have hrecord : (rq.payload.drop 4).take 12 = rq.payload.drop 4 := List.take_of_length_le (by simp [hlen])
    have hentry : planEntry a.keep.plan (rq.payload.drop 4) = a.keep.plan.filter (fun e => e.1 != u64 (rq.payload.drop 4) 0)
        ++ [(u64 (rq.payload.drop 4) 0, u16 (rq.payload.drop 4) 8)] := if_neg (by simp [bit, hremove])
    have hrest (f : Nat × Nat → Bool) : ¬ 16382 ≤ (a.keep.plan.filter f).length :=
      Nat.not_le.mpr (Nat.lt_of_le_of_lt (List.length_filter_le f _) hroom)
    simp only [nodePlanWriteBody, records]
    simp [*]
    rfl
  case join =>
    rintro rq s a p n node t hs rfl hport hlen hzero hapex hverdict rfl
    refine exec_served hs (exec_join_apex hapex) ?_
    simp [joinBody, hlen, hzero, hverdict, hport]
  case retry =>
    intro n at_ s husable hpending
    refine congrArg Host.Outcome.next (if_pos ?_)
    simpa [husable] using hpending
  case update =>
    rintro rq s n p l q r t hport rfl hserving hrole hop hzero hlo hhi hlen rfl hrange rfl hapex hparents
    rw [hport] at hserving
    change execRouteUpdate rq s = _
    simp only [execRouteUpdate, hport]
    rw [if_pos hserving, State.routeUpdated, if_neg, if_pos hop]
    · simp only [hapex, hparents, Bool.false_eq_true, if_false]
      rfl
    · have hsome : updateNodes rq.payload ≠ [] := List.ne_nil_of_length_pos (by rw [length_updateNodes]; exact hlo)
      simpa [length_updateNodes, hop, hzero, hrole, hlen, hsome, hhi] using hrange
  case updateBroken =>
    rintro rq s n p hport rfl hbad
    have hkept : s.routeUpdated n rq.payload = s := by
      refine if_pos ?_
      rcases hbad with hzero | ⟨k, hk, hrange⟩
      · simp [hzero]
      · have hall : (updateNodes rq.payload).all (fun n => 1 ≤ n && n ≤ 0x3FFE) = false := by
          rw [List.all_eq_false]
          refine ⟨k, hk, ?_⟩
          simp
          omega
        simp [hall]
    change execRouteUpdate rq s = _
    simp [execRouteUpdate, hport, hkept]

end Sys2Proof.Machine

/-! Packets between devices and the answers to them (R40, R177 to R183). -/

namespace Sys2Proof.Machine

/-- Blocks within the credit given are all taken. -/
theorem receiveBlocks_inRoom {n vc k : Nat} (f : State → State) {s : State} (h : k ≤ s.creditRoom n vc) :
    s.receiveBlocks n vc k f = f (s.gotBlocks n vc k) := if_pos (by simp [h])

/-- The answer of an own command, where nothing stands in its way, goes to the command's port. -/
theorem ownAnswer_port {n : Nat} {t : Transaction} {h : Handle} {pkt : List Byte} {s : State} (hh : t.handle = some h)
    (hdup : (parseHeader pkt).status ≠ 12) : s.ownAnswer n t pkt = s.portReply h t.replays pkt := by
  simp [State.ownAnswer, hh, hdup, stDuplicate]

theorem takeAnswer_port {n : Nat} {t : Transaction} {h : Handle} {pkt : List Byte} {s : State} (hh : t.handle = some h)
    (hlost : (parseHeader pkt).status ≠ 10) (hdup : (parseHeader pkt).status ≠ 12) :
    s.takeAnswer n t pkt = s.portReply h t.replays pkt := by
  simp [State.takeAnswer, hh, hlost, stLinkLost, ownAnswer_port hh hdup]

/-- A REQUEST that admission lets run goes to its link's galley. -/
theorem requested_run {n vc : Nat} {x : TxHead} {pkt : List Byte} {rq : Request} {s : State}
    (hrq : rq = { requestOf (.link n) pkt with vc := vc, txid := x.txid }) (hserving : s.serving (.link n) = true)
    (hlen : lengthOk pkt = true) (hcrc : crcOk pkt = true) (hjoin : u16 pkt 0 ≠ 0x3016)
    (hrun : verdict (u16 pkt 0) rq (s.received rq) = .run) :
    s.requested n vc x pkt = (arrive rq s).enqueue (u16 pkt 0) rq := by
  have hport : rq.port = .link n := by rw [hrq]; rfl
  have hgo : s.requested n vc x pkt = (match verdict (u16 pkt 0) rq (s.received rq) with
      | .refuse st p => (s.received rq).refuse (u16 pkt 0) rq st p
      | .forward => (s.received rq).forward n vc x.txid 0 x.path x.hops
          (packet (u16 pkt 0) rq.tag rq.flags rq.status rq.target rq.originator rq.etref rq.payload)
      | .timed due => (s.received rq).admitTimed (u16 pkt 0) due rq
      | .run => ((s.received rq).takeIn rq).enqueue (u16 pkt 0) rq) := by
    rw [State.requested, ← hrq]
    simp only [hport, hserving, hlen, hcrc, hjoin, State.received]
    rfl
  rw [hgo, hrun]
  rfl

/-- Settles O22: a packet by its transaction header, a timeout by its transaction. -/
theorem packetsCrossLinks : Obligations.PacketsCrossLinks := by
  unfold Obligations.PacketsCrossLinks
  refine ⟨?request, ?overrun, ?broken, ?response, ?timeout, ?early, ?routeWait⟩
  case request =>
    rintro n vc b s s1 x pkt rq hroom rfl rfl rfl rfl hup hrole hok hcontent hkind hserving hlen hcrc hjoin hrun hjoined
    refine congrArg Host.Outcome.next ((receiveBlocks_inRoom _ hroom).trans ?_)
    have hown : linkPacket n vc b (s.gotBlocks n vc (blocksOf b.length))
        = (s.gotBlocks n vc (blocksOf b.length)).requested n vc (parseTx b) (b.drop 8) := by
      simp [linkPacket, hup, hrole, hok, hcontent, hkind]
    exact hown.trans (requested_run rfl hserving hlen hcrc hjoin hrun)
  case overrun =>
    intro n vc b s hup hover
    refine congrArg Host.Outcome.next (if_neg ?_)
    simpa [hup] using hover
  case broken =>
    rintro n vc b s s1 hroom rfl hup hok
    refine congrArg Host.Outcome.next ((receiveBlocks_inRoom _ hroom).trans ?_)
    simp [linkPacket, hup, hok, State.hopDrop]
  case response =>
    rintro n vc b s s1 t h hroom rfl hup hok hkind hcontent hlen hcrc hfind hin hhandle hlost hdup
    refine congrArg Host.Outcome.next ((receiveBlocks_inRoom _ hroom).trans ?_)
    have hreply := takeAnswer_port (n := n) (t := t) (pkt := b.drop 8)
      (s := ((s.gotBlocks n vc (blocksOf b.length)).closeTxn n t)) hhandle hlost hdup
    simp [linkResponse, hup, hok, hkind, hcontent, hlen, hcrc, hfind, hin, hreply]
  case timeout =>
    rintro n vc x at_ s s1 t rfl hfind hdue
    change execTransactionTimeout n vc x at_ s = _
    simp only [execTransactionTimeout, hfind, if_neg (Nat.not_lt.mpr hdue)]
  case early =>
    rintro n vc x at_ s s1 t rfl hfind hdue
    change execTransactionTimeout n vc x at_ s = _
    simp only [execTransactionTimeout, hfind, if_pos hdue]
  case routeWait =>
    intro tag orig at_ s w h hfind hhandle
    change execRouteWaitTimeout tag orig at_ s = _
    simp only [execRouteWaitTimeout, hier_advance, hfind, hhandle]
    rfl

end Sys2Proof.Machine

/-! System formes at the apex (R184 to R200). -/

namespace Sys2Proof.Machine

/-! One system forme of the table. -/

theorem onSysForme_some {id : Nat} {s : State} {x : SysForme} (h : Tbl.get? s.hier.sysFormes id = some x) (f : SysForme → SysForme) :
    s.onSysForme id f = s.onHier (fun q => { q with sysFormes := Tbl.put s.hier.sysFormes id (f x) }) := by
  simp [State.onSysForme, State.onHier, h]

/-- Two changes that agree on the forme are one change. -/
theorem onSysForme_congr {id : Nat} {s : State} {x : SysForme} (h : Tbl.get? s.hier.sysFormes id = some x)
    {f g : SysForme → SysForme} (hfg : f x = g x) : s.onSysForme id f = s.onSysForme id g := by
  rw [onSysForme_some h, onSysForme_some h, hfg]

theorem get?_onSysForme {id : Nat} {s : State} {x : SysForme} (h : Tbl.get? s.hier.sysFormes id = some x) (f : SysForme → SysForme) :
    Tbl.get? (s.onSysForme id f).hier.sysFormes id = some (f x) := by
  rw [onSysForme_some h]
  exact Tbl.get?_put_self _ _ _

@[simp] theorem node_onSysForme (id : Nat) (f : SysForme → SysForme) (s : State) : (s.onSysForme id f).node = s.node := rfl

/-! Counts over a forme's nodes. -/

theorem nodeCount_none {f : SysForme} {p : NodeAnswer → Bool} (h : ∀ e ∈ f.nodes, p e.2 = false) : f.nodeCount p = 0 :=
  List.length_eq_zero_iff.mpr (List.filter_eq_nil_iff.mpr (fun e he => by simp [h e he]))

theorem nodeCount_all {f : SysForme} {p : NodeAnswer → Bool} (h : ∀ e ∈ f.nodes, p e.2 = true) : f.nodeCount p = f.nodes.length :=
  congrArg List.length (List.filter_eq_self.mpr h)

theorem firstNode_none {f : SysForme} {p : NodeAnswer → Bool} (h : ∀ e ∈ f.nodes, p e.2 = false) : f.firstNode p = 0xFFFF := by
  rw [SysForme.firstNode, List.find?_eq_none.mpr (fun e he => by simp [h e he])]

/-- A forme that every node holds is pushed (R185). -/
theorem pushDone_held {id : Nat} {s : State} {f : SysForme} (hf : Tbl.get? s.hier.sysFormes id = some f) (hstate : f.state = 1)
    (hpushed : ∀ e ∈ f.nodes, e.2.pushed = 1) :
    s.pushDone id = (s.onSysForme id (fun f => { f with state := 2, pushHandle := none })).completeOpt f.pushHandle 0
      (leBytes 2 f.nodes.length ++ leBytes 2 f.nodes.length ++ leBytes 2 0 ++ leBytes 2 0xFFFF) := by
  have hnone (e) (he : e ∈ f.nodes) : decide (e.2.pushed = 2) = false := by simp [hpushed e he]
  have hopen : f.nodes.has (fun _ a => a.pushed = 0) = false := Tbl.has_eq_false (fun e he => by simp [hpushed e he])
  have hfailed : f.nodeCount (fun a => a.pushed = 2) = 0 := nodeCount_none hnone
  have hheld : f.nodeCount (fun a => a.pushed = 1) = f.nodes.length := nodeCount_all (fun e he => by simp [hpushed e he])
  unfold State.pushDone
  simp only [hf]
  rw [if_neg (by simp [hstate, hopen]), hheld, hfailed, firstNode_none hnone, if_pos rfl]
  exact congrArg _ (onSysForme_congr hf (by simp [hfailed]))

/-- A STANDBY decides nothing (R190). -/
theorem decide_standby (id : Nat) {s : State} (h : s.twin.role = .standby) : s.decide id = s := by
  unfold State.decide
  split
  · rfl
  · rw [if_pos (by simp [h])]

/-- Settles O23: each command and instant by the forme's state. -/
theorem systemFormesRun : Obligations.SystemFormesRun := by
  unfold Obligations.SystemFormesRun
  refine ⟨?stage, ?push, ?pushDone, ?run, ?late, ?answer, ?decision, ?standby, ?abort, ?status, ?timeout⟩
  case stage =>
    rintro rq s a p id node n hs rfl rfl rfl rfl hid hnode hmax hlo hhi hlen h6 h14 hsize hapex hnone hroom
    refine exec_served hs rfl ?_
    simp (disch := omega) [sysFormeStageBody, if_neg, Tbl.put, Tbl.at, Tbl.get?, *]
    rfl
  case push =>
    rintro rq s a p id f node x sb hs rfl rfl hlen rfl hapex hf hstate hnodes hother hrecord
    refine exec_served hs rfl ?_
    simp [sysFormePushBody, *]
  case pushDone =>
    intro id s f hf hstate hpushed
    exact congrArg Host.Outcome.next (pushDone_held hf hstate hpushed)
  case run =>
    rintro rq s a p id f t b sb hs rfl rfl hlen hpartial hzero hns hzero' rfl rfl hapex hf hstate rfl hearly hlate
    refine exec_served hs rfl ?_
    simp (disch := omega) [sysFormeRunBody, if_neg, nsOk, sec, day, *]
    rfl
  case late =>
    rintro rq s a p id f t hs rfl hlen hpartial hzero hns hzero' rfl rfl hapex hf hstate hlate
    refine exec_served hs rfl ?_
    simp (disch := omega) [sysFormeRunBody, if_neg, nsOk, sec, *]
  case answer =>
    intro id node d r s f x hf hstate hx hnone hleft
    refine congrArg Host.Outcome.next ?_
    simp [State.prepareAnswered, stOk, get?_onSysForme hf, *]
  case decision =>
    rintro id at_ s s1 f node x rfl hf hstate hpartial hrole hnodes hanswer hdue
    change execSysDecisionTime id at_ s = _
    simp only [execSysDecisionTime, hier_advance, hf, if_pos hdue]
    refine congrArg Host.Outcome.next ?_
    simp [State.decide, Tbl.map, Tbl.count, hf, hstate, hrole, hpartial, hnodes, hanswer, stTimeout]
  case standby =>
    exact fun id s h => decide_standby id h
  case abort =>
    rintro rq s a p f hs rfl hlen hapex hf hstate
    refine exec_served hs rfl ?_
    simp (disch := omega) [sysFormeAbortBody, if_neg, *]
  case status =>
    rintro rq s a p f hs rfl hlen hlo hhi hapex hf
    refine exec_served hs rfl ?_
    simp (disch := omega) [sysFormeStatusBody, if_neg, *]
  case timeout =>
    intro id at_ s f hf hstate hdue
    change execSysRunTimeout id at_ s = _
    simp only [execSysRunTimeout, hier_advance, hf]
    exact congrArg Host.Outcome.next (if_pos (by simp [hstate, sec, hdue]))

end Sys2Proof.Machine

/-! A node's part in a system forme (R185 to R190). -/

namespace Sys2Proof.Machine

/-- Settles O24: each command by its body, by what the node holds. -/
theorem nodesFollowDecisions : Obligations.NodesFollowDecisions := by
  unfold Obligations.NodesFollowDecisions
  refine ⟨?push, ?prepare, ?commit, ?commitUnknown, ?abort, ?expiry, ?report⟩
  case push =>
    rintro rq s a p id n hs rfl rfl rfl hoff hlo hhi hlen hlast hzero hroom
    refine exec_served hs rfl ?_
    simp (disch := omega) [formePushBody, if_neg, recordMax, *]
  case prepare =>
    rintro rq s a p id r b es t hs rfl hlen h6 h12 hns h28 rfl hid rfl hr hcomplete rfl rfl hstanding hnew hroom hb hcount hcrc hrate
      herror htime hgroups
    refine exec_served hs rfl ?_
    simp (disch := omega) [prepareBody, State.prepareForme, if_neg, nsOk, sec, *]
    rfl
  case commit =>
    rintro rq s a p f hs rfl hlen hf hprepared hopen hdecision
    refine exec_served hs rfl ?_
    simp [commitBody, State.commitForme, *]
    rfl
  case commitUnknown =>
    rintro rq s a p hs rfl hlen hnone
    refine exec_served hs rfl ?_
    simp [commitBody, State.commitForme, *]
  case abort =>
    rintro rq s a p f hs rfl hlen hf hprepared hclosed
    refine exec_served hs rfl ?_
    simp [abortBody, State.abortForme, *]
    rfl
  case expiry =>
    intro id at_ s f t hf hprepared hno hopen ht hdue
    refine congrArg Host.Outcome.next ?_
    have hforme : (s.advance at_).forme id = some f := by simpa [State.forme] using hf
    simp [decisionExpired, sec, *]
  case report =>
    rintro rq s n p hport rfl hserving hlen hstate hzero hapex
    change execLockupReport rq s = _
    rw [hport] at hserving
    simp (disch := omega) [execLockupReport, State.reportArrived, if_neg, *]

end Sys2Proof.Machine

/-! Engines, processes, images and delay lines (R246 to R260). -/

namespace Sys2Proof.Machine

/-- Settles O29: each command by its body. -/
theorem processesAreManaged : Obligations.ProcessesAreManaged := by
  unfold Obligations.ProcessesAreManaged
  refine ⟨?engine, ?engineBusy, ?engineStatus, ?create, ?delete, ?deletePlaced, ?write, ?check, ?image, ?status, ?delay, ?read⟩
  case engine =>
    rintro rq s a p hs rfl hlen he hdomain hblock hzero hnone
    refine exec_served hs rfl ?_
    simp (disch := omega) [engineConfigBody, if_neg, *]
  case engineBusy =>
    rintro rq s a p hs rfl hlen he hdomain hblock hzero hsome
    refine exec_served hs rfl ?_
    simp (disch := omega) [engineConfigBody, if_neg, *]
  case engineStatus =>
    rintro rq s a p e x hs rfl hlen rfl he hzero rfl hn hnone
    refine exec_served hs rfl ((require_pass _ _ (by simp [*])).trans ?_)
    simp [State.engineUse, hn, hnone]
  case create =>
    rintro rq s a p id q hs rfl hlen rfl hid hdomain hblock hin hinFirst hinEnd hout houtCount houtEnd hflags hzero hparam hrest hzero'
      hnone hfree rfl
    refine exec_served hs rfl ?_
    have hoverlap := Tbl.has_eq_false (t := a.chord.processes) (p := fun _ x => overlap x.inFirst x.inCount (u16 rq.payload 4)
      (u16 rq.payload 6) || overlap x.outFirst x.outCount (u16 rq.payload 8) (u16 rq.payload 10))
      (fun e he => by simp [hfree e he])
    simp (disch := omega) [procCreateBody, if_neg, *]
  case delete =>
    rintro rq s a p id q hs rfl hlen rfl hzero hq hplaced hlines hhandle
    refine exec_served hs rfl ?_
    have hrings := Tbl.has_eq_false (t := a.chord.lines) (p := fun _ l => l.process = u16 rq.payload 0 && l.ring != 0)
      (fun e he => by simpa using hlines e he)
    simp [procDeleteBody, hrings, hlen, hzero, hq, hplaced, hhandle]
  case deletePlaced =>
    rintro rq s a p id q x r hs rfl hlen rfl hzero hq hplaced
    refine exec_served hs rfl ?_
    simp [procDeleteBody, *]
  case write =>
    rintro rq s a p hs rfl hlen hslot hzero hlo hhi hsize hzero'
    exact exec_served hs rfl (require_pass _ _ (by simp [slotSize, *]))
  case check =>
    rintro rq s a p m r hs rfl hlen hslot hzero rfl rfl
    exact exec_served hs rfl (require_pass _ _ (by simp [*]))
  case image =>
    intro m h
    exact if_pos (by simp [h])
  case status =>
    rintro rq s a p q hs rfl hlen hzero hq
    refine exec_served hs rfl ?_
    simp only [procStatusBody, hq]
    exact require_pass _ _ (by simp [*])
  case delay =>
    rintro rq s a p q x r l hs rfl hlen hline hid hq hhere hring hmax hmod hd hfit hva hwords hpinned rfl
    refine exec_served hs rfl ?_
    have hsmall : ((x :: r).any (fun y => decide (u16 rq.payload 4 + q.n > q.dataWords y) ||
        decide (u16 rq.payload 6 + q.n > q.dataWords y))) = false :=
      List.any_eq_false.mpr (fun y hy => by have := hwords y hy; simp; omega)
    simp only [delaySetBody, hq, hhere, hsmall]
    simp (disch := omega) [if_neg, *]
  case read =>
    rintro rq s a p q x hs rfl hlen hq hx hspace hzero hlo hhi hsize
    refine exec_served hs rfl ?_
    simp only [dmReadBody, hq, hx]
    refine (require_pass _ _ ?_).trans ?_
    · simp [*]
    · simp [*]

end Sys2Proof.Machine

/-! Placements that start, run and stop (R248 to R258). -/

namespace Sys2Proof.Machine

@[simp] theorem onEngine_advance (e at_ : Nat) (s : State) : (s.advance at_).onEngine e = s.onEngine e := by
  rw [State.onEngine, State.onEngine, chord_advance]

/-- A running placement that neither stops, pauses nor rests runs its program over the block before (R252). -/
theorem tickPlacement_runs {id e t : Nat} {q : Process} {x : Placement} {s : State} (hq : Tbl.get? s.chord.processes id = some q)
    (hplaced : q.placements = [x]) (hrun : x.running = true) (hstart : x.startIndex + q.n ≤ t) (hstop : x.stopIndex = none)
    (hpaused : s.enginePaused e = false) (hrests : s.rests q = false) (hresting : q.resting = false) :
    s.tickPlacement id e t x.epoch = (s.seeEpoch id x.epoch (t - q.n) t).runPlacement id e (t - q.n) q x := by
  have hproc : s.proc id = q := by rw [State.proc, Tbl.at, hq]; rfl
  simp [State.tickPlacement, Nat.not_lt.mpr hstart, *]

/-- Settles O30: each command by its body, each instant by what is placed. -/
theorem placementsRun : Obligations.PlacementsRun := by
  unfold Obligations.PlacementsRun
  refine ⟨?place, ?late, ?started, ?unplace, ?stopped, ?uncorrectable, ?tick⟩
  case place =>
    rintro rq s a p id e q start image x hs rfl hlen rfl hid hepoch rfl he hslot hzero hq rfl himage halign hnone hn hdomain htime
      hcycles hcode hwords rfl
    refine exec_served hs rfl ?_
    simp (disch := omega) [procPlaceBody, if_neg, *]
  case late =>
    rintro rq s a p id e q start image hs rfl hlen rfl hid hepoch rfl he hslot hzero hq rfl himage halign hnone hn hdomain htime
    refine exec_served hs rfl ?_
    simp (disch := omega) [procPlaceBody, if_neg, *]
  case started =>
    intro id epoch at_ s q x hq hx hrun hstart
    refine congrArg Host.Outcome.next ?_
    simp [placeStarted, stOk, *]
  case unplace =>
    rintro rq s a p id q stop hs rfl hlen rfl hid hzero hq rfl hany halign hcut hone htime
    refine exec_served hs rfl ?_
    simp only [procUnplaceBody, hq, hcut]
    simp (disch := omega) [if_neg, *]
  case stopped =>
    intro id epoch at_ s q x i hq hx hi hdue
    refine congrArg Host.Outcome.next ?_
    simp (disch := omega) [placeStopped, if_neg, *]
  case uncorrectable =>
    intro e id at_ s q x he hq hx
    refine congrArg Host.Outcome.next ((if_neg (by omega)).trans ?_)
    simp [pmUncorrectable, hq, hx]
  case tick =>
    rintro e at_ s s1 id q x t n rfl rfl hn hpower rfl hone hq hplaced hrun hstart hstop hpaused hrests hresting
    refine congrArg Host.Outcome.next ?_
    simp [engineTick, *]
    exact tickPlacement_runs (by simpa using hq) hplaced hrun hstart hstop hpaused hrests hresting

end Sys2Proof.Machine

/-! Sheets that are configured, ordered and composed (R262 to R275). -/

namespace Sys2Proof.Machine

@[simp] theorem sheet_advance (n at_ : Nat) (s : State) : (s.advance at_).sheet n = s.sheet n := by
  rw [State.sheet, State.sheet, imp_advance]

@[simp] theorem composes_advance (at_ : Nat) (s : State) : (s.advance at_).composes = s.composes := by
  simp [State.composes]

@[simp] theorem underTest_advance (kinds : List Nat) (n at_ : Nat) (s : State) :
    (s.advance at_).underTest kinds n = s.underTest kinds n := by
  rw [State.underTest, State.underTest, proof_advance]

/-- A product with 1024, rounded half up over 1024, is the value itself. -/
theorem fdiv_rounds {a v : Int} (h : a = 1024 * v) : Int.fdiv (2 * a + 1024) 2048 = v := by
  rw [Int.fdiv_eq_ediv_of_nonneg _ (by decide)]
  omega

/-- Settles O32: each command by its body, a frame start by the sheet, a blend by its opacity. -/
theorem sheetsCompose : Obligations.SheetsCompose := by
  unfold Obligations.SheetsCompose
  refine ⟨?enable, ?rate, ?stage, ?order, ?page, ?read, ?input, ?status, ?compose, ?repeated, ?opaque_, ?clear⟩
  case enable =>
    rintro rq s a p n hs rfl hlen rfl hn hon hclass hoffset y1 y2 b1 b2 r1 r2 hzero hoff hstore hplates hrate
    refine exec_served hs rfl ?_
    simp (disch := omega) [sheetConfigBody, State.enableSheet, if_neg, *]
  case rate =>
    rintro rq s a p n hs rfl hlen rfl hn hon hclass hoffset y1 y2 b1 b2 r1 r2 hzero hoff hrate
    refine exec_served hs rfl ?_
    simp (disch := omega) [sheetConfigBody, State.enableSheet, if_neg, *]
  case stage =>
    rintro rq s a p n c hs rfl hlen rfl hn hon hclass hoffset y1 y2 b1 b2 r1 r2 hzero hoff hformat hcarriage rfl
    refine exec_served hs rfl ?_
    simp (disch := omega) [sheetConfigBody, if_neg, *]
  case order =>
    rintro rq s a p n o hs rfl hlen rfl hn hlist hzero hns htime hzero' hoff hstaged rfl hover
    refine exec_served hs rfl ?_
    simp (disch := omega) [sheetOrderBody, if_neg, State.timeOk, nsOk, sec, day, *]
    exact fun h => absurd (h.symm.trans hover) (by decide)
  case page =>
    rintro rq s a p n k h x hs rfl hlen rfl hn rfl hk hzero hns htime hzero' hpage hon hstaged rfl rfl hover
    refine exec_served hs rfl ?_
    simp (disch := omega) [pageSetBody, if_neg, State.timeOk, nsOk, sec, day, *]
    dsimp only at hover
    rw [hon] at hover
    exact fun h => absurd (h.symm.trans hover) (by decide)
  case read =>
    rintro rq s a p hs rfl hlen hn hk hactive hzero
    refine exec_served hs rfl ((require_pass _ _ (by simp [*])).trans ?_)
    simp [hactive]
  case input =>
    rintro rq s a p hs rfl hlen hclass hzero
    exact exec_served hs rfl (require_pass _ _ (by simp [Option.isSome_iff_ne_none, *]))
  case status =>
    rintro rq s a p h hs rfl hlen hn hzero rfl hoff
    refine exec_served hs rfl ((require_pass _ _ (by simp [*])).trans ?_)
    simp [hoff]
  case compose =>
    rintro n at_ pixels bad s s1 s2 hn rfl hon hcomposes htest hrepeat rfl hstill
    refine congrArg Host.Outcome.next ?_
    simp (disch := omega) [sheetFrameStart, if_neg, *]
  case repeated =>
    intro n at_ pixels bad s hn hon hcomposes htest hrepeat
    refine congrArg Host.Outcome.next ?_
    simp (disch := omega) [sheetFrameStart, if_neg, *]
  case opaque_ =>
    intro src dst black
    exact congrArg (clamp 4 1019) (fdiv_rounds (by simp; ring))
  case clear =>
    intro src dst black
    exact congrArg (clamp 4 1019) (fdiv_rounds (by simp))

end Sys2Proof.Machine

/-! Plates and their table (R281 to R305). -/

namespace Sys2Proof.Machine

theorem bit_of_lt {v i : Nat} (h : v < 2 ^ i) : bit v i = false := by
  simp [bit, Nat.div_eq_of_lt h]

theorem isGeneral_of {k : Nat} (hlo : 32768 ≤ k) (hhi : k < 47104) : isGeneral k = true := by
  simp [isGeneral, firstGeneral, endGeneral, hlo, hhi]

/-- Settles O33: each command by its body. -/
theorem platesAreManaged : Obligations.PlatesAreManaged := by
  unfold Obligations.PlatesAreManaged
  refine ⟨?alloc, ?allocFull, ?free, ?freeMapped, ?zeroed, ?map, ?unmap, ?read, ?exported, ?info⟩
  case alloc =>
    rintro rq s a p n got t hs rfl hlen rfl hlo hhi hzero hroom rfl rfl
    refine exec_served hs rfl ?_
    simp (disch := omega) [plateAllocBody, if_neg, firstGeneral, endGeneral, *]
  case allocFull =>
    rintro rq s a p n hs rfl hlen rfl hlo hhi hzero hroom
    refine exec_served hs rfl ?_
    simp (disch := omega) [plateAllocBody, if_neg, firstGeneral, endGeneral, *]
  case free =>
    rintro rq s a p k hs rfl hlen hcount hzero rfl hlo hhi hstate hmap
    refine exec_served hs rfl ?_
    have hrecord : (rq.payload.drop 4).take 4 = rq.payload.drop 4 := List.take_of_length_le (by simp [hlen])
    simp [plateFreeBody, records, hlen, hcount, hzero, hrecord, isGeneral_of hlo hhi, hstate, hmap, distinct]
    rfl
  case freeMapped =>
    rintro rq s a p k hs rfl hlen hcount hzero rfl hlo hhi hmap
    refine exec_served hs rfl ?_
    have hrecord : (rq.payload.drop 4).take 4 = rq.payload.drop 4 := List.take_of_length_le (by simp [hlen])
    simp [plateFreeBody, records, hlen, hcount, hzero, hrecord, isGeneral_of hlo hhi, hmap, distinct]
  case zeroed =>
    intro k s h
    exact congrArg Host.Outcome.next (if_pos h)
  case map =>
    rintro rq s a p f first k t e hs rfl hlen halign hn rfl hfirst rfl hf hrt hnode h15 h20 rfl hk hwrite hallocated huse hpins rfl rfl hparked
    refine exec_served hs rfl ?_
    have h3 : bit (u16 rq.payload 10) 3 = false := bit_of_lt (by omega)
    have h4 : bit (u16 rq.payload 10) 4 = false := bit_of_lt (by omega)
    simp only [Nat.reducePow] at halign hfirst huse hpins hparked
    simp [plateMapBody, plateBytes, h3, h4, hlen, hn, hnode, h15, h20]
    rw [if_neg ?fields, if_neg ?state, if_neg (by simp [hpins]), List.filter_eq_nil_iff.mpr ?running]
    · rfl
    case fields => simp [halign, endGeneral, firstGeneral]; grind
    case state => simp [huse, isGeneral, endGeneral, firstGeneral]; grind
    case running => exact fun c hc => by simp [hparked c hc]
  case unmap =>
    rintro rq s a p hs rfl hlen halign hn hva hzero huse
    refine exec_served hs rfl ?_
    simp only [Nat.reducePow] at halign hva huse ⊢
    simp [plateUnmapBody, plateBytes, *]
  case read =>
    rintro rq s a p hs rfl hlen halign hlo hhi hva hzero
    refine exec_served hs rfl ?_
    simp (disch := omega) [plateReadBody, if_neg, plateBytes, *]
  case exported =>
    rintro rq s a p k hs rfl hlen rfl hn hmode hzero hlo hhi hstate
    refine exec_served hs rfl ?_
    simp (disch := omega) [plateExportBody, if_neg, hlen, hn, hzero, hstate, isGeneral_of hlo hhi]
  case info =>
    rintro rq s a p st hs rfl hlen hzero hsource hnone hst hframes
    refine exec_served hs rfl ?_
    simp [frameStoreInfoBody, *]

end Sys2Proof.Machine

/-! Local memory keeps what is written to it (R276, R278). -/

namespace Sys2Proof.Machine

/-- A general plate is read as it stands in memory. -/
theorem dramRead_general {off : Nat} (h : 2 ^ 36 ≤ off) (n : Nat) (s : State) :
    s.dramRead off n = (Memory.readN s.mem.dram off n, s) := by
  refine if_pos ?_
  rw [ge_iff_le, Nat.le_div_iff_mul_le (by decide)]
  exact Nat.le_trans (by decide) h

/-- Settles O34: what a write leaves in memory and which lines it leaves poisoned. -/
theorem memoryKeepsWhatIsWritten : Obligations.MemoryKeepsWhatIsWritten := by
  unfold Obligations.MemoryKeepsWhatIsWritten
  refine ⟨?back, ?other, ?poison⟩
  case back =>
    intro off data s h
    rw [dramRead_general h]
    exact Memory.readN_writeN_self data s.mem.dram off
  case other =>
    exact fun off data c s h => Memory.read_writeN_outside data s.mem.dram h
  case poison =>
    intro off data l s
    simp only [State.dramWrite, onMem_mem, List.mem_filter, Bool.not_eq_true', Bool.and_eq_false_iff, decide_eq_false_iff_not]
    exact and_congr_right fun _ => by omega

end Sys2Proof.Machine

/-! Background DMA channels that move data, park and resume (R292 to R305). -/

namespace Sys2Proof.Machine

@[simp] theorem length_fillBytes (pattern p n : Nat) : (fillBytes pattern p n).length = n := by
  simp [fillBytes]

/-- The record of a single descriptor after the header. -/
theorem records_one (p : List Byte) (off size : Nat) : records p off size 1 = [(p.drop off).take size] := by
  simp [records]

/-- Settles O35: each command by its body, each burst by its descriptor. -/
theorem dmaChannelsMove : Obligations.DmaChannelsMove := by
  unfold Obligations.DmaChannelsMove
  refine ⟨?submit, ?full, ?fill, ?fault, ?done, ?resume, ?skip, ?abort, ?abortIdle, ?status⟩
  case submit =>
    rintro rq s a p ch r j hs rfl hlen rfl hlo hhi hn hzero rfl hok hup hjobs hidle rfl
    refine exec_served hs rfl ?_
    simp (disch := omega) [dmaSubmitBody, records_one, if_neg, *]
  case full =>
    rintro rq s a p ch r hs rfl hlen rfl hlo hhi hn hzero rfl hok hup hfull
    refine exec_served hs rfl ?_
    simp (disch := omega) [dmaSubmitBody, records_one, if_neg, *]
  case fill =>
    rintro ch data s d x n hd hrun hwaiting hheld hfill hspace hlocal rfl
    refine congrArg Host.Outcome.next ?_
    simp [State.dmaBurst, State.dmaStore, *]
  case fault =>
    intro ch cause va s hrun
    exact congrArg Host.Outcome.next (if_neg (by simp [hrun]))
  case done =>
    intro ch s j r hjobs hrun hdone
    change execDmaJobDone ch s = _
    simp [execDmaJobDone, State.dmaEnd, hjobs, hrun, hdone]
  case resume =>
    rintro rq s a p ch hs rfl hlen rfl hop hlo hhi hzero hparked
    refine exec_served hs rfl ?_
    simp (disch := omega) [dmaControlBody, State.dmaResume, if_neg, *]
  case skip =>
    rintro rq s a p ch d hs rfl hlen rfl hop hlo hhi hzero hparked hd
    refine exec_served hs rfl ?_
    simp (disch := omega) [dmaControlBody, if_neg, *]
  case abort =>
    rintro rq s a p ch hs rfl hlen rfl hop hlo hhi hzero hrun
    refine exec_served hs rfl ?_
    simp (disch := omega) [dmaControlBody, if_neg, *]
  case abortIdle =>
    rintro rq s a p ch hs rfl hlen rfl hop hlo hhi hzero hidle
    refine exec_served hs rfl ?_
    simp (disch := omega) [dmaControlBody, if_neg, *]
  case status =>
    rintro rq s a p ch c hs rfl hlen rfl hlo hhi hzero rfl
    refine exec_served hs rfl ?_
    simp (disch := omega) [dmaStatusBody, State.dmaStatus, if_neg, *]

end Sys2Proof.Machine

/-! The selector takes the best eligible candidate (R311). -/

namespace Sys2Proof.Machine

/-- The order of the candidates as one number: quality value, priority value, index. -/
def State.candRank (s : State) (i : Nat) : Nat := s.candQuality i * 65536 + (s.cand i).priority * 256 + i

theorem best_eq_argmin (s : State) : s.best = ((List.range 8).filter s.eligible).argmin s.candRank := by
  unfold State.best List.argmin
  dsimp only
  congr 1
  funext b i
  cases b <;> rfl

/-- The least rank is the least quality value, then priority value, then index. -/
theorem candRank_lt_iff {s : State} (h : ∀ j, (s.cand j).priority ≤ 255) {i j : Nat} (hi : i ≤ 7) (hj : j ≤ 7) :
    s.candRank i < s.candRank j ↔ s.candQuality i < s.candQuality j ∨ (s.candQuality i = s.candQuality j ∧
      ((s.cand i).priority < (s.cand j).priority ∨ ((s.cand i).priority = (s.cand j).priority ∧ i < j))) := by
  have h1 := h i
  have h2 := h j
  unfold State.candRank
  omega

theorem mem_eligible {s : State} {j : Nat} : j ∈ (List.range 8).filter s.eligible ↔ j ≤ 7 ∧ s.eligible j = true := by
  simp [Nat.lt_succ_iff]

/-- Settles O40: the best is the eligible candidate of least rank. -/
theorem selectorTakesTheBest : Obligations.SelectorTakesTheBest := by
  unfold Obligations.SelectorTakesTheBest
  intro s i hpriority
  rw [best_eq_argmin, List.argmin_eq_some_iff, mem_eligible, and_assoc]
  refine and_congr_right fun hi => and_congr_right fun helig => ⟨?least, ?best⟩
  case least =>
    rintro ⟨hmin, -⟩ j hj hjelig hne
    have hle := hmin j (mem_eligible.mpr ⟨hj, hjelig⟩)
    rw [← candRank_lt_iff hpriority hi hj]
    refine lt_of_le_of_ne hle fun heq => ?_
    have hij := candRank_lt_iff hpriority hi hj
    have hji := candRank_lt_iff hpriority hj hi
    omega
  case best =>
    intro h
    have hlt (j) (hj : j ∈ (List.range 8).filter s.eligible) (hne : j ≠ i) : s.candRank i < s.candRank j := by
      obtain ⟨hj, hjelig⟩ := mem_eligible.mp hj
      exact (candRank_lt_iff hpriority hi hj).mpr (h j hj hjelig hne)
    refine ⟨fun j hj => ?_, fun j hj hle => ?_⟩
    · by_cases hne : j = i
      · exact hne ▸ le_rfl
      · exact (hlt j hj hne).le
    · by_cases hne : j = i
      · exact hne ▸ le_rfl
      · exact absurd hle (Nat.not_le.mpr (hlt j hj hne))

end Sys2Proof.Machine

/-! Candidates that qualify, are lost and are followed (R309 to R322). -/

namespace Sys2Proof.Machine

theorem cand_advance (i at_ : Nat) (s : State) : (s.advance at_).cand i = s.cand i := by
  rw [State.cand, State.cand, ref_advance]

@[simp] theorem cand_onCand_self (i : Nat) (f : Candidate → Candidate) (s : State) : (s.onCand i f).cand i = f (s.cand i) := by
  simp [State.cand, State.onCand]

/-- Two changes of a candidate that agree on it are one change. -/
theorem onCand_congr {i : Nat} {s : State} {f g : Candidate → Candidate} (h : f (s.cand i) = g (s.cand i)) :
    s.onCand i f = s.onCand i g := by
  unfold State.cand at h
  simp only [State.onCand, State.onRef, Tbl.upd, h]

@[simp] theorem ptp_advance (port at_ : Nat) (s : State) : (s.advance at_).ptp port = s.ptp port := by
  rw [State.ptp, State.ptp, ref_advance]

theorem ptp_onPtp_self {port : Nat} (f : PtpInst → PtpInst) (s : State) : (s.onPtp port f).ptp port = f (s.ptp port) := by
  unfold State.ptp State.onPtp
  split <;> simp [*]

@[simp] theorem ptp_onCand (port i : Nat) (f : Candidate → Candidate) (s : State) : (s.onCand i f).ptp port = s.ptp port := rfl

@[simp] theorem cand_onPtp (port i : Nat) (f : PtpInst → PtpInst) (s : State) : (s.onPtp port f).cand i = s.cand i := by
  unfold State.cand State.onPtp
  rw [onRef_ref]
  split <;> rfl

@[simp] theorem ptpPort_advance (port at_ : Nat) (s : State) : (s.advance at_).ptpPort port = s.ptpPort port := by
  rw [State.ptpPort, State.ptpPort, eth_advance]

/-- A change of the reference's state keeps what the servo follows. -/
theorem setRef_servo (st : RefState) (s : State) :
    (s.setRef st).ref.state = st ∧ (s.setRef st).ref.base = s.ref.base ∧ (s.setRef st).ref.remainingNs = s.ref.remainingNs := by
  unfold State.setRef
  dsimp only
  split
  · exact ⟨‹_›, rfl, rfl⟩
  · simp

/-- The end of a servo's update: a servo that is LOCKED keeps its history, and the sixteenth good update locks (R314). -/
theorem servoLock_ref {f : Time → Time}
    (hf : ∀ r, (f r).base = r.base ∧ (f r).remainingNs = r.remainingNs ∧ (f r).state = r.state) (u : State) :
    (State.aim (if u.ref.state = .locked then u.onRef f
      else if u.ref.goodUpdates ≥ 16 then (u.onRef (fun r => { r with everLocked := true })).setRef .locked else u)).ref.base = u.ref.base ∧
    (State.aim (if u.ref.state = .locked then u.onRef f
      else if u.ref.goodUpdates ≥ 16 then (u.onRef (fun r => { r with everLocked := true })).setRef .locked else u)).ref.remainingNs
        = u.ref.remainingNs ∧
    (16 ≤ u.ref.goodUpdates → (State.aim (if u.ref.state = .locked then u.onRef f
      else if u.ref.goodUpdates ≥ 16 then (u.onRef (fun r => { r with everLocked := true })).setRef .locked else u)).ref.state = .locked) := by
  simp only [State.aim, onRef_ref]
  split
  · obtain ⟨hbase, hleft, hstate⟩ := hf u.ref
    exact ⟨hbase, hleft, fun _ => hstate.trans ‹_›⟩
  · split
    · obtain ⟨hstate, hbase, hleft⟩ := setRef_servo .locked (u.onRef (fun r => { r with everLocked := true }))
      exact ⟨hbase, hleft, fun _ => hstate⟩
    · exact ⟨rfl, rfl, fun h => absurd h ‹_›⟩

/-- One update of the servo (R313, R314). -/
theorem servoUpdate_ref {ph e : Int} {s : State} (hon : s.selectorOn = true) (hstate : s.ref.state = .acquiring ∨ s.ref.state = .locked)
    (hsel : s.ref.selected ≠ none) :
    (servoUpdate ph e s).ref.base = s.ref.base - Int.fdiv (e * nominalInc) 1000000000000 ∧ (servoUpdate ph e s).ref.remainingNs = ph ∧
      (s.ref.state = .acquiring → s.ref.goodUpdates = 15 → e.natAbs ≤ 50000 → (servoUpdate ph e s).ref.state = .locked) := by
  obtain ⟨i, hi⟩ := Option.ne_none_iff_exists'.mp hsel
  have hfollows : ¬ (!s.selectorOn || (s.ref.state != .acquiring && s.ref.state != .locked)) = true := by
    rcases hstate with h | h <;> simp [hon, h]
  have hraised (p : Prop) [Decidable p] (u : State) (a b c : Nat) (d : List Byte) : (if p then u.raise a b c d else u).ref = u.ref := by
    split <;> simp
  unfold servoUpdate
  simp only [hi, if_neg hfollows]
  refine ⟨(servoLock_ref ?_ _).1.trans ?_, (servoLock_ref ?_ _).2.1.trans ?_, fun hacq hgood he => (servoLock_ref ?_ _).2.2 ?_⟩
  · exact fun r => ⟨rfl, rfl, rfl⟩
  · rw [hraised]
    rfl
  · exact fun r => ⟨rfl, rfl, rfl⟩
  · rw [hraised]
    rfl
  · exact fun r => ⟨rfl, rfl, rfl⟩
  · rw [hraised]
    change 16 ≤ (if e.natAbs ≤ 50000 then sat 16 (s.ref.goodUpdates + 1) else 0)
    rw [if_pos he, hgood]
    decide

/-- Settles O38: each happening by the candidate's state. -/
theorem candidatesAreSelected : Obligations.CandidatesAreSelected := by
  unfold Obligations.CandidatesAreSelected
  refine ⟨?present, ?absent, ?qualified, ?reselect, ?servo, ?expiry, ?edge, ?pps, ?capture, ?sync, ?answer, ?stale⟩
  case present =>
    rintro i at_ pp off hz s t rfl hi hp
    refine congrArg Host.Outcome.next (if_neg ?_)
    rw [hp]
    simpa using hi
  case absent =>
    rintro i at_ s t rfl hi hp hq
    refine congrArg Host.Outcome.next ?_
    simp (disch := omega) [State.candidateGone, hp, hq, if_neg]
  case qualified =>
    rintro i at_ off hz s t rfl hi hp hq hdue hlimit
    change Host.Outcome.next (candidateQualified i off hz (s.advance at_)) = _
    generalize s.advance at_ = t at *
    change _ + _ * sec ≤ _ at hdue
    simp (disch := omega) [candidateQualified, hp, hq, if_neg]
  case reselect =>
    intro s i hon hbest hnone
    simp [State.reselect, hon, hbest, hnone]
  case servo =>
    intro at_ ph e s hstate hsel hon
    refine ⟨servoUpdate ph e (s.advance at_), rfl, ?_⟩
    have hrole : (s.advance at_).selectorOn = true := by simpa [State.selectorOn] using hon
    generalize s.advance at_ = t at *
    exact servoUpdate_ref hrole hstate hsel
  case expiry =>
    rintro at_ s t rfl hstate hdue
    change Host.Outcome.next (holdoverExpiry (s.advance at_)) = _
    generalize s.advance at_ = t at *
    change _ + _ * sec ≤ _ at hdue
    simp (disch := omega) [holdoverExpiry, hstate, if_neg]
  case edge =>
    rintro i at_ fr asg s t rfl hi hp
    refine congrArg Host.Outcome.next ((if_pos ?_).trans ?_)
    · simp
      omega
    · simp only [refSyncEdge, hp, if_pos hi, if_true]
  case pps =>
    rintro at_ fr s t rfl hp
    refine congrArg Host.Outcome.next ?_
    simp [refSyncEdge, hp, sec]
  case capture =>
    intro i at_ fr s hmask hroom
    simp (disch := omega) [State.captureEdge, hmask, if_neg]
  case sync =>
    intro port t1 t2 mac ip at_ s hport
    exact congrArg Host.Outcome.next (if_neg (by omega))
  case answer =>
    rintro port seq t4 at_ s i hport rfl rfl hp
    refine ⟨_, congrArg Host.Outcome.next (if_neg (by omega)), ?_⟩
    simp [ptpMessage, cand_advance, hp, ptp_onPtp_self]
  case stale =>
    intro port seq t4 at_ s hport hseq
    refine congrArg Host.Outcome.next ((if_neg (by omega)).trans ?_)
    simp [ptpMessage, hseq]

end Sys2Proof.Machine

/-! Proof runs and live tests (R384 to R393). -/

namespace Sys2Proof.Machine

/-- A field of a record is the field of the payload that the record is cut from. -/
theorem fld_record {p : List Byte} {k w off n : Nat} (h : off + n ≤ w) : fld ((p.drop k).take w) off n = fld p (k + off) n := by
  rw [fld, fld, List.drop_take, List.take_take, List.drop_drop, min_eq_left (by omega)]

/-- A run of one item: its record's fields in the payload. -/
theorem record_item {p : List Byte} : parseItem ((p.drop 4).take 8) = { test := u8 p 4, first := u16 p 6, units := u16 p 8 } := by
  simp [parseItem, u8, u16, fld_record]

theorem reserved_item {p : List Byte} (h5 : u8 p 5 = 0) (h10 : u16 p 10 = 0) :
    u8 ((p.drop 4).take 8) 1 = 0 ∧ u16 ((p.drop 4).take 8) 6 = 0 :=
  ⟨(fld_record (by decide)).trans h5, (fld_record (by decide)).trans h10⟩

theorem writeResult_head (r : ProofRec) (s : State) :
    (s.writeResult r).proof.results.head? = some { r with seq := s.proof.nextSeq.toNat, t := s.now } := rfl

/-- A run of one waiting step after its cancellation: its step's result is written, the run is gone and the event raised (R390). -/
def State.runTaken (r : ProofRunSt) (x : ProofStep) (s : State) : State :=
  let s := s.onProof (fun q => { q with runs := q.runs.map (fun y => if y.id = r.id then
    { y with steps := [], aborted := y.aborted + y.steps.length } else y) })
  let s := s.writeResult { runId := r.id, test := x.test, result := 2, unit := x.unit, cause := 2, durationUs := s.stepUs x }
  (s.onProof (fun q => { q with runs := q.runs.filter (fun y => y.id != r.id) })).raise 14 2 r.id
    ({ r with steps := [], aborted := r.aborted + 1 } : ProofRunSt).map

/-- Settles O46: each command by its body, each step by the run at the front. -/
theorem proofRunsAct : Obligations.ProofRunsAct := by
  unfold Obligations.ProofRunsAct
  refine ⟨?run, ?unknown, ?busyUnit, ?full, ?cancel, ?cancelUnknown, ?results, ?live, ?status, ?start, ?done, ?abort, ?write, ?slice,
    ?lastSlice⟩
  case run =>
    rintro rq s a p l r hs rfl h0 h1 hlen h2 h3 h5 h10 rfl hunits hok hroom hruns rfl
    refine exec_served hs rfl ?_
    dsimp only at hunits hok
    have htests : ¬ ∃ k < u16 rq.payload 8, testUnit (u8 rq.payload 4) (u16 rq.payload 6 + k) = false :=
      fun ⟨k, hk, h⟩ => absurd ((hok k hk).1.symm.trans h) (by decide)
    have hmay : ¬ ∃ k < u16 rq.payload 8, a.mayTest false (u8 rq.payload 4) (u16 rq.payload 6 + k) = false :=
      fun ⟨k, hk, h⟩ => absurd ((hok k hk).2.symm.trans h) (by decide)
    obtain ⟨hreserved, hreserved'⟩ := reserved_item h5 h10
    have hforce : bit 0 0 = false := rfl
    simp (disch := omega) [proofRunBody, records, record_item, if_neg, *]
  case unknown =>
    rintro rq s a p hs rfl h0 h1 hlen h2 h3 h5 h10 hone hbad
    refine exec_served hs rfl ?_
    obtain ⟨hreserved, hreserved'⟩ := reserved_item h5 h10
    have hforce : bit 0 0 = false := rfl
    simp [proofRunBody, records, record_item, *]
  case busyUnit =>
    rintro rq s a p hs rfl h0 h1 hlen h2 h3 h5 h10 hone hok hbusy
    refine exec_served hs rfl ?_
    obtain ⟨hreserved, hreserved'⟩ := reserved_item h5 h10
    have hforce : bit 0 0 = false := rfl
    simp [proofRunBody, records, record_item, *]
  case full =>
    rintro rq s a p hs rfl h0 h1 hlen h2 h3 h5 h10 hone hok hfree hfull
    refine exec_served hs rfl ?_
    obtain ⟨hreserved, hreserved'⟩ := reserved_item h5 h10
    have hforce : bit 0 0 = false := rfl
    simp [proofRunBody, records, record_item, *]
  case cancel =>
    rintro rq s a p r q l x hs rfl hlen hzero hruns hq hr hsteps
    have hid : r.id = u16 rq.payload 0 := by simpa using List.find?_some hr
    refine ⟨a.runTaken r x, exec_served hs rfl ?_, fun y hy => ?_, ?_⟩
    · have hfind : a.proof.runs.find? (fun x => x.id = u16 rq.payload 0) = some r := by simp [hruns, hq, hr]
      simp only [proofCancelBody, hfind, hsteps, each_cons, each_nil]
      rw [if_neg (by simp [hlen, hzero]), if_neg (by simp [State.writeResult, hruns, hid, hq])]
      rfl
    · have hkept : y.id ≠ r.id := by
        simp only [State.runTaken, proof_raise, onProof_proof, List.mem_filter, bne_iff_ne] at hy
        exact hy.2
      rwa [hid] at hkept
    · simp [State.runTaken, State.writeResult, hid]
  case cancelUnknown =>
    rintro rq s a p hs rfl hlen hzero hnone
    refine exec_served hs rfl ?_
    have hfind : a.proof.runs.find? (fun r => r.id = u16 rq.payload 0) = none :=
      List.find?_eq_none.mpr (fun r hr => by simpa using hnone r hr)
    simp [proofCancelBody, hlen, hzero, hfind]
  case results =>
    rintro rq s a p l e hs rfl hlen hlo hhi hzero rfl hlast
    refine exec_served hs rfl ((require_pass _ _ (by simp [*])).trans ?_)
    simp only [hlast]
  case live =>
    rintro rq s a p hs rfl hlen hmask hformat hevery hzero hslices hfailed
    refine exec_served hs rfl ((require_pass _ _ (by simp [*])).trans ?_)
    simp [State.onProof, hmask, hslices, hfailed]
  case status =>
    intro rq s a hs hp hruns
    refine exec_served hs rfl ?_
    simp [proofStatusBody, hp, hruns, State.lanesTested, State.addedMw]
  case start =>
    rintro at_ s t u mw r l x rfl hruns hsafe hpower hoff hphase hmw hsteps hnew htest
    change Host.Outcome.next (proofStepStart (s.advance at_)) = _
    generalize s.advance at_ = t at *
    simp [proofStepStart, hruns, hsafe, hpower, hoff, hphase, hmw, hsteps, State.nextStep, hnew]
    by_cases hfits : u.stepFits mw x = true
    · simp [hfits, htest, testDomain]
    · simp [hfits]
  case done =>
    intro t u seen at_ s x hx
    change Host.Outcome.next (proofStepDone t u seen (s.advance at_)) = _
    simp only [proofStepDone, hx]
  case abort =>
    intro t u at_ s x hx hsafe
    change Host.Outcome.next (proofStepAbort t u (s.advance at_)) = _
    simp [proofStepAbort, hx, hsafe]
  case write =>
    intro r s
    exact ⟨_, rfl, rfl, by simp [State.writeResult], rfl⟩
  case slice =>
    rintro n seen at_ s t rfl hn hmask hpower hoff hfield hphase hcount hpassed
    change Host.Outcome.next (liveSlice 16 n seen (s.advance at_)) = _
    generalize s.advance at_ = t at *
    have hroom : t.proof.slices.at (4096 + n) 0 + 1 < 64 := by omega
    simp [liveSlice, liveUnit, liveSlices, hn, hmask, hpower, hoff, hfield, hphase, hroom, hpassed]
    rfl
  case lastSlice =>
    rintro n seen at_ s t r rfl hn hmask hpower hoff hfield hphase hcount hpassed hclear rfl
    change Host.Outcome.next (liveSlice 16 n seen (s.advance at_)) = _
    generalize s.advance at_ = t at *
    have hheld : 4096 + n ∉ t.proof.liveFailed := by simpa using hclear
    simp [liveSlice, liveUnit, liveSlices, hn, hmask, hpower, hoff, hfield, hphase, hcount, hpassed, hheld]
    rfl

end Sys2Proof.Machine

/-! The life cycle and the key slots (R394 to R415). -/

namespace Sys2Proof.Machine

@[simp] theorem keySlot_onSlot_self (n : Nat) (f : KeySlot → KeySlot) (s : State) : (s.onSlot n f).keySlot n = f (s.keySlot n) := by
  simp [State.keySlot, State.onSlot]

theorem keySlot_onSlot_other {m n : Nat} (f : KeySlot → KeySlot) (s : State) (h : m ≠ n) : (s.onSlot n f).keySlot m = s.keySlot m := by
  simp [State.keySlot, State.onSlot, Tbl.at_upd_other _ _ _ _ h]

theorem mayWrite_iff {n : Nat} : mayWrite n = true ↔ n = 1 ∨ 16 ≤ n ∧ n ≤ 63 := by
  simp [mayWrite]

/-- A slot that its kind and usage allow, in its state, with more than one use left, takes one use (R402). -/
theorem useSlot_counted {n u : Nat} {s : State} (hkind : (s.keySlot n).kind ≠ 0) (hbad : (s.keySlot n).bad = false)
    (husage : bit (s.keySlot n).usage u = true) (hstate : (s.keySlot n).inState s.life.lifecycle = true)
    (hvolatile : (s.keySlot n).volatile = false) (hmax : (s.keySlot n).uses ≠ 0xFFFFFFFF) (hleft : (s.keySlot n).uses ≠ 0)
    (hlast : (s.keySlot n).uses ≠ 1) :
    s.useSlot n u = (0, s.onSlot n (fun k => { k with uses := k.uses - 1 })) := by
  simp [State.useSlot, *]

/-! What the journal keeps of the folio slots, and what erasing them leaves. -/

theorem folioSlot_journalPut (n : Nat) (r : JournalRec) (s : State) : (s.journalPut r).folioSlot n = s.folioSlot n := by
  have hadd (r : JournalRec) (s : State) : (s.journalAdd r).folioSlot n = s.folioSlot n := rfl
  unfold State.journalPut
  split
  · exact hadd r s
  · exact (hadd _ _).trans ((each_keeps (State.folioSlot n) hadd _ _).trans rfl)

theorem folioSlot_onFolio_self {n : Nat} (f : FolioSlot → FolioSlot) (s : State) :
    (s.onFolio n f).folioSlot n = f (s.folioSlot n) := by
  unfold State.onFolio State.folioSlot
  rw [onLife_life]
  by_cases h0 : n = 0
  · simp only [if_pos h0]
  · by_cases h1 : n = 1
    · simp only [if_neg h0, if_pos h1]
    · simp only [if_neg h0, if_neg h1]

/-- A slot's erasure (R394). -/
def State.eraseFolio (slot : Nat) (s : State) : State :=
  (((s.journalIntent (slotRegion slot)).journalDone (slotRegion slot)).journalSlot slot .empty 0).onFolio slot (fun _ => {})

theorem folioSlot_eraseFolio_self (n : Nat) (s : State) : (s.eraseFolio n).folioSlot n = {} := folioSlot_onFolio_self _ _

theorem folioSlot_onFolio_other {m n : Nat} (hm : m ≤ 2) (hn : n ≤ 2) (h : m ≠ n) (f : FolioSlot → FolioSlot) (s : State) :
    (s.onFolio n f).folioSlot m = s.folioSlot m := by
  unfold State.onFolio State.folioSlot
  rw [onLife_life]
  by_cases h0 : n = 0
  · simp only [if_pos h0, if_neg (show m ≠ 0 by omega)]
  · by_cases h1 : n = 1
    · simp only [if_neg h0, if_pos h1, if_neg (show m ≠ 1 by omega)]
    · have hlast : m = 0 ∨ m = 1 := by omega
      rcases hlast with rfl | rfl <;> simp [h0, h1]

theorem folioSlot_eraseFolio_other {m n : Nat} (hm : m ≤ 2) (hn : n ≤ 2) (h : m ≠ n) (s : State) :
    (s.eraseFolio n).folioSlot m = s.folioSlot m :=
  (folioSlot_onFolio_other hm hn h _ _).trans ((folioSlot_journalPut m _ _).trans
    ((folioSlot_journalPut m _ _).trans (folioSlot_journalPut m _ s)))

theorem retire_eq (s : State) : s.retire = (((s.eraseFolio 0).eraseFolio 1).eraseFolio 2).onLife (fun l =>
    { l with slots := [], helperBlown := true }) := by
  simp only [State.retire, State.eraseFolio, each_cons, each_nil]

/-- A device that retires holds no folio and no key (R394). -/
theorem retire_life (s : State) : s.retire.life.a = {} ∧ s.retire.life.b = {} ∧ s.retire.life.golden = {} ∧
    s.retire.life.slots = [] ∧ s.retire.life.helperBlown = true := by
  rw [retire_eq]
  generalize ht : ((s.eraseFolio 0).eraseFolio 1).eraseFolio 2 = t
  have h0 : t.folioSlot 0 = {} := by
    rw [← ht, folioSlot_eraseFolio_other (by decide) (by decide) (by decide),
      folioSlot_eraseFolio_other (by decide) (by decide) (by decide), folioSlot_eraseFolio_self]
  have h1 : t.folioSlot 1 = {} := by
    rw [← ht, folioSlot_eraseFolio_other (by decide) (by decide) (by decide), folioSlot_eraseFolio_self]
  have h2 : t.folioSlot 2 = {} := by rw [← ht, folioSlot_eraseFolio_self]
  exact ⟨h0, h1, h2, rfl, rfl⟩

theorem macUsage : [0, 1, 4, 2].getD 2 0 = 4 := rfl

/-- Settles O47: each command by its body, and the burn's end by the state it sets. -/
theorem keysAreKept : Obligations.KeysAreKept := by
  unfold Obligations.KeysAreKept
  refine ⟨?use, ?useBad, ?usedUp, ?info, ?load, ?loadBad, ?import_, ?derive, ?mac, ?macRefused, ?clear, ?status, ?transition,
    ?provision, ?provisionFails, ?burn, ?retire⟩
  case use =>
    rintro n u s k rfl hkind hbad husage hstate hvolatile hmax hleft hlast
    exact useSlot_counted hkind hbad husage hstate hvolatile hmax hleft hlast
  case useBad =>
    rintro n u s k rfl h
    exact if_pos (by rcases h with h | h | h <;> simp [h])
  case usedUp =>
    rintro n u s k rfl hkind hbad husage hstate hvolatile huses
    simp [State.useSlot, *]
  case info =>
    rintro rq s a p k hs rfl hlen hn hzero rfl
    exact exec_served hs rfl (require_pass _ _ (by simp [*]))
  case load =>
    rintro rq s a p hs rfl hmin hslot hzero hattr hlen
    refine exec_served hs rfl (require_pass _ _ ?_)
    have hsize : rq.payload.length = 16 + keyBytes (u8 (rq.payload.drop 4) 0) := hlen
    simp [hmin, mayWrite_iff.mpr hslot, hzero, hattr, ← hsize]
  case loadBad =>
    rintro rq s a p hs rfl hslot
    refine exec_served hs rfl (require_fail _ _ ?_)
    have hkept : mayWrite (u8 rq.payload 0) = false := by
      rw [← Bool.not_eq_true, mayWrite_iff]
      omega
    simp [hkept]
  case import_ =>
    rintro rq s a p at_ t hs rfl hmin hslot hkey hzero rfl hattr hlen huse
    refine exec_served hs rfl ?_
    simp only [keyImportBody, huse]
    rw [if_neg ?fields, if_neg (by simp)]
    case fields => simp (disch := omega) [mayWrite_iff.mpr hslot, hzero, hattr, hlen]; exact hkey
    cases Crypto.gcmOpen (t.keySlot (u8 rq.payload 1)).key ((rq.payload.drop 16).take 12) ((rq.payload.drop 4).take 12)
      (rq.payload.drop 44) ((rq.payload.drop 28).take 16) <;> rfl
  case derive =>
    rintro rq s a p at_ k hs rfl hlo hhi hroot h2 h3 hlen rfl hattr hkind rfl
    refine exec_served hs rfl ?_
    simp (disch := omega) [keyDeriveBody, if_neg, *]
  case mac =>
    rintro rq s a p t hs rfl hn hslot hop hlo hhi hlen huse
    refine exec_served hs rfl ?_
    simp only [keyUseBody, hop, macUsage, huse]
    simp (disch := omega) [if_neg, *]
  case macRefused =>
    rintro rq s a p t st hs rfl hn hslot hop hlo hhi hlen huse hst
    refine exec_served hs rfl ?_
    simp only [keyUseBody, hop, macUsage, huse]
    simp (disch := omega) [if_neg, *]
  case clear =>
    rintro rq s a p hs rfl hlen hslot hzero
    exact exec_served hs rfl (require_pass _ _ (by simp [hlen, mayWrite_iff.mpr hslot, hzero]))
  case status =>
    intro rq s a hs hp
    exact exec_served hs rfl (require_pass _ _ (by simp [hp]))
  case transition =>
    rintro rq s a p t hs rfl hlen hzero hserial hcode hnonce huse hnone hfield hto hentries
    refine exec_served hs rfl ?_
    simp only [lcTransitionBody, huse, hto]
    rw [if_neg (by simp [hlen, hzero, hserial, hcode, hnonce])]
    have hchange : t.lcChange 3 = .inl .service := by simp [State.lcChange, hfield, hentries]
    by_cases hverify : Crypto.verify (t.keySlot 2).key (Crypto.sha384 (rq.payload.take 16)) (rq.payload.drop 16) = true
    · simp [hverify, hnone, hchange]
      rfl
    · simp [hverify]
      rfl
  case provision =>
    rintro rq s a p hs rfl hlen hzero hnone
    refine ⟨((a.onLife (fun l => { l with
        nextLifecycle := some .factory
        k00Hash := Crypto.sha384 (rq.payload.take 97)
        k02Hash := Crypto.sha384 ((rq.payload.drop 97).take 97) })).onSlot 0 (fun _ => authorityKey (rq.payload.take 97))).onSlot 2
          (fun _ => authorityKey ((rq.payload.drop 97).take 97)), exec_served hs rfl ?_, rfl, rfl, rfl, ?_, ?_⟩
    · simp [lcProvisionBody, *]
    · rw [keySlot_onSlot_other _ _ (by decide), keySlot_onSlot_self]
      rfl
    · rw [keySlot_onSlot_self]
      rfl
  case provisionFails =>
    rintro rq s a p hs rfl hlen hzero hnone
    refine exec_served hs rfl ?_
    simp [lcProvisionBody, *]
  case burn =>
    intro s h
    change execFuseBurnDone s = _
    simp [execFuseBurnDone, h]
    rfl
  case retire =>
    intro s h
    have hburn : exec .fuseBurnDone s = .next ((s.retire.onLife (fun l => { l with
        lifecycle := .retired
        serviceEntries := l.serviceEntries + flag (Lifecycle.retired = .service)
        nextLifecycle := none })).resetBy 7) := by
      change execFuseBurnDone s = _
      simp only [execFuseBurnDone, h]
      rfl
    obtain ⟨ha, hb, hgolden, hslots, hblown⟩ := retire_life s
    generalize s.retire = t at *
    exact ⟨_, hburn, rfl, by simp [State.resetBy, Life.afterReset, hslots], hblown, congrArg FolioSlot.state ha,
      congrArg FolioSlot.state hb, congrArg FolioSlot.state hgolden⟩

end Sys2Proof.Machine

/-! Folios (R404 to R416): the end of a store that a check stopped also releases the HOLD that the links still have, since the
engine no longer writes flash (R163); the clause names no such release. -/

namespace Sys2Proof.Machine

/-- A device whose folio store failed a check while a link still holds VC2. -/
def holdingStore : State :=
  { life := { store := some { reason := 1 } }, mem := { matrixWhy := .none }, vox := { links := [(0, { holding := 4 })] } }

/-- What the clause gives for that device: the store's end without the release. -/
def holdingStoreEnded : State :=
  (((holdingStore.onLife (fun l => { l with store := none })).raise 13 2 0 (bytes [1])).fault 0x271 0xA1 0).complete {}
    (reasonResult 1) (bytes [1, 0, 0, 0] ++ leBytes 4 0)

theorem holdingStore_released : ((folioStoreDone true holdingStore).link 0).holding = 0 := by decide

theorem holdingStoreEnded_holds : (holdingStoreEnded.link 0).holding = 4 := by decide

/-- Refutes O48: where a store's check failed while a link holds VC2, the store's end releases the hold, which the clause for a
failed store leaves out. -/
theorem not_foliosAct : ¬ Obligations.FoliosAct := by
  unfold Obligations.FoliosAct
  rintro ⟨-, -, -, -, -, hfailed, -⟩
  have hexec : exec (.folioStoreDone true) holdingStore = .next holdingStoreEnded :=
    hfailed holdingStore { reason := 1 } rfl rfl (by decide)
  have hstate : folioStoreDone true holdingStore = holdingStoreEnded := Host.Outcome.next.inj hexec
  have hlink := holdingStore_released
  rw [hstate, holdingStoreEnded_holds] at hlink
  exact absurd hlink (by decide)

end Sys2Proof.Machine

/-! Resets and the phases of start-up (R394 to R434). -/

namespace Sys2Proof.Machine

@[simp] theorem inPhase_at {n : Nat} {s : State} (h : s.boot.phase = n) (f : State → State) : s.inPhase n f = f s := if_pos h

/-- The check of a key slot changes no more of the life cycle than the slots, and the keep memory not at all. -/
theorem checkKey_keeps (n : Nat) (hash : List Byte) (s : State) :
    (s.checkKey n hash).life.secretOk = s.life.secretOk ∧ (s.checkKey n hash).keep = s.keep := by
  have hfault (t : State) : (t.fault 0x270 0xA0 n).settings = t.settings := settings_fault t _ _ _
  unfold State.checkKey
  split
  · exact ⟨rfl, rfl⟩
  · exact ⟨(congrArg (fun t : State => t.life.secretOk) (hfault _) :), (congrArg State.keep (hfault _) :)⟩

theorem stack_onStack_self (n : Nat) (f : Stack → Stack) (s : State) : (s.onStack n f).stack n = f (s.stack n) := by
  simp [State.stack, State.onStack]

theorem stack_onStack_other {m n : Nat} (f : Stack → Stack) (s : State) (h : m ≠ n) : (s.onStack n f).stack m = s.stack m := by
  simp [State.stack, State.onStack, Tbl.at_upd_other _ _ _ _ h]

/-- Every stack that was trained in turn is trained. -/
theorem trained_each {l : List Nat} {n : Nat} (h : n ∈ l) (s : State) :
    ((each l (fun n s => s.onStack n (fun k => { k with trained := true })) s).stack n).trained = true := by
  have hkept (l : List Nat) : ∀ s : State, (s.stack n).trained = true →
      ((each l (fun n s => s.onStack n (fun k => { k with trained := true })) s).stack n).trained = true := by
    induction l with
    | nil => exact fun s h => h
    | cons a l ih =>
      refine fun s h => ih _ ?_
      by_cases hn : n = a
      · rw [hn, stack_onStack_self]
      · rwa [stack_onStack_other _ _ hn]
  induction l generalizing s with
  | nil => cases h
  | cons a l ih =>
    rcases List.mem_cons.mp h with rfl | h
    · exact hkept l _ (by rw [stack_onStack_self])
    · exact ih h _

/-- Settles O49: each reset by what it keeps, each phase by where it goes. -/
theorem startUpProceeds : Obligations.StartUpProceeds := by
  unfold Obligations.StartUpProceeds
  refine ⟨?powerOn, ?powerLoss, ?pwrgood, ?resetN, ?reset, ?volatile, ?release, ?clocks, ?fuses, ?fusesBlank, ?fusesRetired, ?root,
    ?rootFails, ?journal, ?folio, ?folioFails, ?dram, ?dramFails, ?load, ?loadFails, ?lanesFlash, ?lanesKeep, ?restore, ?ports,
    ?profile⟩
  case powerOn => exact fun s => ⟨_, rfl, rfl, rfl, rfl, rfl, rfl, rfl⟩
  case powerLoss => exact fun s => ⟨_, rfl, rfl, rfl, rfl⟩
  case pwrgood => exact fun s h => congrArg Host.Outcome.next (if_neg (by simp [h]))
  case resetN => exact fun s h => congrArg Host.Outcome.next (if_neg (by simp [h]))
  case reset =>
    intro c s hc
    have hlost : decide (c ≤ 2) = false := decide_eq_false (by omega)
    refine ⟨?_, ?_, rfl, rfl, rfl, rfl, rfl, fun h => if_neg h⟩
    · simp [State.resetBy, hlost]
    · simp [State.resetBy, hlost]
  case volatile =>
    intro n s k h
    simp only [State.resetBy, Life.afterReset, h]
    cases hvolatile : k.volatile <;> simp [hvolatile]
  case release =>
    rintro x at_ s t rfl hoff hphase
    refine ⟨_, congrArg Host.Outcome.next (if_neg (by rw [hoff, hphase]; decide)), rfl, rfl, rfl, rfl, rfl, rfl⟩
  case clocks =>
    intro at_ s h
    refine congrArg Host.Outcome.next ?_
    simp [h]
  case fuses =>
    intro at_ s h hfield
    refine congrArg Host.Outcome.next ?_
    simp [h, hfield]
  case fusesBlank =>
    intro at_ s h hblank
    refine congrArg Host.Outcome.next ?_
    simp [h, hblank]
  case fusesRetired =>
    intro at_ s h hretired
    refine congrArg Host.Outcome.next ?_
    simp [h, hretired]
  case root =>
    intro n at_ s h hlo hhi hblown
    refine ⟨phaseRoot n (s.advance at_), congrArg Host.Outcome.next (if_pos (by simpa using h)), ?_⟩
    have hgood : ¬ (n = 0 || n > 4 || s.life.helperBlown) = true := by
      simp [hblown]
      omega
    simp only [phaseRoot, onMem_life, onKeep_life, life_advance, if_neg hgood]
    refine ⟨rfl, ?_, ?_⟩
    · exact (checkKey_keeps 2 _ _).1.trans (checkKey_keeps 0 _ _).1
    · exact congrArg KeepMem.bootCounter ((checkKey_keeps 2 _ _).2.trans (checkKey_keeps 0 _ _).2)
  case rootFails =>
    intro n at_ s h hn
    refine ⟨phaseRoot n (s.advance at_), congrArg Host.Outcome.next (if_pos (by simpa using h)), ?_⟩
    have hfails : (n = 0 || n > 4 || (s.advance at_).life.helperBlown) = true := by
      rcases hn with hn | hn <;> simp [hn]
    simp only [phaseRoot, onMem_life, onKeep_life, hfails, if_true]
    rfl
  case journal =>
    intro at_ s h hintent ha hb hgolden
    refine congrArg Host.Outcome.next ?_
    simp [h, phaseJournal, hintent, State.folioSlot, ha, hb, hgolden]
  case folio =>
    intro at_ s h hsrc hslot htrial htried ha htrained
    refine congrArg Host.Outcome.next ?_
    have huntrained : ¬ ∀ n < 4, ((s.advance at_).stack n).trained = true :=
      fun hall => absurd ((hall 0 (by decide)).symm.trans (by simpa [State.stack] using htrained 0 (by decide))) (by decide)
    simp [h, phaseFolio, hsrc, hslot, htrial, htried, State.slotOrder, State.skipInvalid, State.folioSlot, ha, huntrained]
  case folioFails =>
    intro at_ s h hsrc hslot htrial htried ha
    refine congrArg Host.Outcome.next ?_
    simp [h, phaseFolio, hsrc, hslot, htrial, htried, State.slotOrder, State.skipInvalid, State.folioSlot, ha]
  case dram =>
    intro at_ s h hpending
    refine ⟨phaseDram none (s.advance at_), congrArg Host.Outcome.next (if_pos (by simpa using h)), ?_⟩
    have hnext : (if (s.advance at_).life.pendingLoad = 255 then 0xF3 else 8) = 8 := if_neg (by simpa using hpending)
    refine ⟨hnext, fun n hn => ?_⟩
    exact trained_each (List.mem_range.mpr hn) (s.advance at_)
  case dramFails =>
    intro k at_ s h
    refine ⟨phaseDram (some k) (s.advance at_), congrArg Host.Outcome.next (if_pos (by simpa using h)), rfl⟩
  case load =>
    intro at_ s h
    refine congrArg Host.Outcome.next ?_
    simp [h, phaseLoad]
  case loadFails =>
    rintro at_ s t rfl h
    refine congrArg Host.Outcome.next ?_
    simp [h, phaseLoad]
  case lanesFlash =>
    intro at_ s x h hflash hok
    refine congrArg Host.Outcome.next ?_
    simp [h, phaseLanes, hflash, hok, State.onLanes]
  case lanesKeep =>
    intro at_ s x h hflash hkeep hok
    refine congrArg Host.Outcome.next ?_
    simp [h, phaseLanes, hflash, hkeep, hok, State.onLanes]
  case restore =>
    intro at_ s h hkeep
    refine congrArg Host.Outcome.next ?_
    simp [h, phaseRestore, restoreProfile, hkeep]
  case ports =>
    intro at_ s h hsticky hheld hfallbacks hlinks
    refine congrArg Host.Outcome.next ?_
    simp [h, phasePorts, State.takeHeld, State.toPhase, hsticky, hheld, hfallbacks, hlinks]
    rfl
  case profile =>
    rintro at_ s t d rfl hdue hnow hphase
    refine congrArg Host.Outcome.next ?_
    simp only [profileWrite, hdue]
    exact if_pos (by simpa [hnow] using hphase)

end Sys2Proof.Machine

/-! The ring registers and the serial ports (R44 to R53). -/

namespace Sys2Proof.Machine

theorem onPcie_congr {side : PcieSide} {s : State} {f g : PciePort → PciePort} (h : f (s.pcie side) = g (s.pcie side)) :
    s.onPcie side f = s.onPcie side g := by
  cases side
  · simp only [State.onPcie, State.onPorts, show f s.ports.cpa = g s.ports.cpa from h]
  · simp only [State.onPcie, State.onPorts, show f s.ports.cpb = g s.ports.cpb from h]

/-- Settles O1: each register's write, by the register. -/
theorem ringRegistersAct : Obligations.RingRegistersAct := by
  unfold Obligations.RingRegistersAct
  refine ⟨?cmdBell, ?cmdBellOff, ?evtBell, ?evtBellBeyond, ?cmdEn, ?evtEn, ?evtEnAgain, ?err, ?remap⟩
  case cmdBell =>
    intro side index s hon hring
    refine congrArg Host.Outcome.next ((if_pos hon).trans ?_)
    unfold cmdDoorbell
    exact onPcie_congr (by simp [hring])
  case cmdBellOff =>
    intro side index s hon hring
    refine congrArg Host.Outcome.next ((if_pos hon).trans ?_)
    unfold cmdDoorbell
    exact onPcie_congr (by simp [hring])
  case evtBell =>
    intro side index s hon hroom
    exact congrArg Host.Outcome.next ((if_pos hon).trans (if_neg (Nat.not_lt.mpr hroom)))
  case evtBellBeyond =>
    intro side index s hon hbeyond
    exact congrArg Host.Outcome.next ((if_pos hon).trans (if_pos hbeyond))
  case cmdEn => exact fun side s hon => congrArg Host.Outcome.next (if_pos hon)
  case evtEn => exact fun side s hon hoff => congrArg Host.Outcome.next (if_pos (by simp [hon, hoff]))
  case evtEnAgain => exact fun side s hon hring => congrArg Host.Outcome.next (if_neg (by simp [hring]))
  case err => exact fun side s hon => congrArg Host.Outcome.next (if_pos hon)
  case remap => exact fun remap s => rfl

/-- The instructions of the TAP other than the EXTEST ones drive nothing. -/
theorem tapInstruction_plain {ir : Byte} (h0 : ir ≠ 0) (h3 : ir ≠ 3) (h4 : ir ≠ 4) (s : State) :
    tapInstruction ir s = s.onCpt (fun p => { p with ir := ir, extest := false, pulsing := false }) := by
  simp only [tapInstruction, decide_eq_false h0, decide_eq_false h3, decide_eq_false h4, Bool.or_self, Bool.false_and]

/-- Settles O3: each transaction's answer, by the port's state. -/
theorem serialPortsAnswer : Obligations.SerialPortsAnswer := by
  unfold Obligations.SerialPortsAnswer
  refine ⟨?window, ?reply, ?noReply, ?status, ?pktOut, ?tapWindow, ?bypass, ?idcode, ?sample, ?extest, ?pulse, ?train, ?select, ?update⟩
  case window => exact fun address count s hon => congrArg Host.Outcome.next (if_pos hon)
  case reply =>
    intro s r rs hon hreplies
    refine congrArg Host.Outcome.next ((if_pos hon).trans ?_)
    simp only [replyRead, hreplies]
  case noReply =>
    intro s hon hreplies
    refine congrArg Host.Outcome.next ((if_pos hon).trans ?_)
    simp only [replyRead, hreplies]
  case status =>
    intro s hon
    refine congrArg Host.Outcome.next ((if_pos hon).trans ?_)
    cases h : s.ports.cpm.replies <;> simp only [portStatus, h] <;> rfl
  case pktOut =>
    intro s r rs hon hqueue
    refine congrArg Host.Outcome.next ((if_pos hon).trans ?_)
    rw [tapInstruction_plain (by decide) (by decide) (by decide)]
    simp only [pktOut, State.onCpt, onPorts_ports, hqueue]
    rfl
  case tapWindow =>
    intro s hon
    refine congrArg Host.Outcome.next ((if_pos hon).trans ?_)
    rw [tapInstruction_plain (by decide) (by decide) (by decide)]
  case bypass =>
    intro s
    refine congrArg Host.Outcome.next ?_
    rw [tapInstruction_plain (by decide) (by decide) (by decide)]
  case idcode =>
    intro s
    refine congrArg Host.Outcome.next ?_
    rw [tapInstruction_plain (by decide) (by decide) (by decide)]
  case sample => exact fun bits s => ⟨_, rfl, rfl, rfl⟩
  case extest => exact fun bits s => rfl
  case pulse => exact fun bits s => rfl
  case train => exact fun bits s => rfl
  case select => exact fun s => rfl
  case update => exact fun ir s => rfl

end Sys2Proof.Machine

/-! The commands of class 0x0, packets taken over the serial ports, the timed list and the heartbeat (R39, R40, R42, R51, R56). -/

namespace Sys2Proof.Machine

/-- A packet whose checks pass and which may run goes to the queue. -/
theorem receive_run {rq n : Request} {b : List Byte} {s u : State} (hserving : s.serving rq.port = true)
    (hroom : s.replyRoom rq.port = true) (hlength : lengthOk b = true) (hcrc : crcOk b = true)
    (hn : n = { requestOf rq.port b with slot := rq.slot, replyAddr := rq.replyAddr, replyBytes := rq.replyBytes, vc := rq.vc, txid := rq.txid })
    (hu : u = s.received rq) (hrun : verdict (u16 b 0) n u = .run) :
    s.receive rq b true = (u.takeIn n).enqueue (u16 b 0) n := by
  subst hn hu
  simp only [State.received] at hrun
  simp only [State.receive, hserving, hroom, hlength, hcrc, hrun, State.received]
  rfl

/-- A well-formed request with an opcode of no class is refused with BAD_OPCODE. -/
theorem verdict_badOpcode {op : Nat} {rq : Request} {s : State} (hheader : headerOk rq s = true) (hclass : opClass op = none) :
    verdict op rq s = .refuse stBadOpcode [] := by
  simp [verdict, hheader, hclass]

/-- The list's only entry, once due, is the one that runs. -/
theorem runDue_only {s : State} {e : Timed} (k : Nat) (htimed : s.ports.timed = [e]) (hpaused : s.life.paused = none)
    (hdue : e.due * 1000 ≤ s.now) :
    State.runDue (k + 1) s = State.runDue k ((s.onPorts (fun p => { p with timed := [] })).runTimed e) := by
  simp [State.runDue, htimed, hpaused, hdue]

/-- A heartbeat's count, before the window is taken. -/
def countBeat (s : State) : State := s.onPorts (fun p => { p with heartbeat := p.heartbeat + 1 })

/-- Where the ports are awake and no link is due for a new training, a heartbeat counts and takes the window. -/
theorem heartbeat_awake {s : State} (hphase : 3 ≤ s.boot.phase) (hawake : s.portsAwake = true) (hretrain : s.twin.retrainDue = false) :
    heartbeat s = (countBeat s).onPorts (fun p => { p with shadow := (countBeat s).windowNow }) := by
  have hon : s.power.off = false := by
    simp only [State.portsAwake, Bool.and_eq_true, Bool.not_eq_true'] at hawake
    exact hawake.2
  have hready : ((decide ((countBeat s).boot.phase < 3)) || !(countBeat s).portsAwake) = false := by
    have hawake' : (countBeat s).portsAwake = true := hawake
    have hphase' : 3 ≤ (countBeat s).boot.phase := hphase
    simp [hawake', hphase']
  have htwin : (countBeat s).twin.retrainDue = false := hretrain
  calc heartbeat s
      = if (decide ((countBeat s).boot.phase < 3) || !(countBeat s).portsAwake) = true then countBeat s
        else (if (countBeat s).twin.retrainDue then retrainLinks (countBeat s) else countBeat s).onPorts (fun p =>
          { p with shadow := (if (countBeat s).twin.retrainDue then retrainLinks (countBeat s) else countBeat s).windowNow }) :=
        if_neg (by simp [hon])
    _ = _ := by rw [hready, htwin]; rfl

/-- The window shows nothing of the window that stands. -/
theorem windowNow_shadow (s : State) (w : List Byte) : (s.onPorts (fun p => { p with shadow := w })).windowNow = s.windowNow := rfl

/-- Settles O4: each command's answer from its fields, then the transports, the timed list and the heartbeat. -/
theorem interpreterCommandsAnswer : Obligations.InterpreterCommandsAnswer := by
  unfold Obligations.InterpreterCommandsAnswer
  refine ⟨?info, ?status, ?events, ?counters, ?echo, ?noOpcode, ?cpm, ?cpt, ?timed, ?beat⟩
  case info =>
    intro rq s a hs hempty
    exact exec_served hs rfl (require_pass _ _ (by simp [hempty]))
  case status =>
    intro rq s a hs hlen hzero hone hend
    exact exec_served hs rfl (require_pass _ _ (by simp [*]; omega))
  case events =>
    intro rq s a hs hlen hring hn hmsix hzero
    refine exec_served hs rfl (require_pass _ _ ?_)
    simp [*, or_assoc]
  case counters =>
    intro rq s a hs hlen hzero hport
    exact exec_served hs rfl (require_pass _ _ (by simp [*]))
  case echo =>
    intro rq s a hs
    exact exec_served hs rfl rfl
  case noOpcode =>
    intro op rq s hlisten hheader hclass
    exact congrArg Host.Outcome.next (command_refused _ hlisten (verdict_badOpcode hheader hclass))
  case cpm =>
    intro packet s hserving hroom hlength hcrc hrun
    exact congrArg Host.Outcome.next (receive_run (rq := { port := .cpm }) hserving hroom hlength hcrc rfl rfl hrun)
  case cpt =>
    intro packet s t ht hserving hroom hlength hcrc hrun
    have htap : tapInstruction 0x40 s = t := (tapInstruction_plain (by decide) (by decide) (by decide) s).trans ht.symm
    refine congrArg Host.Outcome.next ((congrArg (fun u : State => u.receive _ packet true) htap).trans ?_)
    exact receive_run (rq := { port := .cpt }) hserving hroom hlength hcrc rfl rfl hrun
  case timed =>
    intro at_ s e htimed hpaused hdue
    refine congrArg Host.Outcome.next ?_
    rw [timedDue, htimed]
    exact runDue_only 0 htimed hpaused hdue
  case beat =>
    intro at_ s hphase hawake hretrain
    exact ⟨_, congrArg Host.Outcome.next (heartbeat_awake (s := s.advance at_) hphase hawake hretrain), rfl,
      (windowNow_shadow (countBeat (s.advance at_)) _).symm⟩

end Sys2Proof.Machine

/-! The commands of the Voxad links (R157, R158, R168). -/

namespace Sys2Proof.Machine

/-- Every code from 1 to 4 names a role that a link works in. -/
theorem linkRoleOf_ne_off {code : Nat} (hlow : 1 ≤ code) (hhigh : code ≤ 4) : linkRoleOf code ≠ .off := by
  obtain rfl | rfl | rfl | rfl : code = 1 ∨ code = 2 ∨ code = 3 ∨ code = 4 := by omega
  all_goals decide

/-- The lanes that a LINK_CONFIG names are free for the link: in role VOXAD and on no other link. -/
theorem lanesFree {s : State} {n first w : Nat}
    (h : ∀ i, i < w → (s.lane (first + i)).role = .voxad ∧ ∀ k ∈ s.linksOn (first + i), k = n) :
    ((List.range w).map (fun i => first + i)).any (fun m => (s.lane m).role != .voxad || (s.linksOn m).any (fun k => k != n)) = false := by
  simp only [List.any_eq_false, List.mem_map, List.mem_range]
  rintro m ⟨i, hi, rfl⟩
  obtain ⟨hrole, honly⟩ := h i hi
  simp only [hrole, bne_self_eq_false, Bool.false_or, Bool.not_eq_true, List.any_eq_false]
  exact fun k hk => by simp [honly k hk]

theorem lanesTaken {s : State} {n first w i : Nat} (hi : i < w) (hrole : (s.lane (first + i)).role ≠ .voxad) :
    ((List.range w).map (fun i => first + i)).any (fun m => (s.lane m).role != .voxad || (s.linksOn m).any (fun k => k != n)) = true := by
  refine List.any_eq_true.mpr ⟨first + i, List.mem_map_of_mem (List.mem_range.mpr hi), ?_⟩
  simp [hrole]

/-- Settles O20: each command's answer from its fields and the link's state. -/
theorem linkCommandsAct : Obligations.LinkCommandsAct := by
  unfold Obligations.LinkCommandsAct
  refine ⟨?config, ?configTaken, ?status, ?counters, ?retrain, ?retrainUp⟩
  case config =>
    rintro rq s a p n hs rfl hlen rfl hn hrole hwidth hfirst haligned hlow hhigh hflags hzero hlanes hoff
    refine exec_served hs rfl ?_
    simp (disch := omega) [linkConfigBody, linkRoleOf, lanesFree hlanes, if_neg, *]
  case configTaken =>
    rintro rq s a p i hs rfl hlen hn hrole hrole' hwidth hfirst haligned hlow hhigh hflags hzero hi hlane
    refine exec_served hs rfl ?_
    have hrun := linkRoleOf_ne_off hrole hrole'
    simp (disch := omega) [linkConfigBody, lanesTaken hi hlane, if_neg, stWrongState, *]
  case status =>
    rintro rq s a p hs rfl hlen hn hzero
    exact exec_served hs rfl (require_pass _ _ (by simp [*]; omega))
  case counters =>
    rintro rq s a p hs rfl hlen hn hzero
    exact exec_served hs rfl (require_pass _ _ (by simp [*]; omega))
  case retrain =>
    rintro rq s a p n hs rfl hlen rfl hn hforce hzero hrole hdown
    refine exec_served hs rfl ?_
    simp (disch := omega) [linkRetrainBody, State.linkLeave, if_neg, *]
  case retrainUp =>
    rintro rq s a p n hs rfl hlen rfl hn hforce hzero hrole hup
    refine exec_served hs rfl ?_
    simp (disch := omega) [linkRetrainBody, bit, if_neg, *]

end Sys2Proof.Machine

/-! The instructions of the Chord engines (R237 to R245). -/

namespace Sys2Proof.Machine

/-- A value too large for the width saturates at the largest. -/
theorem satTo_above {n : Nat} {v : Int} (h : 2 ^ (n - 1) ≤ v) : satTo n v = 2 ^ (n - 1) - 1 := by
  have hpos : (0 : Int) < 2 ^ (n - 1) := by positivity
  have hlow : ¬ v < -(2 ^ (n - 1)) := by omega
  have hover : v > 2 ^ (n - 1) - 1 := by omega
  simp only [satTo, clamp, if_neg hlow, if_pos hover]

theorem satTo_within {n : Nat} {v : Int} (hlow : -(2 ^ (n - 1)) ≤ v) (hhigh : v < 2 ^ (n - 1)) : satTo n v = v := by
  have hover : ¬ v > 2 ^ (n - 1) - 1 := by omega
  simp only [satTo, clamp, if_neg (Int.not_lt.mpr hlow), if_neg hover]

/-- Settles O31: each instruction by its opcode and the selection bits of its operands. -/
theorem chordInstructionsAct : Obligations.ChordInstructionsAct := by
  unfold Obligations.ChordInstructionsAct
  refine ⟨?saturates, ?add, ?sub, ?neg, ?swap, ?mac, ?clr, ?index, ?read, ?write, ?tend⟩
  case saturates =>
    intro n re im r hre hlow hhigh
    have hsat : satTo 40 re = 2 ^ 39 - 1 := satTo_above hre
    have him : satTo 40 im = im := satTo_within hlow hhigh
    refine ⟨?_, ?_⟩
    · refine (Tbl.at_put_self _ _ _ _).trans ?_
      simp [regPart, hsat, him]
    · have hover : satTo 40 re ≠ re := by omega
      simp [Run.setReg, regPart, hover, him]
  case add =>
    intro i r hop hx hy
    simp [Run.step, Run.opX, Run.opY, cHasX, cHasY, hop, hx, hy]
  case sub =>
    intro i r hop hx hy
    simp [Run.step, Run.opX, Run.opY, cHasX, cHasY, hop, hx, hy]
  case neg =>
    intro i r hop hx
    simp [Run.step, Run.opX, cHasX, cHasY, hop, hx]
  case swap =>
    intro i r hop hx
    simp [Run.step, Run.opX, cHasX, cHasY, hop, hx]
  case mac =>
    rintro i r x y o hop hx hy hconj hneg rfl rfl rfl
    simp [Run.step, Run.opX, Run.opY, cHasX, cHasY, hop, hx, hy, hconj, hneg]
  case clr =>
    intro i r hop
    have hstep : r.step i = r.setAcc (bits i 57 56) 0 0 := by simp [Run.step, hop]
    rw [hstep]
    exact Tbl.at_put_self _ _ _ _
  case index =>
    intro k g hlen
    simp [Gen.advance, hlen]
  case read =>
    intro a r ha
    have hout : ¬ a < (r.dmSize : Int) := Int.not_lt.mpr ha
    simp [Run.read, hout]
  case write =>
    intro a v r ha
    have hout : ¬ a < (r.dmSize : Int) := Int.not_lt.mpr ha
    simp [Run.write, hout]
  case tend =>
    intro code k pc r hop
    exact if_pos hop

end Sys2Proof.Machine

/-! The commands of class 0x9 (R306 to R331). -/

namespace Sys2Proof.Machine

/-- Settles O37: each command's answer from its fields. -/
theorem timeCommandsAct : Obligations.TimeCommandsAct := by
  unfold Obligations.TimeCommandsAct
  refine ⟨?read, ?set, ?setLocked, ?refConfig, ?refGlobal, ?refStatus, ?ptpConfig, ?ptpStatus, ?trim, ?trimBeyond, ?captureConfig,
    ?captureRead, ?clkmon, ?clkmonFast, ?clocks, ?tc⟩
  case read =>
    intro rq s a hs hempty
    exact exec_served hs rfl (require_pass _ _ (by simp [hempty]))
  case set =>
    rintro rq s a p hs rfl hlen hns hzero hstate
    refine exec_served hs rfl ?_
    have hns' : nsOk rq.payload 8 = true := decide_eq_true hns
    rcases hstate with h | h | h <;> simp [timeSetBody, hlen, hns', hzero, h]
  case setLocked =>
    rintro rq s a p hs rfl hlen hns hzero hstate hselected
    refine exec_served hs rfl ?_
    have hns' : nsOk rq.payload 8 = true := decide_eq_true hns
    rcases hselected with h | h | h <;> simp [timeSetBody, hlen, hns', hzero, hstate, h, stWrongState]
  case refConfig =>
    rintro rq s a p i hs rfl hlen rfl hi hclass hten hten' hlane hzero hzero'
    refine exec_served hs rfl ?_
    simp (disch := omega) [refConfigBody, if_neg, *]
  case refGlobal =>
    rintro rq s a p hs rfl hlen h1 h2 h3 h4 h5 h6 h7 h8 h9
    exact exec_served hs rfl (require_pass _ _ (by simp [*]))
  case refStatus =>
    intro rq s a i hs hempty hselected
    refine exec_served hs rfl ((require_pass _ _ (by simp [hempty])).trans ?_)
    rw [hselected]
    rfl
  case ptpConfig =>
    rintro rq s a p hs rfl hlen h1 h2 h3 h4 h5
    exact exec_served hs rfl (require_pass _ _ (by simp [*]))
  case ptpStatus =>
    rintro rq s a p i hs rfl hlen hport hzero rfl
    exact exec_served hs rfl (require_pass _ _ (by simp [*]))
  case trim =>
    rintro rq s a p hs rfl hlen hlow hhigh hstate
    refine exec_served hs rfl ((require_pass _ _ (by simp [hlen]; omega)).trans ?_)
    simp [State.onRef, hstate]
  case trimBeyond =>
    rintro rq s a p hs rfl hlen hbeyond
    exact exec_served hs rfl (require_fail _ _ (by simp [hlen]; omega))
  case captureConfig =>
    rintro rq s a p hs rfl hlen hmask hzero
    exact exec_served hs rfl (require_pass _ _ (by simp [*]))
  case captureRead =>
    rintro rq s a p n hs rfl hlen rfl hone hmax hzero
    exact exec_served hs rfl (require_pass _ _ (by simp [*]))
  case clkmon =>
    rintro rq s a p hz hs rfl hlen hzero hsource hrate hplain
    exact exec_served hs rfl (require_pass _ _ (by simp [*]))
  case clkmonFast =>
    rintro rq s a p hz hs rfl hlen hzero hsource hrate
    exact exec_served hs rfl (require_fail _ _ (by simp [*]))
  case clocks =>
    rintro rq s a good hs hempty rfl
    exact exec_served hs rfl (require_pass _ _ (by simp [hempty]))
  case tc =>
    rintro rq s a p hs rfl hlen hlow hhigh hjam hmode hzero
    exact exec_served hs rfl (require_pass _ _ (by simp [*]; omega))

end Sys2Proof.Machine

/-! The commands of class 0xB (R353 to R365). -/

namespace Sys2Proof.Machine

/-- While FAULT_N is high there is no pin to let go. -/
theorem settlePin_high {now : Nat} {f : Faults} (h : f.pinLow = false) : settlePin now f = f := by
  simp [settlePin, h]

/-- Settles O44: each command's answer from its fields and the collector's state. -/
theorem faultCommandsAct : Obligations.FaultCommandsAct := by
  unfold Obligations.FaultCommandsAct
  refine ⟨?readNone, ?read, ?severity, ?severityOwn, ?counters, ?ack, ?clear, ?clearActive, ?pin, ?pinSelf, ?status, ?inject, ?snapshot,
    ?snapshotNone⟩
  case readNone =>
    rintro rq s a p l hs rfl hlen hone hmax hzero hl hnone
    refine exec_served hs rfl ((require_pass _ _ (by simp [*])).trans ?_)
    simp only [← hl, hnone]
    rfl
  case read =>
    rintro rq s a p l e hs rfl hlen hone hmax hzero hl hlast
    refine exec_served hs rfl ((require_pass _ _ (by simp [*])).trans ?_)
    simp only [← hl, hlast]
  case severity =>
    rintro rq s a p hs rfl hlen hcount hone hmax hzero hsource hknown hown
    refine exec_served hs rfl ((require_pass _ _ ?_).trans ?_)
    · simp [sourceRange, *]
      omega
    · simp [hcount]
  case severityOwn =>
    rintro rq s a p hs rfl hlen hcount hown
    exact exec_served hs rfl (require_fail _ _ (by simp [*]))
  case counters =>
    rintro rq s a p hs rfl hlen hone hmax hend
    exact exec_served hs rfl (require_pass _ _ (by simp [sourceRange, *]))
  case ack =>
    rintro rq s a p hs rfl hlen hone hmax hend
    exact exec_served hs rfl (require_pass _ _ (by simp [sourceRange, *]))
  case clear =>
    intro rq s a hs hempty hself hactive hsafe
    refine exec_served hs rfl ?_
    have hnone : a.faults.active.any (fun e => e.2 = 5) = false := List.any_eq_false.mpr (fun e he => by simp [hactive e he])
    simp only [safeClearBody, hempty, hself, hnone, hsafe]
    rfl
  case clearActive =>
    intro rq s a e hs hempty he hfive
    refine exec_served hs rfl ?_
    have hsome : a.faults.active.any (fun e => e.2 = 5) = true := List.any_eq_true.mpr ⟨e, he, by simp [hfive]⟩
    simp [safeClearBody, hempty, hsome, stWrongState]
  case pin =>
    rintro rq s a p hs rfl hlen hmode hop hlow hhigh hzero hpin
    refine exec_served hs rfl ?_
    simp (disch := omega) [faultNControlBody, State.onFaults, if_neg, *]
    exact congrArg (fun f : Faults => ok { a with faults := f }) (settlePin_high rfl)
  case pinSelf =>
    rintro rq s a p hs rfl hlen hmode hop hlow hhigh hzero hself
    refine exec_served hs rfl ?_
    simp (disch := omega) [faultNControlBody, if_neg, stWrongState, *]
  case status =>
    rintro rq s a f hs hempty rfl
    exact exec_served hs rfl (require_pass _ _ (by simp [hempty]))
  case inject =>
    rintro rq s a p hs rfl hlen hsource hplain hinfo
    refine exec_served hs rfl ?_
    simp (disch := omega) [faultInjectBody, if_neg, *]
  case snapshot =>
    rintro rq s a p b hs rfl hlen hbank hzero hone hmax hzero' hshadow hend
    refine exec_served hs rfl ?_
    simp (disch := omega) [snapshotReadBody, if_neg, *]
  case snapshotNone =>
    rintro rq s a p hs rfl hlen hbank hzero hone hmax hzero' hkeep
    refine exec_served hs rfl ?_
    simp (disch := omega) [snapshotReadBody, if_neg, stWrongState, *]

end Sys2Proof.Machine

/-! The compatibility commands (R426). -/

namespace Sys2Proof.Machine

/-- A valid slot that is not older than the running one, while nothing is armed, is armed for 1 ms on. -/
theorem activate_now {op slot t : Nat} {rq : Request} {s : State} (hvalid : (s.folioSlot slot).state = .valid)
    (hversion : s.folioVersion ≤ (s.folioSlot slot).version) (hepoch : s.life.rollback ≤ epochOf (s.folioSlot slot).version)
    (hnone : s.life.activation = none) (hpaused : s.life.paused = none) :
    activate op slot true t rq s = accepted (s.onLife (fun l =>
      { l with activation := some { slot := slot, t := (s.now + 1000000 + 999999) / 1000000 * 1000000, handle := handleOf op rq } })) := by
  have hround : cdiv (s.now + 1000000) 1000000 = (s.now + 1000000 + 999999) / 1000000 := by
    unfold cdiv
    omega
  simp [activate, hround, hvalid, Nat.not_lt.mpr hversion, Nat.not_lt.mpr hepoch, hnone, hpaused]

/-- Settles O50: each command's answer from its fields. -/
theorem compatibilityCommandsAct : Obligations.CompatibilityCommandsAct := by
  unfold Obligations.CompatibilityCommandsAct
  refine ⟨?status, ?route, ?routeTaken, ?routeBeyond, ?reset, ?resetDue, ?activate⟩
  case status =>
    intro rq s a hs hempty
    exact exec_served hs rfl (require_pass _ _ (by simp [hempty]))
  case route =>
    rintro rq s a p e hs rfl hlen hdest hsrc rfl
    exact exec_served hs rfl (require_pass _ _ (by simp [*]))
  case routeTaken =>
    rintro rq s a p hs rfl hlen hdest hsrc hopen hplates htrunk
    refine ⟨_, exec_served hs rfl ((require_pass _ _ (by simp [*])).trans (routeSet_taken hopen htrunk hplates)), ?_⟩
    obtain ⟨hstand, -, -⟩ := routeTaken_keepsRoutes (u16 rq.payload 0) (Entry.mk (u16 rq.payload 2) 0 true false 0) a
    rw [hstand]
    rfl
  case routeBeyond =>
    rintro rq s a p hs rfl hlen hdest
    exact exec_served hs rfl (require_fail _ _ (by simp [hlen, hdest]))
  case reset =>
    intro rq s a hs hempty hnone
    refine exec_served hs rfl ((require_pass _ _ (by simp [hempty])).trans ?_)
    simp only [State.armReset, State.onBoot, hnone]
    rfl
  case resetDue =>
    rintro at_ s t u rfl hdue hnow
    refine congrArg Host.Outcome.next ?_
    simp only [hdue, if_pos hnow]
  case activate =>
    rintro rq s a p f hs rfl hlen hslot hzero rfl hvalid hversion hepoch hnone hpaused
    exact exec_served hs rfl ((require_pass _ _ (by simp [*])).trans (activate_now hvalid hversion hepoch hnone hpaused))

end Sys2Proof.Machine

/-! What a step is (R40 to R43). -/

namespace Sys2Proof.Machine

/-- Settles O51: the queue's front, the idle device, and a galley's front. -/
theorem stepsRunTheFront : Obligations.StepsRunTheFront := by
  unfold Obligations.StepsRunTheFront
  refine ⟨?front, ?idle, ?galley⟩
  case front =>
    intro c r s hpending
    simp only [step, hpending]
  case idle =>
    intro s hpending
    simp only [step, hpending]
  case galley =>
    rintro s k g q r body hpending hon hpaused hport rfl hgalley hbody
    simp only [step, hpending]
    refine congrArg Host.Outcome.next ?_
    simp [idle, hon, hpaused, hport, hgalley, hbody]

/-- Every instruction has a next state. -/
theorem exec_next (i : Instr) (s : State) : ∃ t, exec i s = .next t := by
  cases i <;> exact ⟨_, rfl⟩

/-- Settles O52: an empty queue leaves the device idle, and every instruction at the front has a next state. -/
theorem everyStepIsSafe : Obligations.EveryStepIsSafe := by
  unfold Obligations.EveryStepIsSafe
  intro s
  unfold State.StepSafe step
  split
  · exact ⟨_, rfl⟩
  · exact exec_next _ _

end Sys2Proof.Machine

/-! Admission's steps in their order (R40). -/

namespace Sys2Proof.Machine

/-- A SOLO device mirrors nothing. -/
theorem mirrors_solo {op : Nat} {rq : Request} {s : State} (hrole : s.twin.role = .solo) : s.mirrors op rq = false := by
  simp [State.mirrors, hrole]

section Steps

variable {op : Nat} {rq : Request} {s : State} (hheader : headerOk rq s = true) (hclass : opClass op ≠ none)
  (hdevice : opClass op = some .deviceOnly → deviceTraffic op rq s = true)

include hheader hclass hdevice

/-- What passes steps 3 and 4 is refused by step 5. -/
theorem verdict_unprivileged {st : Nat} (hpriv : privilege op rq s = some st) : verdict op rq s = .refuse st [] := by
  simpa [verdict, hheader, hclass, hpriv] using fun h hno => absurd (hdevice h) (by simp [hno])

variable (hpriv : privilege op rq s = none)

include hpriv

/-- What passes step 5 and names another node is forwarded. -/
theorem verdict_elsewhere (hme : s.isForMe rq = false) : verdict op rq s = .forward := by
  simpa [verdict, hheader, hclass, hpriv, hme] using hdevice

variable (hme : s.isForMe rq = true)

include hme

theorem verdict_unjoined (hjoined : s.unjoined rq = true) : verdict op rq s = .refuse stLinkLost [] := by
  simpa [verdict, hheader, hclass, hpriv, hme, hjoined] using hdevice

theorem verdict_invalidNow (hjoined : s.unjoined rq = false) (hvalid : validNow op rq.port s = false) :
    verdict op rq s = .refuse stLifecycle [] := by
  simpa [verdict, hheader, hclass, hpriv, hme, hjoined, hvalid] using hdevice

end Steps

section Later

variable {op : Nat} {rq : Request} {s : State} (hheader : headerOk rq s = true) (hclass : opClass op ≠ none)
  (hdevice : opClass op ≠ some .deviceOnly) (hpriv : privilege op rq s = none) (hme : s.isForMe rq = true)
  (hjoined : s.unjoined rq = false) (hvalid : validNow op rq.port s = true)

include hheader hclass hdevice hpriv hme hjoined hvalid

/-- Step 7 refuses a change that a standby does not take over its own ports. -/
theorem verdict_standby (hrole : s.twin.role = .standby) (hchange : stateChanging op = true) (haccepts : standbyAccepts op = false)
    (hport : rq.port = .cpa ∨ rq.port = .cpb ∨ rq.port = .cpm ∨ rq.port = .cpt) : verdict op rq s = .refuse stTwinStandby [] := by
  rcases hport with h | h | h | h <;>
    simp [verdict, hheader, hclass, hdevice, hpriv, hme, hjoined, h ▸ hvalid, hrole, hchange, haccepts, h]

variable (hrole : s.twin.role ≠ .standby)

include hrole

/-- Step 8 refuses a tag that is in the record. -/
theorem verdict_recorded {e : TagEntry} (htag : s.findTag (tagKey rq.port rq.originator) rq.tag = some e) :
    verdict op rq s = .refuse stDuplicate (leBytes 1 e.status ++ [0] ++ leBytes 2 e.length) := by
  simp [verdict, hheader, hclass, hdevice, hpriv, hme, hjoined, hvalid, hrole, htag]

variable (htag : s.findTag (tagKey rq.port rq.originator) rq.tag = none)

include htag

/-- Step 9 refuses what its time does not allow. -/
theorem verdict_mistimed {st : Nat} {p : List Byte} (htime : timeVerdict op rq s = .refuse st p) : verdict op rq s = .refuse st p := by
  simp [verdict, hheader, hclass, hdevice, hpriv, hme, hjoined, hvalid, hrole, htag, htime]

variable (htime : timeVerdict op rq s = .run)

include htime

/-- Step 10 refuses a reply buffer that is too small for the command's largest reply. -/
theorem verdict_smallReply (hport : rq.port = .cpa ∨ rq.port = .cpb) (hsmall : rq.replyBytes < largestReply op + 20) :
    verdict op rq s = .refuse stBadLength [] := by
  simp [verdict, hheader, hclass, hdevice, hpriv, hme, hjoined, hvalid, hrole, htag, htime, hport, hsmall]

/-- Step 11 refuses what finds its galley full. -/
theorem verdict_fullGalley (hreply : (rq.port = .cpa ∨ rq.port = .cpb) → largestReply op + 20 ≤ rq.replyBytes)
    (hfull : 64 ≤ (s.galley rq.port).length) : verdict op rq s = .refuse stBusy [] := by
  simpa [verdict, hheader, hclass, hdevice, hpriv, hme, hjoined, hvalid, hrole, htag, htime, hfull] using hreply

/-- What passes every step runs. -/
theorem verdict_admitted (hreply : (rq.port = .cpa ∨ rq.port = .cpb) → largestReply op + 20 ≤ rq.replyBytes)
    (hroom : (s.galley rq.port).length < 64) : verdict op rq s = .run := by
  have hchecked : ((rq.port = .cpa || rq.port = .cpb) && rq.replyBytes < largestReply op + 20) = false := by simpa using hreply
  simp [verdict, hheader, hclass, hdevice, hpriv, hme, hjoined, hvalid, hrole, htag, htime, hchecked, hroom]

end Later

/-! Step 9 (R39, R40). -/

section Time

variable {op : Nat} {rq : Request} {s : State}

theorem timeVerdict_ownTime (hset : rq.etref ≠ 0) (hown : ownTime op = true) (hplain : bit rq.flags 3 = false) :
    timeVerdict op rq s = .refuse stBadParam [] := by
  simp [timeVerdict, hset, hown, hplain]

theorem timeVerdict_late (hset : rq.etref ≠ 0) (hown : ownTime op = false)
    (hlate : s.ahead rq.etref < 50 ∨ 2 ^ 31 ≤ s.ahead rq.etref) : timeVerdict op rq s = .refuse stLate [] := by
  have hlate' : (decide (s.ahead rq.etref < 50) || decide (s.ahead rq.etref ≥ 2 ^ 31)) = true := by simpa using hlate
  rw [timeVerdict, if_neg (by simp [hown]), if_neg hset]
  exact if_pos hlate'

theorem timeVerdict_full (hset : rq.etref ≠ 0) (hown : ownTime op = false) (hplain : bit rq.flags 3 = false)
    (hrole : s.twin.role = .solo) (hnear : 50 ≤ s.ahead rq.etref) (hfar : s.ahead rq.etref < 2 ^ 31) (hfull : 256 ≤ s.timedUsed) :
    timeVerdict op rq s = .refuse stBusy [] := by
  have hahead : ¬ (decide (s.ahead rq.etref < 50) || decide (s.ahead rq.etref ≥ 2 ^ 31)) = true := by simp; omega
  rw [timeVerdict, if_neg (by simp [hown]), if_neg hset]
  refine (if_neg hahead).trans ?_
  simp [mirrors_solo hrole, hplain, hfull]

end Time

/-- An admitted request leaves its counters and its tag, and nothing outside the ports. -/
theorem arrive_only (rq : Request) (s : State) : PortsOnly s (arrive rq s) :=
  ((count_only s _ _).trans (count_only _ _ _)).trans (onTags_only _ _ _)

/-- Settles O53: each step's answer, and the tag record that an admitted request leaves. -/
theorem admissionKeepsItsOrder : Obligations.AdmissionKeepsItsOrder := by
  unfold Obligations.AdmissionKeepsItsOrder
  have hnotStandby : ∀ {s : State}, s.twin.role = .solo → s.twin.role ≠ .standby := fun h => by simp [h]
  refine ⟨?header, ?opcode, ?privilege, ?forward, ?unjoined, ?lifecycle, ?standby, ?tag, ?ownTime, ?late, ?full, ?reply, ?galley, ?run,
    ?arrive⟩
  case header => exact fun op rq s hheader => by simp [verdict, hheader, stBadParam]
  case opcode => exact fun op rq s => verdict_badOpcode
  case privilege => exact fun op rq s st hh hc hd hp => verdict_unprivileged hh hc hd hp
  case forward => exact fun op rq s => verdict_elsewhere
  case unjoined => exact fun op rq s => verdict_unjoined
  case lifecycle => exact fun op rq s => verdict_invalidNow
  case standby => exact fun op rq s => verdict_standby
  case tag => exact fun op rq s e hh hc hd hp hm hj hv hr htag => verdict_recorded hh hc hd hp hm hj hv hr htag
  case ownTime =>
    intro op rq s hh hc hd hp hm hj hv hr htag hset hown hplain
    exact verdict_mistimed hh hc hd hp hm hj hv hr htag (timeVerdict_ownTime hset hown hplain)
  case late =>
    intro op rq s hh hc hd hp hm hj hv hr htag hset hown hlate
    exact verdict_mistimed hh hc hd hp hm hj hv hr htag (timeVerdict_late hset hown hlate)
  case full =>
    intro op rq s hh hc hd hp hm hj hv hr htag hset hown hplain hnear hfar hfull
    exact verdict_mistimed hh hc hd hp hm hj hv (hnotStandby hr) htag (timeVerdict_full hset hown hplain hr hnear hfar hfull)
  case reply =>
    intro op rq s hh hc hd hp hm hj hv hr htag hnow hport hsmall
    exact verdict_smallReply hh hc hd hp hm hj hv (hnotStandby hr) htag (timeVerdict_solo hr hnow) hport hsmall
  case galley =>
    intro op rq s hh hc hd hp hm hj hv hr htag hnow hport hfull
    exact verdict_fullGalley hh hc hd hp hm hj hv (hnotStandby hr) htag (timeVerdict_solo hr hnow)
      (by rcases hport with h | h <;> simp [h]) hfull
  case run =>
    intro op rq s hh hc hd hp hm hj hv hr htag hnow hreply hroom
    exact verdict_admitted hh hc hd hp hm hj hv (hnotStandby hr) htag (timeVerdict_solo hr hnow) hreply hroom
  case arrive =>
    intro rq s
    refine ⟨(arrive rq s).ports, arrive_only rq s, findTag_arrive rq s, ?_⟩
    unfold arrive State.takeIn State.received
    cases rq.port <;> exact ⟨rfl, rfl⟩

end Sys2Proof.Machine

/-! What reset leaves (R44 to R419). -/

namespace Sys2Proof.Machine

/-- Settles O57: the reset state holds each default as its own value. -/
theorem resetLeavesTheDefaults : Obligations.ResetLeavesTheDefaults := by
  unfold Obligations.ResetLeavesTheDefaults
  and_intros
  all_goals
    intros
    rfl

end Sys2Proof.Machine

/-! Local memory's canonical form (R276, log 132): what each operation of the model leaves of local memory. Only a few of them write to
it; every other one leaves it byte for byte as it was, which is said here once for each operation, in the order of the model's chapters:
the operation's branches are split where `simp` does not see through them, and the laws of the operations it is made of do the rest.

The sections' own updates are proved by `(rfl)`, in parentheses: as rules by definition `simp` would not use them for the condition of
`dram_each`. -/

namespace Sys2Proof.Machine

/-- The bytes of local memory. -/
def State.dram (s : State) : Memory := s.mem.dram

@[simp] theorem mem_dram (s : State) : s.mem.dram = s.dram := (rfl)

theorem PortsOnly.dram {s t : State} (h : PortsOnly s t) : t.dram = s.dram := by
  rw [h]; rfl

theorem PortsLinksOnly.dram {s t : State} (h : PortsLinksOnly s t) : t.dram = s.dram := by
  rw [h]; rfl

@[simp] theorem dram_ite (c : Prop) [Decidable c] (t u : State) : (if c then t else u).dram = if c then t.dram else u.dram :=
  apply_ite State.dram c t u

theorem dram_ite_of {c : Prop} [Decidable c] {s t u : State} (ht : t.dram = s.dram) (hu : u.dram = s.dram) :
    (if c then t else u).dram = s.dram := by
  rw [dram_ite, ht, hu, ite_self]

@[simp] theorem snd_ite {α : Type} (c : Prop) [Decidable c] (t u : α × State) : (if c then t else u).2 = if c then t.2 else u.2 :=
  apply_ite Prod.snd c t u

/-- Changes that keep memory, made in order over a list, keep it. -/
@[simp] theorem dram_each {α : Type} {f : α → State → State} (h : ∀ a s, (f a s).dram = s.dram) (l : List α) (s : State) :
    (each l f s).dram = s.dram := each_keeps State.dram h l s

/-- Values drawn in order over a list, each of which keeps memory, keep it. -/
@[simp] theorem dram_foldl {α β : Type} {f : β × State → α → β × State} (h : ∀ x a, (f x a).2.dram = x.2.dram) (l : List α) :
    ∀ x, (l.foldl f x).2.dram = x.2.dram := by
  induction l with
  | nil => exact fun _ => rfl
  | cons a l ih => exact fun x => (ih (f x a)).trans (h x a)

@[simp] theorem dram_onMem (s : State) (f : Plates → Plates) : (s.onMem f).dram = (f s.mem).dram := (rfl)

/-! The shared operations. -/

section MemoryOps

variable (rq : Request) (s : State)

@[simp] theorem dram_onTb (f : TimeBase → TimeBase) : (s.onTb f).dram = s.dram := (rfl)
@[simp] theorem dram_onPorts (f : Ports → Ports) : (s.onPorts f).dram = s.dram := (rfl)
@[simp] theorem dram_onLat (f : Lattice → Lattice) : (s.onLat f).dram = s.dram := (rfl)
@[simp] theorem dram_onLanes (f : Lanes → Lanes) : (s.onLanes f).dram = s.dram := (rfl)
@[simp] theorem dram_onEth (f : Eth → Eth) : (s.onEth f).dram = s.dram := (rfl)
@[simp] theorem dram_onVox (f : Voxad → Voxad) : (s.onVox f).dram = s.dram := (rfl)
@[simp] theorem dram_onHier (f : Hier → Hier) : (s.onHier f).dram = s.dram := (rfl)
@[simp] theorem dram_onAudio (f : Audio → Audio) : (s.onAudio f).dram = s.dram := (rfl)
@[simp] theorem dram_onChord (f : Chord → Chord) : (s.onChord f).dram = s.dram := (rfl)
@[simp] theorem dram_onImp (f : Imposition → Imposition) : (s.onImp f).dram = s.dram := (rfl)
@[simp] theorem dram_onRef (f : Time → Time) : (s.onRef f).dram = s.dram := (rfl)
@[simp] theorem dram_onTwin (f : Twin → Twin) : (s.onTwin f).dram = s.dram := (rfl)
@[simp] theorem dram_onFaults (f : Faults → Faults) : (s.onFaults f).dram = s.dram := (rfl)
@[simp] theorem dram_onPower (f : Power → Power) : (s.onPower f).dram = s.dram := (rfl)
@[simp] theorem dram_onProof (f : Proof → Proof) : (s.onProof f).dram = s.dram := (rfl)
@[simp] theorem dram_onLife (f : Life → Life) : (s.onLife f).dram = s.dram := (rfl)
@[simp] theorem dram_onKeep (f : KeepMem → KeepMem) : (s.onKeep f).dram = s.dram := (rfl)
@[simp] theorem dram_onBoot (f : Boot → Boot) : (s.onBoot f).dram = s.dram := (rfl)
@[simp] theorem dram_tick : s.tick.dram = s.dram := (rfl)
@[simp] theorem dram_advance (at_ : Nat) : (s.advance at_).dram = s.dram := (rfl)

@[simp] theorem dram_toHost (side : PcieSide) (address : Nat) (data : List Byte) :
    (s.toHost side address data).dram = s.dram := (rfl)

@[simp] theorem dram_freeByte : s.freeByte.2.dram = s.dram := (rfl)
@[simp] theorem dram_freeInt : s.freeInt.2.dram = s.dram := (rfl)

@[simp] theorem dram_onPcie (side : PcieSide) (f : PciePort → PciePort) (s : State) : (s.onPcie side f).dram = s.dram :=
  (onPcie_only s side f).dram

@[simp] theorem dram_onCpm (f : CpmPort → CpmPort) : (s.onCpm f).dram = s.dram := (rfl)
@[simp] theorem dram_onCpt (f : CptPort → CptPort) : (s.onCpt f).dram = s.dram := (rfl)

@[simp] theorem dram_count (p : Port) (f : PortCounters → PortCounters) (s : State) : (s.count p f).dram = s.dram :=
  (count_only s p f).dram

@[simp] theorem dram_loseEvent (p : Port) : (s.loseEvent p).dram = s.dram := by simp [State.loseEvent]
@[simp] theorem dram_losePcie (side : PcieSide) : (s.losePcie side).dram = s.dram := by simp [State.losePcie]

@[simp] theorem dram_signalMsix (side : PcieSide) (v : Nat) (s : State) : (s.signalMsix side v).dram = s.dram :=
  (signalMsix_only s side v).dram

@[simp] theorem dram_writeEvent (side : PcieSide) (e : EventEntry) (s : State) : (s.writeEvent side e).dram = s.dram :=
  (writeEvent_only s side e).dram

@[simp] theorem dram_deliver (side : PcieSide) (e : EventEntry) (s : State) : (s.deliver side e).dram = s.dram :=
  (deliver_only s side e).dram

@[simp] theorem dram_noticeLost (side : PcieSide) (s : State) : (s.noticeLost side).dram = s.dram :=
  (noticeLost_only s side).dram

@[simp] theorem dram_refillHeld (side : PcieSide) (n : Nat) (s : State) : (State.refillHeld side n s).dram = s.dram :=
  (refillHeld_only s side n).dram

@[simp] theorem dram_refill (side : PcieSide) (s : State) : (s.refill side).dram = s.dram :=
  (refill_only s side).dram

@[simp] theorem dram_onLink (n : Nat) (f : Link → Link) : (s.onLink n f).dram = s.dram := (rfl)

@[simp] theorem dram_emitWith (poison : List Nat) (n channel : Nat) (data : List Byte) :
    (s.emitWith poison n channel data).dram = s.dram := (rfl)

@[simp] theorem dram_emit (n channel : Nat) (data : List Byte) : (s.emit n channel data).dram = s.dram := (rfl)
@[simp] theorem dram_sendControl (n : Nat) (msg : List Byte) : (s.sendControl n msg).dram = s.dram := (rfl)

@[simp] theorem dram_drainLink (n k : Nat) (s : State) : (State.drainLink n k s).dram = s.dram :=
  (drainLink_only s n k).dram

@[simp] theorem dram_drain (n : Nat) : (s.drain n).dram = s.dram := by simp [State.drain]
@[simp] theorem dram_countLink (n : Nat) : (s.countLink n).dram = s.dram := (rfl)

@[simp] theorem dram_putLink (n vc : Nat) (d : List Byte) (s : State) : (s.putLink n vc d).dram = s.dram :=
  (putLink_only s n vc d).dram

@[simp] theorem dram_putStream (n stream : Nat) (data : List Byte) (poisoned : List Nat) :
    (s.putStream n stream data poisoned).dram = s.dram := by simp [State.putStream]

@[simp] theorem dram_gotBlocks (n vc k : Nat) : (s.gotBlocks n vc k).dram = s.dram := by simp [State.gotBlocks]

@[simp] theorem dram_receiveBlocks {f : State → State} (h : ∀ s, (f s).dram = s.dram) (n vc k : Nat) (s : State) :
    (s.receiveBlocks n vc k f).dram = s.dram := by
  simp [State.receiveBlocks, h]

@[simp] theorem dram_putPacket (n vc txid kind path hops : Nat) (pkt : List Byte) :
    (s.putPacket n vc txid kind path hops pkt).dram = s.dram := by simp [State.putPacket]

@[simp] theorem dram_post (vc target : Nat) (pkt : List Byte) (s : State) : (s.post vc target pkt).dram = s.dram :=
  (post_only s vc target pkt).dram

@[simp] theorem dram_raiseOnLinks (c code obj : Nat) (d : List Byte) (s : State) : (s.raiseOnLinks c code obj d).dram = s.dram :=
  (raiseOnLinks_only s c code obj d).dram

@[simp] theorem dram_raise (c code obj : Nat) (d : List Byte) (s : State) : (s.raise c code obj d).dram = s.dram :=
  (raise_only s c code obj d).dram

@[simp] theorem dram_assertFaultN : s.assertFaultN.dram = s.dram := (rfl)

@[simp] theorem dram_setTwinRole (r : TwinRole) (cause : Nat) : (s.setTwinRole r cause).dram = s.dram := by
  simp [State.setTwinRole]

@[simp] theorem dram_twinDrop (t cause : Nat) : (s.twinDrop t cause).dram = s.dram := by simp [State.twinDrop]
@[simp] theorem dram_enterSafe (src : Nat) : (s.enterSafe src).dram = s.dram := by simp [State.enterSafe]
@[simp] theorem dram_classify (m : FaultMsg) : (s.classify m).dram = s.dram := by simp [State.classify]

@[simp] theorem dram_faultMsg (source kind detail count : Nat) : (s.faultMsg source kind detail count).dram = s.dram := by
  simp [State.faultMsg]

@[simp] theorem dram_fault (source kind detail : Nat) : (s.fault source kind detail).dram = s.dram := by simp [State.fault]
@[simp] theorem dram_takeHeld : s.takeHeld.dram = s.dram := by simp [State.takeHeld]
@[simp] theorem dram_onTags (k : Nat) (f : List TagEntry → List TagEntry) : (s.onTags k f).dram = s.dram := (rfl)
@[simp] theorem dram_recordTag (k tag : Nat) : (s.recordTag k tag).dram = s.dram := (rfl)

@[simp] theorem dram_finishTag (k tag status length : Nat) (s : State) : (s.finishTag k tag status length).dram = s.dram :=
  (finishTag_only s k tag status length).dram

@[simp] theorem dram_cptRoom : s.cptRoom.dram = s.dram := by simp [State.cptRoom]

@[simp] theorem dram_sendReply (rq : Request) (status : Nat) (pkt : List Byte) (s : State) : (s.sendReply rq status pkt).dram = s.dram :=
  (sendReply_only s rq status pkt).dram

@[simp] theorem dram_refuse (op : Nat) (rq : Request) (status : Nat) (p : List Byte) (s : State) : (s.refuse op rq status p).dram = s.dram :=
  (refuse_only s op rq status p).dram

@[simp] theorem dram_splitPair (cause : Nat) : (s.splitPair cause).dram = s.dram := by simp [State.splitPair]

@[simp] theorem dram_mirrorJudge (e : MirrorWait) : (s.mirrorJudge e).dram = s.dram := by
  unfold State.mirrorJudge
  split <;> simp

@[simp] theorem dram_mirrorSide (opcode tag : Nat) (f : MirrorWait → MirrorWait) : (s.mirrorSide opcode tag f).dram = s.dram := by
  unfold State.mirrorSide
  split <;> simp

@[simp] theorem dram_mirrorOwn (opcode : Nat) (p : Port) (tag status : Nat) :
    (s.mirrorOwn opcode p tag status).dram = s.dram := by simp [State.mirrorOwn]

@[simp] theorem dram_mirrorStatus (opcode tag status : Nat) : (s.mirrorStatus opcode tag status).dram = s.dram := by
  simp [State.mirrorStatus]

@[simp] theorem dram_answer (opcode : Nat) (rq : Request) (r : Res) : (s.answer opcode rq r).dram = s.dram := by
  simp [State.answer]

@[simp] theorem dram_completionAt (p : Port) (pkt : List Byte) : (s.completionAt p pkt).dram = s.dram := by
  unfold State.completionAt
  split <;> simp

@[simp] theorem dram_complete (h : Handle) (status : Nat) (payload : List Byte) :
    (s.complete h status payload).dram = s.dram := by
  unfold State.complete
  repeat' split
  all_goals simp

@[simp] theorem dram_completeOpt (h : Option Handle) (status : Nat) (payload : List Byte) :
    (s.completeOpt h status payload).dram = s.dram := by
  unfold State.completeOpt
  split <;> simp

end MemoryOps

/-! Operands. -/

section MemoryOperands

variable (s : State)

@[simp] theorem dram_fail (status : Nat) : (fail status s).2.dram = s.dram := (rfl)
@[simp] theorem dram_ok : (ok s).2.dram = s.dram := (rfl)
@[simp] theorem dram_okWith (payload : List Byte) : (okWith payload s).2.dram = s.dram := (rfl)
@[simp] theorem dram_accepted : (accepted s).2.dram = s.dram := (rfl)

@[simp] theorem dram_require (good : Bool) (k : Res × State) (s : State) :
    (require good k s).2.dram = if good then k.2.dram else s.dram := by
  cases good <;> rfl

end MemoryOperands

/-! The power groups and free bytes. -/

section MemoryGroups

variable (s : State)

@[simp] theorem dram_onLane (n : Nat) (f : Lane → Lane) : (s.onLane n f).dram = s.dram := (rfl)
@[simp] theorem dram_restartLane (k lane : Nat) : (s.restartLane k lane).dram = s.dram := (rfl)
@[simp] theorem dram_restartMembers (n k : Nat) : (s.restartMembers n k).dram = s.dram := by simp [State.restartMembers]
@[simp] theorem dram_linkWake (n cause : Nat) : (s.linkWake n cause).dram = s.dram := by simp [State.linkWake]
@[simp] theorem dram_onGroup (i : Nat) (f : Group → Group) : (s.onGroup i f).dram = s.dram := (rfl)
@[simp] theorem dram_wakeLocal : s.wakeLocal.dram = s.dram := by simp [State.wakeLocal]
@[simp] theorem dram_setGroup (g : Nat) (st : GroupState) : (s.setGroup g st).dram = s.dram := by simp [State.setGroup]
@[simp] theorem dram_settleDevice : s.settleDevice.dram = s.dram := by simp [State.settleDevice]
@[simp] theorem dram_trackGroups : s.trackGroups.dram = s.dram := by simp [State.trackGroups]

end MemoryGroups

/-! Packets between devices. -/

section MemoryRoute

variable (s : State)

@[simp] theorem dram_wakeFor (n : Nat) : (s.wakeFor n).dram = s.dram := by simp [State.wakeFor]
@[simp] theorem dram_openTxn (n : Nat) (t : Transaction) : (s.openTxn n t).dram = s.dram := by simp [State.openTxn]
@[simp] theorem dram_openHeld (n : Nat) : (s.openHeld n).dram = s.dram := by simp [State.openHeld]

@[simp] theorem dram_openWaiting (n vc : Nat) : (s.openWaiting n vc).dram = s.dram := by
  unfold State.openWaiting
  split <;> simp

@[simp] theorem dram_closeTxn (n : Nat) (t : Transaction) : (s.closeTxn n t).dram = s.dram := by simp [State.closeTxn]
@[simp] theorem dram_hopDrop : s.hopDrop.dram = s.dram := (rfl)
@[simp] theorem dram_countReplay (replays : Nat) : (s.countReplay replays).dram = s.dram := by simp [State.countReplay]

@[simp] theorem dram_originate (h : Option Handle) (vc path target replays : Nat) (pkt : List Byte) :
    (s.originate h vc path target replays pkt).dram = s.dram := by
  unfold State.originate
  repeat' split
  all_goals simp

@[simp] theorem dram_forward (inLink vc txid kind path hops : Nat) (b : List Byte) :
    (s.forward inLink vc txid kind path hops b).dram = s.dram := by
  unfold State.forward
  repeat' split
  all_goals simp

@[simp] theorem dram_forwardLocal (op : Nat) (rq : Request) : (s.forwardLocal op rq).dram = s.dram := by simp [State.forwardLocal]

@[simp] theorem dram_portReply (h : Handle) (replays : Nat) (answer : List Byte) :
    (s.portReply h replays answer).dram = s.dram := by simp [State.portReply]

end MemoryRoute

/-! Admission and answers. -/

section MemoryAdmission

variable (rq : Request) (s : State)

@[simp] theorem dram_discard (p : Port) : (s.discard p).dram = s.dram := by simp [State.discard]
@[simp] theorem dram_takeIn (rq : Request) : (s.takeIn rq).dram = s.dram := by simp [State.takeIn]
@[simp] theorem dram_profileTouch : s.profileTouch.dram = s.dram := (rfl)

@[simp] theorem dram_noteSetting (op : Nat) (rq : Request) (status : Nat) : (s.noteSetting op rq status).dram = s.dram := by
  unfold State.noteSetting
  repeat' split
  all_goals simp

@[simp] theorem dram_enqueue (op : Nat) (rq : Request) : (s.enqueue op rq).dram = s.dram := (rfl)
@[simp] theorem dram_mirror (op due : Nat) (rq : Request) : (s.mirror op due rq).dram = s.dram := by simp [State.mirror]
@[simp] theorem dram_addTimed (t : Timed) : (s.addTimed t).dram = s.dram := (rfl)

@[simp] theorem dram_admitTimed (op due : Nat) (rq : Request) : (s.admitTimed op due rq).dram = s.dram := by
  simp [State.admitTimed]

@[simp] theorem dram_receive (rq : Request) (b : List Byte) (lengthsAgree : Bool) :
    (s.receive rq b lengthsAgree).dram = s.dram := by
  unfold State.receive
  dsimp only
  repeat' split
  all_goals simp

end MemoryAdmission

/-! The status window. -/

section MemoryWindow

variable (s : State)

@[simp] theorem dram_wake (source lane : Nat) : (s.wake source lane).dram = s.dram := by simp [State.wake]

end MemoryWindow

/-! The command ports. -/

section MemoryPorts

variable (rq : Request) (s : State)

@[simp] theorem dram_cmdDoorbell (side : PcieSide) (index : Nat) : (cmdDoorbell side index s).dram = s.dram := by
  simp [cmdDoorbell]

@[simp] theorem dram_evtDoorbell (side : PcieSide) (index : Nat) : (evtDoorbell side index s).dram = s.dram := by
  simp [evtDoorbell]

@[simp] theorem dram_cutCommands (p : Port) : (cutCommands p s).dram = s.dram := (rfl)
@[simp] theorem dram_stopFetch (side : PcieSide) : (stopFetch side s).dram = s.dram := by simp [stopFetch]
@[simp] theorem dram_evtRingOff (side : PcieSide) : (evtRingOff side s).dram = s.dram := by simp [evtRingOff]
@[simp] theorem dram_sendPending (side : PcieSide) : (sendPending side s).dram = s.dram := by simp [sendPending]

@[simp] theorem dram_descriptorFetch (side : PcieSide) (d b : List Byte) : (descriptorFetch side d b s).dram = s.dram := by
  simp [descriptorFetch]

@[simp] theorem dram_descriptorDone (side : PcieSide) (index len status : Nat) :
    (descriptorDone side index len status s).dram = s.dram := by simp [descriptorDone]

@[simp] theorem dram_ringFailure (side : PcieSide) (t : RingTransfer) : (ringFailure side t s).dram = s.dram := by
  unfold ringFailure
  dsimp only
  repeat' split
  all_goals simp

@[simp] theorem dram_replyWrite (side : PcieSide) : (replyWrite side s).dram = s.dram := by
  unfold replyWrite
  split <;> simp

@[simp] theorem dram_output (data : List Byte) : (s.output data).dram = s.dram := (rfl)

@[simp] theorem dram_replyRead : (replyRead s).dram = s.dram := by
  unfold replyRead
  split <;> simp

@[simp] theorem dram_portStatus : (portStatus s).dram = s.dram := (rfl)
@[simp] theorem dram_tapInstruction (ir : Byte) : (tapInstruction ir s).dram = s.dram := (rfl)

@[simp] theorem dram_pktOut : (pktOut s).dram = s.dram := by
  unfold pktOut
  split <;> simp

@[simp] theorem dram_deviceInfoBody : (deviceInfoBody rq s).2.dram = s.dram := by simp [deviceInfoBody]
@[simp] theorem dram_statusReadBody : (statusReadBody rq s).2.dram = s.dram := by simp [statusReadBody]

@[simp] theorem dram_setPortMasks (rq : Request) (ring msix : Nat) : (setPortMasks rq ring msix s).dram = s.dram := by
  unfold setPortMasks
  split <;> simp

@[simp] theorem dram_eventConfigBody : (eventConfigBody rq s).2.dram = s.dram := by simp [eventConfigBody]
@[simp] theorem dram_portCountersBody : (portCountersBody rq s).2.dram = s.dram := by simp [portCountersBody]

end MemoryPorts

/-! Formats. -/

section MemoryFormats

variable (s : State)

@[simp] theorem dram_digestOn (dest kind index : Nat) (whole : Bool) (p : List Byte) :
    (s.digestOn dest kind index whole p).dram = s.dram := by simp [State.digestOn]

end MemoryFormats

/-! Frame stores and pictures. -/

section MemoryPicture

variable (s : State)

@[simp] theorem dram_putRegion (src first : Nat) (data : List Byte) : (s.putRegion src first data).dram = s.dram := (rfl)

end MemoryPicture

/-! System formes, the shared operations. -/

section MemorySysForme

variable (s : State)

@[simp] theorem dram_onSysForme (id : Nat) (f : SysForme → SysForme) : (s.onSysForme id f).dram = s.dram := (rfl)

@[simp] theorem dram_finishRun (id : Nat) : (s.finishRun id).dram = s.dram := by
  unfold State.finishRun
  repeat' split
  all_goals simp

@[simp] theorem dram_checkRun (id : Nat) : (s.checkRun id).dram = s.dram := by
  unfold State.checkRun
  split <;> simp

@[simp] theorem dram_lockupReported (id node lockup : Nat) : (s.lockupReported id node lockup).dram = s.dram := by
  simp [State.lockupReported]

@[simp] theorem dram_newTag : s.newTag.2.dram = s.dram := (rfl)
@[simp] theorem dram_newSysTag : s.newSysTag.2.dram = s.dram := (rfl)
@[simp] theorem dram_ownPacket (op target : Nat) (payload : List Byte) : (s.ownPacket op target payload).2.dram = s.dram := (rfl)

@[simp] theorem dram_reportLockup (f : Forme) (result : Nat) : (s.reportLockup f result).dram = s.dram := by
  simp [State.reportLockup]

@[simp] theorem dram_freePushed (id : Nat) : (s.freePushed id).dram = s.dram := (rfl)

end MemorySysForme

/-! The lattice. -/

section MemoryLattice

variable (rq : Request) (s : State)

@[simp] theorem dram_onDest (n : Nat) (f : Dest → Dest) : (s.onDest n f).dram = s.dram := (rfl)

@[simp] theorem dram_ensureStore (q : Nat × Nat) : (s.ensureStore q).dram = s.dram := by
  unfold State.ensureStore
  split <;> simp

@[simp] theorem dram_freeStores (s : State) : (State.freeStores s).dram = s.dram := by
  simp [State.freeStores]

@[simp] theorem dram_onForme (id : Nat) (f : Forme → Forme) : (s.onForme id f).dram = s.dram := (rfl)
@[simp] theorem dram_dropForme (id : Nat) : (s.dropForme id).dram = s.dram := by simp [State.dropForme]
@[simp] theorem dram_keepTouch : s.keepTouch.dram = s.dram := (rfl)
@[simp] theorem dram_formeOpenBody : (formeOpenBody rq s).2.dram = s.dram := by simp [formeOpenBody]
@[simp] theorem dram_formeEntriesBody : (formeEntriesBody rq s).2.dram = s.dram := by simp [formeEntriesBody]
@[simp] theorem dram_closeForme (f : Forme) (count crc : Nat) : (closeForme f count crc s).2.dram = s.dram := by simp [closeForme]

@[simp] theorem dram_formeCloseBody : (formeCloseBody rq s).2.dram = s.dram := by
  unfold formeCloseBody
  dsimp only
  repeat' split
  all_goals simp

@[simp] theorem dram_formeScheduleBody : (formeScheduleBody rq s).2.dram = s.dram := by
  unfold formeScheduleBody
  dsimp only
  repeat' split
  all_goals simp

@[simp] theorem dram_formeCancelBody : (formeCancelBody rq s).2.dram = s.dram := by
  unfold formeCancelBody
  dsimp only
  repeat' split
  all_goals simp

@[simp] theorem dram_routeSet (dest : Nat) (e : Entry) (mirror : Bool) : (routeSet dest e mirror s).2.dram = s.dram := by
  unfold routeSet
  dsimp only
  repeat' split
  all_goals simp

@[simp] theorem dram_routeSetBody : (routeSetBody rq s).2.dram = s.dram := by simp [routeSetBody]

@[simp] theorem dram_formeInfoBody : (formeInfoBody rq s).2.dram = s.dram := by
  unfold formeInfoBody
  dsimp only
  repeat' split
  all_goals simp

@[simp] theorem dram_formeReadBody : (formeReadBody rq s).2.dram = s.dram := by
  unfold formeReadBody
  dsimp only
  repeat' split
  all_goals simp

@[simp] theorem dram_destStatusBody : (destStatusBody rq s).2.dram = s.dram := by simp [destStatusBody]

@[simp] theorem dram_trunkRemove (number : Nat) (receive : Bool) : (trunkRemove number receive s).2.dram = s.dram := by
  simp [trunkRemove]

@[simp] theorem dram_trunkMap (number link stream rate : Nat) (receive : Bool) :
    (trunkMap number link stream rate receive s).2.dram = s.dram := by simp [trunkMap]

@[simp] theorem dram_trunkSetBody : (trunkSetBody rq s).2.dram = s.dram := by simp [trunkSetBody]
@[simp] theorem dram_trunkInfoBody : (trunkInfoBody rq s).2.dram = s.dram := by simp [trunkInfoBody]
@[simp] theorem dram_keepConfigBody : (keepConfigBody rq s).2.dram = s.dram := by simp [keepConfigBody]
@[simp] theorem dram_keepInfoBody : (keepInfoBody rq s).2.dram = s.dram := by simp [keepInfoBody]

@[simp] theorem dram_planeEvent (d : Nat) (e : Entry) (fresh : Bool) (old new : Shown) (phase : Int) :
    (planeEvent d e fresh old new phase s).dram = s.dram := by simp [planeEvent]

@[simp] theorem dram_setOutput (n : Shown) (e : Entry) (off : Int) (d : Nat) : (s.setOutput n e off d).dram = s.dram := (rfl)
@[simp] theorem dram_judge (d : Nat) (fresh : Bool) : (s.judge d fresh).dram = s.dram := by simp [State.judge]
@[simp] theorem dram_loadNext (f : Forme) : (s.loadNext f).dram = s.dram := by simp [State.loadNext]
@[simp] theorem dram_moveForme (f : Forme) (t : Nat) : (s.moveForme f t).dram = s.dram := by simp [State.moveForme]

@[simp] theorem dram_horizon (id : Nat) : (horizon id s).dram = s.dram := by
  unfold horizon
  repeat' split
  all_goals simp

@[simp] theorem dram_lockupArm (id : Nat) : (lockupArm id s).dram = s.dram := by
  unfold lockupArm
  split <;> simp

@[simp] theorem dram_standForme (f : Forme) : (s.standForme f).dram = s.dram := by simp [State.standForme]
@[simp] theorem dram_switched (f : Forme) (d : Nat) : (s.switched f d).dram = s.dram := by simp [State.switched]

@[simp] theorem dram_switchInstant (d : Nat) : (switchInstant d s).dram = s.dram := by
  unfold switchInstant
  dsimp only
  repeat' split
  all_goals simp

@[simp] theorem dram_writeFrame (src : Nat) (f : Frame) : (s.writeFrame src f).dram = s.dram := (rfl)

@[simp] theorem dram_audioControl (lane : Nat) (l : List AncPacket) (s : State) : (State.audioControl lane l s).dram = s.dram := by
  refine dram_each (fun p s => ?_) _ _
  dsimp only
  split <;> simp

@[simp] theorem dram_phaseMeasured (lane : Nat) (phase : Int) : (phaseMeasured lane phase s).dram = s.dram := by
  simp [phaseMeasured]

@[simp] theorem dram_sendTrunk (d : Nat) (f : Frame) : (s.sendTrunk d f).dram = s.dram := by
  unfold State.sendTrunk
  split <;> simp

@[simp] theorem dram_outputFrame (d : Nat) : (outputFrame d s).dram = s.dram := by
  unfold outputFrame
  dsimp only
  repeat' split
  all_goals simp

@[simp] theorem dram_writeKeep : s.writeKeep.dram = s.dram := (rfl)
@[simp] theorem dram_completeLockup (f : Forme) : (s.completeLockup f).dram = s.dram := by simp [State.completeLockup]
@[simp] theorem dram_keepWrite : (keepWrite s).dram = s.dram := by simp [keepWrite]

@[simp] theorem dram_reloadStanding : (reloadStanding s).dram = s.dram := by
  unfold reloadStanding
  split <;> simp

@[simp] theorem dram_restoreFormes : (restoreFormes s).dram = s.dram := by
  unfold restoreFormes
  split <;> simp

end MemoryLattice

/-! Memory and background DMA, the shared operations. -/

section MemoryDmaOps

variable (s : State)

@[simp] theorem dram_freeBytes (n : Nat) (s : State) : (State.freeBytes n s).2.dram = s.dram := by
  induction n generalizing s with
  | zero => rfl
  | succ n ih => simp [State.freeBytes, ih]

@[simp] theorem dram_frameStoreRead (off n : Nat) (s : State) : (State.frameStoreRead off n s).2.dram = s.dram := by
  induction n generalizing off s with
  | zero => rfl
  | succ n ih =>
    refine (ih _ _).trans ?_
    split
    · rfl
    · exact dram_freeByte s

@[simp] theorem dram_dramRead (off n : Nat) : (s.dramRead off n).2.dram = s.dram := by simp [State.dramRead]
@[simp] theorem dram_lookup (va : Nat) : (s.lookup va).dram = s.dram := by simp [State.lookup]
@[simp] theorem dram_onChan (n : Nat) (f : DmaChan → DmaChan) : (s.onChan n f).dram = s.dram := (rfl)
@[simp] theorem dram_dmaPark (ch cause va : Nat) : (s.dmaPark ch cause va).dram = s.dram := by simp [State.dmaPark]
@[simp] theorem dram_dmaPass (ch n : Nat) : (s.dmaPass ch n).dram = s.dram := (rfl)
@[simp] theorem dram_dmaAdvance (ch n : Nat) : (s.dmaAdvance ch n).dram = s.dram := (rfl)

@[simp] theorem dram_dmaSend (ch op node plate : Nat) (generation : Byte) (off n va : Nat) (data : List Byte) :
    (s.dmaSend ch op node plate generation off n va data).dram = s.dram := by
  unfold State.dmaSend
  repeat' split
  all_goals simp

@[simp] theorem dram_dmaKick (ch : Nat) : (s.dmaKick ch).dram = s.dram := by
  unfold State.dmaKick
  dsimp only
  repeat' split
  all_goals simp

@[simp] theorem dram_dmaFailed (ch cause : Nat) : (s.dmaFailed ch cause).dram = s.dram := by
  unfold State.dmaFailed
  dsimp only
  split <;> simp

@[simp] theorem dram_dmaResume (ch : Nat) : (s.dmaResume ch).dram = s.dram := by simp [State.dmaResume]

@[simp] theorem dram_resumeLost (s : State) : (State.resumeLost s).dram = s.dram := by
  refine dram_each (fun e s => ?_) _ _
  split
  · simp
  · rfl

end MemoryDmaOps

/-! The hierarchy, the shared operations. -/

section MemoryHierOps

variable (s : State)

@[simp] theorem dram_installRoute (node link : Nat) : (s.installRoute node link).dram = s.dram := (rfl)

@[simp] theorem dram_sendRouteUpdate (link op : Nat) (nodes : List Nat) : (s.sendRouteUpdate link op nodes).dram = s.dram := by
  simp [State.sendRouteUpdate]

@[simp] theorem dram_withdraw (nodes : List Nat) (lastLink : Nat) : (s.withdraw nodes lastLink).dram = s.dram := by
  unfold State.withdraw
  repeat' split
  all_goals simp

@[simp] theorem dram_clearRoutes (link : Nat) : (s.clearRoutes link).dram = s.dram := by simp [State.clearRoutes]
@[simp] theorem dram_updateParents : s.updateParents.dram = s.dram := by simp [State.updateParents]

@[simp] theorem dram_flushWaiting (s : State) : (State.flushWaiting s).dram = s.dram := by
  refine (dram_each (fun w s => ?_) _ _).trans (dram_onHier _ _)
  dsimp only
  split
  · simp
  · rfl

@[simp] theorem dram_routesChanged : s.routesChanged.dram = s.dram := by simp [State.routesChanged]
@[simp] theorem dram_sendJoin (link : Nat) : (s.sendJoin link).dram = s.dram := by simp [State.sendJoin]

@[simp] theorem dram_joinAnswered (link status : Nat) (p : List Byte) : (s.joinAnswered link status p).dram = s.dram := by
  simp [State.joinAnswered]

@[simp] theorem dram_commitForme (id : Nat) : (s.commitForme id).2.dram = s.dram := by
  unfold State.commitForme
  split <;> simp

@[simp] theorem dram_abortForme (id : Nat) : (s.abortForme id).2.dram = s.dram := by
  unfold State.abortForme
  split <;> simp

@[simp] theorem dram_wakeGroups (l : List Nat) : (s.wakeGroups l).dram = s.dram := by simp [State.wakeGroups]

@[simp] theorem dram_prepareForme (id count crc t apex : Nat) : (s.prepareForme id count crc t apex).2.2.2.dram = s.dram := by
  unfold State.prepareForme
  dsimp only
  repeat' split
  all_goals simp

@[simp] theorem dram_sendDecision (id node tag : Nat) (commit : Bool) : (s.sendDecision id node tag commit).dram = s.dram := by
  simp [State.sendDecision]

@[simp] theorem dram_decide (id : Nat) : (s.decide id).dram = s.dram := by
  unfold State.decide
  split <;> simp

@[simp] theorem dram_prepareAnswered (id node status errDest errReason : Nat) :
    (s.prepareAnswered id node status errDest errReason).dram = s.dram := by
  unfold State.prepareAnswered
  dsimp only
  repeat' split
  all_goals simp

@[simp] theorem dram_decisionAnswered (id node status : Nat) : (s.decisionAnswered id node status).dram = s.dram := by
  simp [State.decisionAnswered]

@[simp] theorem dram_resendDecisions (node : Nat) (s : State) : (State.resendDecisions node s).dram = s.dram := by
  refine dram_each (fun e s => ?_) _ _
  split
  · simp
  · rfl

@[simp] theorem dram_pushDone (id : Nat) : (s.pushDone id).dram = s.dram := by
  unfold State.pushDone
  split <;> simp

@[simp] theorem dram_pushSegment (id node offset : Nat) : (s.pushSegment id node offset).dram = s.dram := by
  unfold State.pushSegment
  repeat' split
  all_goals simp

@[simp] theorem dram_pushAnswered (id node offset n last status : Nat) :
    (s.pushAnswered id node offset n last status).dram = s.dram := by simp [State.pushAnswered]

@[simp] theorem dram_snapAnswered (snap node status : Nat) : (s.snapAnswered snap node status).dram = s.dram := by
  unfold State.snapAnswered
  split <;> simp

@[simp] theorem dram_relayPacket (link vc : Nat) (pkt : List Byte) : (s.relayPacket link vc pkt).dram = s.dram := by
  simp [State.relayPacket]

@[simp] theorem dram_sendOffer (link : Nat) : (s.sendOffer link).dram = s.dram := by
  unfold State.sendOffer
  split <;> simp

@[simp] theorem dram_relayNext (n : Nat) (s : State) : (State.relayNext n s).dram = s.dram := by
  induction n generalizing s with
  | zero => rfl
  | succ n ih =>
    unfold State.relayNext
    dsimp only
    split
    · split <;> simp [ih]
    · rfl

@[simp] theorem dram_relayEnd (link : Nat) (good : Bool) : (s.relayEnd link good).dram = s.dram := by simp [State.relayEnd]

@[simp] theorem dram_relaySegment (link offset : Nat) : (s.relaySegment link offset).dram = s.dram := by
  unfold State.relaySegment
  split <;> simp

@[simp] theorem dram_relayCut (link : Nat) : (s.relayCut link).dram = s.dram := by simp [State.relayCut]

@[simp] theorem dram_relayAnswered (op link status : Nat) (p : List Byte) : (s.relayAnswered op link status p).dram = s.dram := by
  unfold State.relayAnswered
  repeat' split
  all_goals simp

@[simp] theorem dram_forwardDone (tag status : Nat) (payload : List Byte) : (s.forwardDone tag status payload).dram = s.dram := by
  unfold State.forwardDone
  split <;> simp

@[simp] theorem dram_functionAnswer (link : Nat) (pkt : List Byte) (status : Nat) (p : List Byte) :
    (s.functionAnswer link pkt status p).dram = s.dram := by simp [State.functionAnswer]

@[simp] theorem dram_ownAnswer (link : Nat) (t : Transaction) (answer : List Byte) :
    (s.ownAnswer link t answer).dram = s.dram := by
  unfold State.ownAnswer
  split <;> simp

@[simp] theorem dram_ownLost (link : Nat) (t : Transaction) (answer : List Byte) : (s.ownLost link t answer).dram = s.dram := by
  simp [State.ownLost]

@[simp] theorem dram_txnFailed (link : Nat) (t : Transaction) (status : Nat) : (s.txnFailed link t status).dram = s.dram := by
  unfold State.txnFailed
  split <;> simp

@[simp] theorem dram_twinLinkLost (link cause : Nat) : (s.twinLinkLost link cause).dram = s.dram := by simp [State.twinLinkLost]

@[simp] theorem dram_linkDownActions (n cause : Nat) : (s.linkDownActions n cause).dram = s.dram := by
  simp [State.linkDownActions]

@[simp] theorem dram_rateFallback (n : Nat) : (s.rateFallback n).dram = s.dram := by simp [State.rateFallback]
@[simp] theorem dram_linkTrained (n : Nat) : (s.linkTrained n).dram = s.dram := by simp [State.linkTrained]

end MemoryHierOps

/-! The hierarchy's commands. -/

section MemoryHierCmds

variable (rq : Request) (s : State)

@[simp] theorem dram_nodeConfigBody : (nodeConfigBody rq s).2.dram = s.dram := by simp [nodeConfigBody]
@[simp] theorem dram_roleSetBody : (roleSetBody rq s).2.dram = s.dram := by simp [roleSetBody]
@[simp] theorem dram_hierConfigBody : (hierConfigBody rq s).2.dram = s.dram := by simp [hierConfigBody]
@[simp] theorem dram_hierStatusBody : (hierStatusBody rq s).2.dram = s.dram := by simp [hierStatusBody]
@[simp] theorem dram_routeReadBody : (routeReadBody rq s).2.dram = s.dram := by simp [routeReadBody]
@[simp] theorem dram_nodePlanWriteBody : (nodePlanWriteBody rq s).2.dram = s.dram := by simp [nodePlanWriteBody]

@[simp] theorem dram_joinBody : (joinBody rq s).2.dram = s.dram := by
  unfold joinBody
  split <;> simp

@[simp] theorem dram_routeUpdated (link : Nat) (p : List Byte) : (s.routeUpdated link p).dram = s.dram := by
  unfold State.routeUpdated
  dsimp only
  repeat' split
  all_goals simp

@[simp] theorem dram_sysFormeStageBody : (sysFormeStageBody rq s).2.dram = s.dram := by
  unfold sysFormeStageBody
  dsimp only
  repeat' split
  all_goals simp

@[simp] theorem dram_pushOwn (id : Nat) (a : NodeAnswer) : (s.pushOwn id a).2.dram = s.dram := by simp [State.pushOwn]

@[simp] theorem dram_sysFormePushBody : (sysFormePushBody rq s).2.dram = s.dram := by
  unfold sysFormePushBody
  dsimp only
  repeat' split
  all_goals simp

@[simp] theorem dram_sendPrepare (id t tag node : Nat) (a : NodeAnswer) : (s.sendPrepare id t tag node a).dram = s.dram := by
  simp [State.sendPrepare]

@[simp] theorem dram_sysFormeRunBody : (sysFormeRunBody rq s).2.dram = s.dram := by
  unfold sysFormeRunBody
  dsimp only
  repeat' split
  all_goals simp

@[simp] theorem dram_decisionExpired (id : Nat) : (decisionExpired id s).dram = s.dram := by
  unfold decisionExpired
  split <;> simp

@[simp] theorem dram_abortSys (id : Nat) (f : SysForme) : (s.abortSys id f).dram = s.dram := by simp [State.abortSys]

@[simp] theorem dram_sysFormeAbortBody : (sysFormeAbortBody rq s).2.dram = s.dram := by
  unfold sysFormeAbortBody
  dsimp only
  repeat' split
  all_goals simp

@[simp] theorem dram_sysFormeStatusBody : (sysFormeStatusBody rq s).2.dram = s.dram := by
  unfold sysFormeStatusBody
  dsimp only
  repeat' split
  all_goals simp

@[simp] theorem dram_formePushBody : (formePushBody rq s).2.dram = s.dram := by simp [formePushBody]
@[simp] theorem dram_prepareBody : (prepareBody rq s).2.dram = s.dram := by simp [prepareBody]
@[simp] theorem dram_commitBody : (commitBody rq s).2.dram = s.dram := by simp [commitBody]
@[simp] theorem dram_abortBody : (abortBody rq s).2.dram = s.dram := by simp [abortBody]

@[simp] theorem dram_reportArrived (node : Nat) (p : List Byte) : (s.reportArrived node p).dram = s.dram := by
  simp [State.reportArrived]

@[simp] theorem dram_armSnap (p : List Byte) (h : Handle) : (s.armSnap p h).2.dram = s.dram := by simp [State.armSnap]
@[simp] theorem dram_snapshotAtBody : (snapshotAtBody rq s).2.dram = s.dram := by simp [snapshotAtBody]
@[simp] theorem dram_sysSnapshotBody : (sysSnapshotBody rq s).2.dram = s.dram := by simp [sysSnapshotBody]
@[simp] theorem dram_relayStatusBody : (relayStatusBody rq s).2.dram = s.dram := by simp [relayStatusBody]

end MemoryHierCmds

/-! Ethernet. -/

section MemoryEthernet

variable (rq : Request) (s : State)

@[simp] theorem dram_onMac (n : Nat) (f : Mac → Mac) : (s.onMac n f).dram = s.dram := (rfl)
@[simp] theorem dram_macDown (n cause : Nat) : (s.macDown n cause).dram = s.dram := by simp [State.macDown]
@[simp] theorem dram_macLaneGone (lane : Nat) : (s.macLaneGone lane).dram = s.dram := by simp [State.macLaneGone]
@[simp] theorem dram_macConfigBody : (macConfigBody rq s).2.dram = s.dram := by simp [macConfigBody]
@[simp] theorem dram_macFilterSetBody : (macFilterSetBody rq s).2.dram = s.dram := by simp [macFilterSetBody]
@[simp] theorem dram_macStatusBody : (macStatusBody rq s).2.dram = s.dram := by simp [macStatusBody]
@[simp] theorem dram_clsEntrySetBody : (clsEntrySetBody rq s).2.dram = s.dram := by simp [clsEntrySetBody]
@[simp] theorem dram_clsRebuildOpenBody : (clsRebuildOpenBody rq s).2.dram = s.dram := by simp [clsRebuildOpenBody]

@[simp] theorem dram_clsRebuildWriteBody : (clsRebuildWriteBody rq s).2.dram = s.dram := by
  unfold clsRebuildWriteBody
  dsimp only
  repeat' split
  all_goals simp

@[simp] theorem dram_swapBanks : s.swapBanks.dram = s.dram := by simp [State.swapBanks]
@[simp] theorem dram_clsRebuildCommitBody : (clsRebuildCommitBody rq s).2.dram = s.dram := by simp [clsRebuildCommitBody]
@[simp] theorem dram_clsReadBody : (clsReadBody rq s).2.dram = s.dram := by simp [clsReadBody]
@[simp] theorem dram_onRx (n : Nat) (f : RxFlow → RxFlow) : (s.onRx n f).dram = s.dram := (rfl)
@[simp] theorem dram_onTx (n : Nat) (f : TxFlow → TxFlow) : (s.onTx n f).dram = s.dram := (rfl)
@[simp] theorem dram_rxFlowConfigBody : (rxFlowConfigBody rq s).2.dram = s.dram := by simp [rxFlowConfigBody]
@[simp] theorem dram_applyTx (n : Nat) (c : TxFlowCfg) : (s.applyTx n c).dram = s.dram := by simp [State.applyTx]
@[simp] theorem dram_txFlowConfigBody : (txFlowConfigBody rq s).2.dram = s.dram := by simp [txFlowConfigBody]
@[simp] theorem dram_flowStatusBody : (flowStatusBody rq s).2.dram = s.dram := by simp [flowStatusBody]
@[simp] theorem dram_sendFrameAt (n t : Nat) (f : List Byte) : (s.sendFrameAt n t f).dram = s.dram := by simp [State.sendFrameAt]
@[simp] theorem dram_sendFrame (n : Nat) (f : List Byte) : (s.sendFrame n f).dram = s.dram := by simp [State.sendFrame]

@[simp] theorem dram_sendOrHold (n : Nat) (h : HeldFrame) : (s.sendOrHold n h).dram = s.dram := by
  unfold State.sendOrHold
  repeat' split
  all_goals simp

@[simp] theorem dram_releaseHeld (n : Nat) : (s.releaseHeld n).dram = s.dram := by simp [State.releaseHeld]

@[simp] theorem dram_sendException (n : Nat) (f : List Byte) (h : Option Handle) : (s.sendException n f h).dram = s.dram := by
  simp [State.sendException]

@[simp] theorem dram_frameTxBody : (frameTxBody rq s).2.dram = s.dram := by simp [frameTxBody]
@[simp] theorem dram_frameRxReadBody : (frameRxReadBody rq s).2.dram = s.dram := by simp [frameRxReadBody]
@[simp] theorem dram_ptpPortSetBody : (ptpPortSetBody rq s).2.dram = s.dram := by simp [ptpPortSetBody]
@[simp] theorem dram_flowLost (n : Nat) : (flowLost n s).dram = s.dram := by simp [flowLost]

@[simp] theorem dram_entryAged (set way : Nat) : (entryAged set way s).dram = s.dram := by
  unfold entryAged
  dsimp only
  split <;> simp

@[simp] theorem dram_frameLaunch (n due : Nat) : (frameLaunch n due s).dram = s.dram := by
  unfold frameLaunch
  split <;> simp

end MemoryEthernet

/-! The journal. -/

section MemoryJournal

variable (s : State)

@[simp] theorem dram_journalAdd (r : JournalRec) : (s.journalAdd r).dram = s.dram := (rfl)
@[simp] theorem dram_journalPut (r : JournalRec) : (s.journalPut r).dram = s.dram := by simp [State.journalPut]
@[simp] theorem dram_journalIntent (region : Nat) : (s.journalIntent region).dram = s.dram := by simp [State.journalIntent]
@[simp] theorem dram_journalDone (region : Nat) : (s.journalDone region).dram = s.dram := by simp [State.journalDone]

@[simp] theorem dram_journalSlot (slot : Nat) (st : SlotState) (version : Nat) :
    (s.journalSlot slot st version).dram = s.dram := by simp [State.journalSlot]

end MemoryJournal

/-! Links, the shared operations. -/

section MemoryLinkOps

variable (s : State)

@[simp] theorem dram_linkStart (n : Nat) : (s.linkStart n).dram = s.dram := by simp [State.linkStart]
@[simp] theorem dram_controlTwice (n : Nat) (msg : List Byte) : (s.controlTwice n msg).dram = s.dram := (rfl)
@[simp] theorem dram_failHeld (n : Nat) : (s.failHeld n).dram = s.dram := by simp [State.failHeld]

@[simp] theorem dram_linkLeave (n : Nat) (st : LinkState) (cause : Nat) (reason : Option Nat) :
    (s.linkLeave n st cause reason).dram = s.dram := by
  unfold State.linkLeave
  split <;> simp

@[simp] theorem dram_linkOff (n cause reason : Nat) : (s.linkOff n cause reason).dram = s.dram := by simp [State.linkOff]
@[simp] theorem dram_wakeCause8 : s.wakeCause8.dram = s.dram := by simp [State.wakeCause8]

end MemoryLinkOps

/-! Lanes. -/

section MemoryLaneCmds

variable (rq : Request) (s : State)

@[simp] theorem dram_checkBond (lane : Nat) : (s.checkBond lane).dram = s.dram := by simp [State.checkBond]
@[simp] theorem dram_rxLost (lane cause : Nat) : (s.rxLost lane cause).dram = s.dram := by simp [State.rxLost]

@[simp] theorem dram_stopRole (lane : Nat) : (s.stopRole lane).dram = s.dram := by
  unfold State.stopRole
  split <;> simp

@[simp] theorem dram_setRole (r : LaneRole) (lane : Nat) : (s.setRole r lane).dram = s.dram := by simp [State.setRole]
@[simp] theorem dram_laneRoleSetBody : (laneRoleSetBody rq s).2.dram = s.dram := by simp [laneRoleSetBody]
@[simp] theorem dram_sdiRxConfigBody : (sdiRxConfigBody rq s).2.dram = s.dram := by simp [sdiRxConfigBody]

@[simp] theorem dram_sdiTxConfigBody : (sdiTxConfigBody rq s).2.dram = s.dram := by
  unfold sdiTxConfigBody
  dsimp only
  split <;> simp

@[simp] theorem dram_octantFamilyBody : (octantFamilyBody rq s).2.dram = s.dram := by simp [octantFamilyBody]

@[simp] theorem dram_setBonds (lane links : Nat) (tx : Bool) : (s.setBonds lane links tx).dram = s.dram := by
  simp [State.setBonds]

@[simp] theorem dram_bondSetBody : (bondSetBody rq s).2.dram = s.dram := by simp [bondSetBody]
@[simp] theorem dram_ancFilterSetBody : (ancFilterSetBody rq s).2.dram = s.dram := by simp [ancFilterSetBody]
@[simp] theorem dram_laneTableWriteBody : (laneTableWriteBody rq s).2.dram = s.dram := by simp [laneTableWriteBody]
@[simp] theorem dram_laneTableCommitBody : (laneTableCommitBody rq s).2.dram = s.dram := by simp [laneTableCommitBody]
@[simp] theorem dram_laneTableInfoBody : (laneTableInfoBody rq s).2.dram = s.dram := by simp [laneTableInfoBody]
@[simp] theorem dram_laneInfoBody : (laneInfoBody rq s).2.dram = s.dram := by simp [laneInfoBody]
@[simp] theorem dram_sdiRxStatusBody : (sdiRxStatusBody rq s).2.dram = s.dram := by simp [sdiRxStatusBody]

@[simp] theorem dram_rxLock (lane k : Nat) (family : Bool) (format carriage : Nat) :
    (rxLock lane k family format carriage s).dram = s.dram := by simp [rxLock]

@[simp] theorem dram_payloadId (lane : Nat) (valid : Bool) (id format : Nat) (sampling422 : Bool) (carriage : Nat) :
    (payloadId lane valid id format sampling422 carriage s).dram = s.dram := by simp [payloadId]

@[simp] theorem dram_bondSkew (lane skew : Nat) (member : Bool) : (bondSkew lane skew member s).dram = s.dram := by
  simp [bondSkew]

end MemoryLaneCmds

/-! Plates and DMA. -/

section MemoryMemory

variable (rq : Request) (s : State)

@[simp] theorem dram_plateAllocBody (rq : Request) (s : State) : (plateAllocBody rq s).2.dram = s.dram := by
  simp [plateAllocBody]

@[simp] theorem dram_freePlate (p : Nat) : (s.freePlate p).dram = s.dram := (rfl)
@[simp] theorem dram_plateFreeBody : (plateFreeBody rq s).2.dram = s.dram := by simp [plateFreeBody]

@[simp] theorem dram_unmapEntry (va : Nat) : (s.unmapEntry va).dram = s.dram := by
  unfold State.unmapEntry
  split <;> simp

@[simp] theorem dram_mapEntry (va : Nat) (e : Pte) : (s.mapEntry va e).dram = s.dram := by simp [State.mapEntry]
@[simp] theorem dram_plateMapBody : (plateMapBody rq s).2.dram = s.dram := by simp [plateMapBody]
@[simp] theorem dram_plateUnmapBody : (plateUnmapBody rq s).2.dram = s.dram := by simp [plateUnmapBody]
@[simp] theorem dram_plateReadBody : (plateReadBody rq s).2.dram = s.dram := by simp [plateReadBody]

@[simp] theorem dram_plateExportBody (rq : Request) (s : State) : (plateExportBody rq s).2.dram = s.dram := by
  simp [plateExportBody]

@[simp] theorem dram_frameStoreInfoBody : (frameStoreInfoBody rq s).2.dram = s.dram := by
  unfold frameStoreInfoBody
  dsimp only
  repeat' split
  all_goals simp

@[simp] theorem dram_dmaStart (ch : Nat) : (s.dmaStart ch).dram = s.dram := by simp [State.dmaStart]
@[simp] theorem dram_dmaSubmitBody : (dmaSubmitBody rq s).2.dram = s.dram := by simp [dmaSubmitBody]

@[simp] theorem dram_dmaEnd (ch status cause va : Nat) : (s.dmaEnd ch status cause va).dram = s.dram := by
  unfold State.dmaEnd
  dsimp only
  split <;> simp

@[simp] theorem dram_dmaForget (ch : Nat) : (s.dmaForget ch).dram = s.dram := (rfl)

@[simp] theorem dram_dmaControlBody : (dmaControlBody rq s).2.dram = s.dram := by
  unfold dmaControlBody
  dsimp only
  repeat' split
  all_goals simp

@[simp] theorem dram_dmaStatus (ch : Nat) : (s.dmaStatus ch).2.dram = s.dram := by simp [State.dmaStatus]
@[simp] theorem dram_dmaStatusBody : (dmaStatusBody rq s).2.dram = s.dram := by simp [dmaStatusBody]
@[simp] theorem dram_onStack (n : Nat) (f : Stack → Stack) : (s.onStack n f).dram = s.dram := (rfl)

@[simp] theorem dram_memStatus (n : Nat) (s : State) : (State.memStatus n s).2.dram = s.dram :=
  dram_freeBytes 4 s

@[simp] theorem dram_memStatusBody : (memStatusBody rq s).2.dram = s.dram := by simp [memStatusBody]
@[simp] theorem dram_memConfigBody : (memConfigBody rq s).2.dram = s.dram := by simp [memConfigBody]
@[simp] theorem dram_cacheStatusBody : (cacheStatusBody rq s).2.dram = s.dram := by simp [cacheStatusBody]
@[simp] theorem dram_matrixStatusBody : (matrixStatusBody rq s).2.dram = s.dram := by simp [matrixStatusBody]

@[simp] theorem dram_walkDone (va : Nat) (poisoned : Bool) (s : State) : (walkDone va poisoned s).dram = s.dram := by
  unfold walkDone
  dsimp only
  refine dram_ite_of rfl (dram_ite_of (by simp) ?_)
  refine (dram_each (fun e s => ?_) _ _).trans (by simp)
  split
  · rfl
  · simp

@[simp] theorem dram_eccSeen (offset : Nat) (seen : EccSeen) : (s.eccSeen offset seen).dram = s.dram := by
  unfold State.eccSeen
  split <;> simp

@[simp] theorem dram_dmaRespond (link txid : Nat) (m : List Byte) : (s.dmaRespond link txid m).dram = s.dram := by
  simp [State.dmaRespond]

@[simp] theorem dram_holdLinks (mask us : Nat) : (s.holdLinks mask us).dram = s.dram := by simp [State.holdLinks]
@[simp] theorem dram_releaseLinks : s.releaseLinks.dram = s.dram := by simp [State.releaseLinks]
@[simp] theorem dram_judgeHold : s.judgeHold.dram = s.dram := by simp [State.judgeHold]
@[simp] theorem dram_matrixOrdered (why : MatrixWhy) : (s.matrixOrdered why).dram = s.dram := by simp [State.matrixOrdered]
@[simp] theorem dram_matrixService : s.matrixService.dram = s.dram := by simp [State.matrixService]

end MemoryMemory

/-! Audio, the shared operations. -/

section MemoryAudioOps

variable (s : State)

@[simp] theorem dram_onADest (d : Nat) (f : AudioDest → AudioDest) : (s.onADest d f).dram = s.dram := (rfl)
@[simp] theorem dram_onASrc (c : Nat) (f : AudioSrc → AudioSrc) : (s.onASrc c f).dram = s.dram := (rfl)
@[simp] theorem dram_onAes (out : Bool) (p : Nat) (f : AesPort → AesPort) : (s.onAes out p f).dram = s.dram := (rfl)
@[simp] theorem dram_onSet (n : Nat) (f : ParamSet → ParamSet) : (s.onSet n f).dram = s.dram := (rfl)
@[simp] theorem dram_rtFault (ch cause va : Nat) : (s.rtFault ch cause va).dram = s.dram := by simp [State.rtFault]

@[simp] theorem dram_rtRead (va n : Nat) (s : State) : (State.rtRead va n s).2.dram = s.dram := by
  refine dram_foldl (fun x r => ?_) _ _
  dsimp only
  split
  · exact dram_dramRead _ _ _
  · rfl

@[simp] theorem dram_freeInts (n : Nat) (s : State) : (State.freeInts n s).2.dram = s.dram := by
  induction n generalizing s with
  | zero => rfl
  | succ n ih => exact (ih _).trans (dram_freeInt s)

end MemoryAudioOps

/-! Audio. -/

section MemoryAudio

variable (rq : Request) (s : State)

@[simp] theorem dram_audioConfigBody : (audioConfigBody rq s).2.dram = s.dram := by simp [audioConfigBody]
@[simp] theorem dram_audioRouteSetBody : (audioRouteSetBody rq s).2.dram = s.dram := by simp [audioRouteSetBody]
@[simp] theorem dram_audioRouteReadBody : (audioRouteReadBody rq s).2.dram = s.dram := by simp [audioRouteReadBody]
@[simp] theorem dram_switchRoutes (domB : Bool) (b : Nat) : (s.switchRoutes domB b).dram = s.dram := by simp [State.switchRoutes]
@[simp] theorem dram_aesPortConfigBody : (aesPortConfigBody rq s).2.dram = s.dram := by simp [aesPortConfigBody]
@[simp] theorem dram_aesStatusBody : (aesStatusBody rq s).2.dram = s.dram := by simp [aesStatusBody]
@[simp] theorem dram_aesStartBody : (aesStartBody rq s).2.dram = s.dram := by simp [aesStartBody]
@[simp] theorem dram_aesPortRestartBody : (aesPortRestartBody rq s).2.dram = s.dram := by simp [aesPortRestartBody]
@[simp] theorem dram_portRestarted (out : Bool) (port : Nat) : (portRestarted out port s).dram = s.dram := by simp [portRestarted]
@[simp] theorem dram_audioFlowMapBody : (audioFlowMapBody rq s).2.dram = s.dram := by simp [audioFlowMapBody]
@[simp] theorem dram_audioTrunkSetBody : (audioTrunkSetBody rq s).2.dram = s.dram := by simp [audioTrunkSetBody]
@[simp] theorem dram_audioBufferSetBody : (audioBufferSetBody rq s).2.dram = s.dram := by simp [audioBufferSetBody]
@[simp] theorem dram_audioBufferStatusBody : (audioBufferStatusBody rq s).2.dram = s.dram := by simp [audioBufferStatusBody]
@[simp] theorem dram_silenceConfigBody : (silenceConfigBody rq s).2.dram = s.dram := by simp [silenceConfigBody]

@[simp] theorem dram_powerOutputs (src : Nat) (s : State) : (State.powerOutputs src s).dram = s.dram := by
  refine dram_each (fun n s => ?_) _ _
  dsimp only
  split <;> simp

@[simp] theorem dram_audioBlockMeasured (c peak : Nat) : (audioBlockMeasured c peak s).dram = s.dram := by
  simp [audioBlockMeasured]

@[simp] theorem dram_silence (c : Nat) : (silence c s).dram = s.dram := by
  unfold silence
  dsimp only
  split <;> simp

@[simp] theorem dram_safeloadWriteBody : (safeloadWriteBody rq s).2.dram = s.dram := by simp [safeloadWriteBody]

@[simp] theorem dram_safeloadSwapBody : (safeloadSwapBody rq s).2.dram = s.dram := by
  unfold safeloadSwapBody
  dsimp only
  repeat' split
  all_goals simp

@[simp] theorem dram_safeloadDone (n : Nat) : (safeloadDone n s).dram = s.dram := by
  unfold safeloadDone
  dsimp only
  split <;> simp

@[simp] theorem dram_channelStatusBody : (channelStatusBody rq s).2.dram = s.dram := by simp [channelStatusBody]
@[simp] theorem dram_takeBlock (c b : Nat) (samples : List Int) : (s.takeBlock c b samples).dram = s.dram := (rfl)
@[simp] theorem dram_arrive (b : Nat) (x : ChannelBlock) : (s.arrive b x).dram = s.dram := by simp [State.arrive]

@[simp] theorem dram_takePackets (domB : Bool) (b : Nat) (s : State) : (State.takePackets domB b s).dram = s.dram := by
  refine dram_each (fun e s => ?_) _ _
  dsimp only
  split
  · rfl
  · split <;> simp

@[simp] theorem dram_playout (domB : Bool) (b : Nat) (s : State) : (State.playout domB b s).dram = s.dram := by
  refine dram_each (fun e s => ?_) _ _
  dsimp only
  split
  · rfl
  · split
    · simp
    · rw [dram_onAudio]
      refine (dram_each (fun _ _ => by simp) _ _).trans (dram_foldl ?_ _ _)
      exact fun x i => dram_rtRead _ _ _

@[simp] theorem dram_routeBlock (d src b : Nat) : (s.routeBlock d src b).2.dram = s.dram := by simp [State.routeBlock]

@[simp] theorem dram_mixDest (d b : Nat) : (s.mixDest d b).dram = s.dram := by
  unfold State.mixDest
  dsimp only
  split <;> simp

@[simp] theorem dram_feedProcess (d b : Nat) : (s.feedProcess d b).dram = s.dram := by
  unfold State.feedProcess
  split <;> simp

@[simp] theorem dram_sendBundles (domB : Bool) (b : Nat) : (s.sendBundles domB b).dram = s.dram := by simp [State.sendBundles]

@[simp] theorem dram_aesDigests (domB : Bool) (b : Nat) (s : State) : (State.aesDigests domB b s).dram = s.dram := by
  refine dram_each (fun n s => ?_) _ _
  dsimp only
  split
  · rfl
  · refine (dram_digestOn _ _ _ _ _ _).trans ?_
    split
    · exact dram_freeInts _ _
    · rfl

@[simp] theorem dram_aesBlock (port : Nat) (sub : Bool) (cs us : List Byte) : (aesBlock port sub cs us s).dram = s.dram := by
  simp [aesBlock]

@[simp] theorem dram_pairSlip (out : Bool) (port : Nat) (overflow : Bool) : (pairSlip out port overflow s).dram = s.dram := by
  simp [pairSlip]

@[simp] theorem dram_startPorts (a : AesStartArmed) : (s.startPorts a).dram = s.dram := by simp [State.startPorts]
@[simp] theorem dram_aesStartIndex : (aesStartIndex s).dram = s.dram := by simp [aesStartIndex]

end MemoryAudio

/-! The Chord engines. -/

section MemoryChord

variable (rq : Request) (s : State)

@[simp] theorem dram_onProc (n : Nat) (f : Process → Process) : (s.onProc n f).dram = s.dram := (rfl)
@[simp] theorem dram_engineConfigBody : (engineConfigBody rq s).2.dram = s.dram := by simp [engineConfigBody]
@[simp] theorem dram_engineStatusBody : (engineStatusBody rq s).2.dram = s.dram := by simp [engineStatusBody]
@[simp] theorem dram_procCreateBody : (procCreateBody rq s).2.dram = s.dram := by simp [procCreateBody]

@[simp] theorem dram_procDeleteBody : (procDeleteBody rq s).2.dram = s.dram := by
  unfold procDeleteBody
  dsimp only
  split <;> simp

@[simp] theorem dram_progWriteBody : (progWriteBody rq s).2.dram = s.dram := by simp [progWriteBody]
@[simp] theorem dram_progCheckBody : (progCheckBody rq s).2.dram = s.dram := by simp [progCheckBody]

@[simp] theorem dram_place (id : Nat) (q : Process) (x : Placement) (image : Image) :
    (s.place id q x image).dram = s.dram := (rfl)

@[simp] theorem dram_procPlaceBody : (procPlaceBody rq s).2.dram = s.dram := by
  unfold procPlaceBody
  dsimp only
  repeat' split
  all_goals simp

@[simp] theorem dram_placeStarted (id epoch : Nat) : (placeStarted id epoch s).dram = s.dram := by
  unfold placeStarted
  repeat' split
  all_goals simp

@[simp] theorem dram_procUnplaceBody : (procUnplaceBody rq s).2.dram = s.dram := by
  unfold procUnplaceBody
  dsimp only
  repeat' split
  all_goals simp

@[simp] theorem dram_freePlacement (id : Nat) (x : Placement) (cause index : Nat) :
    (s.freePlacement id x cause index).dram = s.dram := by simp [State.freePlacement]

@[simp] theorem dram_placeStopped (id epoch : Nat) : (placeStopped id epoch s).dram = s.dram := by
  unfold placeStopped
  repeat' split
  all_goals simp

@[simp] theorem dram_pmUncorrectable (e id : Nat) : (pmUncorrectable e id s).dram = s.dram := by
  unfold pmUncorrectable
  repeat' split
  all_goals simp

@[simp] theorem dram_procStatusBody : (procStatusBody rq s).2.dram = s.dram := by
  unfold procStatusBody
  dsimp only
  split <;> simp

@[simp] theorem dram_dmReadBody : (dmReadBody rq s).2.dram = s.dram := by
  unfold dmReadBody
  dsimp only
  repeat' split
  all_goals simp

@[simp] theorem dram_lineFault (n cause va : Nat) : (s.lineFault n cause va).dram = s.dram := by simp [State.lineFault]

@[simp] theorem dram_lineReturn (n s0 blk : Nat) (l : DelayLine) (s : State) : (State.lineReturn n s0 blk l s).2.dram = s.dram := by
  unfold State.lineReturn
  dsimp only
  split
  · exact dram_lineFault _ _ _ _
  · refine dram_foldl ?_ _ _
    exact fun x i => dram_rtRead _ _ _

@[simp] theorem dram_countDropped (id epoch first n : Nat) : (s.countDropped id epoch first n).dram = s.dram := by
  simp [State.countDropped]

@[simp] theorem dram_enterRest (id index : Nat) (q : Process) : (s.enterRest id index q).dram = s.dram := by
  simp [State.enterRest]

@[simp] theorem dram_seeEpoch (id epoch first last : Nat) : (s.seeEpoch id epoch first last).dram = s.dram := (rfl)

@[simp] theorem dram_migrateCutBody : (migrateCutBody rq s).2.dram = s.dram := by
  unfold migrateCutBody
  dsimp only
  split <;> simp

@[simp] theorem dram_epochCut (id : Nat) : (epochCut id s).dram = s.dram := by
  unfold epochCut
  split <;> simp

@[simp] theorem dram_bundleFrame (b : Nat) (frame : List Byte) : (s.bundleFrame b frame).dram = s.dram := by
  simp [State.bundleFrame]

end MemoryChord

/-! Frames received. -/

section MemoryEthRx

variable (s : State)

@[simp] theorem dram_exception (n : Nat) (f : List Byte) : (s.exception n f).dram = s.dram := by simp [State.exception]
@[simp] theorem dram_judgeSkew (n : Nat) : (s.judgeSkew n).dram = s.dram := by simp [State.judgeSkew]

@[simp] theorem dram_flowFrame (n ts : Nat) : (s.flowFrame n ts).dram = s.dram := by
  unfold State.flowFrame
  dsimp only
  split <;> simp

@[simp] theorem dram_onFrames (n : Nat) (g : List Frame → List Frame) : (s.onFrames n g).dram = s.dram := (rfl)
@[simp] theorem dram_countMissing (n : Nat) (add : Int) (ts : Option Nat) : (s.countMissing n add ts).dram = s.dram := (rfl)

@[simp] theorem dram_usePacket (n : Nat) (r : Rtp) (before : Option Nat) : (s.usePacket n r before).dram = s.dram := by
  unfold State.usePacket
  dsimp only
  split <;> simp

@[simp] theorem dram_videoPacket (n : Nat) (r : Rtp) : (s.videoPacket n r).dram = s.dram := (rfl)
@[simp] theorem dram_ancPacket (n : Nat) (r : Rtp) : (s.ancPacket n r).dram = s.dram := (rfl)
@[simp] theorem dram_statusBits (c : Nat) (heads : List Nat) : (s.statusBits c heads).dram = s.dram := by simp [State.statusBits]

@[simp] theorem dram_audioPacket (n : Nat) (r : Rtp) : (s.audioPacket n r).dram = s.dram := by
  unfold State.audioPacket
  dsimp only
  split <;> simp

@[simp] theorem dram_takeContent (n : Nat) (r : Rtp) : (s.takeContent n r).dram = s.dram := by
  unfold State.takeContent
  split <;> simp

@[simp] theorem dram_merge (n : Nat) (legB : Bool) (r : Rtp) (before : Option Nat) : (s.merge n legB r before).dram = s.dram := by
  simp [State.merge]

@[simp] theorem dram_flowPacket (n : Nat) (legB : Bool) (p : List Byte) : (s.flowPacket n legB p).dram = s.dram := by
  unfold State.flowPacket
  dsimp only
  split <;> simp

@[simp] theorem dram_goodFrame (n : Nat) (f : List Byte) : (s.goodFrame n f).dram = s.dram := by
  unfold State.goodFrame
  dsimp only
  repeat' split
  all_goals simp

@[simp] theorem dram_ethFrame (n : Nat) (f : List Byte) : (ethFrame n f s).dram = s.dram := by simp [ethFrame]

end MemoryEthRx

/-! Imposition. -/

section MemoryImposition

variable (rq : Request) (s : State)

@[simp] theorem dram_onSheet (n : Nat) (f : Sheet → Sheet) : (s.onSheet n f).dram = s.dram := (rfl)

@[simp] theorem dram_enableSheet (n format carriage : Nat) (offset : Int) (bg : Int × Int × Int) :
    (s.enableSheet n format carriage offset bg).2.dram = s.dram := by simp [State.enableSheet]

@[simp] theorem dram_sheetConfigBody : (sheetConfigBody rq s).2.dram = s.dram := by simp [sheetConfigBody]
@[simp] theorem dram_sheetOrderBody : (sheetOrderBody rq s).2.dram = s.dram := by simp [sheetOrderBody]
@[simp] theorem dram_pageSetBody : (pageSetBody rq s).2.dram = s.dram := by simp [pageSetBody]
@[simp] theorem dram_pageReadBody : (pageReadBody rq s).2.dram = s.dram := by simp [pageReadBody]
@[simp] theorem dram_impInputConfigBody : (impInputConfigBody rq s).2.dram = s.dram := by simp [impInputConfigBody]
@[simp] theorem dram_sheetStatusBody : (sheetStatusBody rq s).2.dram = s.dram := by simp [sheetStatusBody]

@[simp] theorem dram_swapSheet (n : Nat) : (s.swapSheet n).dram = s.dram := by
  unfold State.swapSheet
  dsimp only
  split <;> simp

@[simp] theorem dram_swapConfig (n : Nat) : (s.swapConfig n).dram = s.dram := by
  unfold State.swapConfig
  split <;> simp

@[simp] theorem dram_readPage (input : Nat) : (s.readPage input).dram = s.dram := by
  unfold State.readPage
  dsimp only
  repeat' split
  all_goals simp

@[simp] theorem dram_composeAt (pages : List (Nat × Page)) (bg : Int × Int × Int) (pixels : List PixelIn) (p : PixelIn) :
    (s.composeAt pages bg pixels p).2.dram = s.dram := by
  unfold State.composeAt
  dsimp only
  repeat' split
  all_goals simp

@[simp] theorem dram_composeSheet (n : Nat) (pixels : List PixelIn) (poisoned : List Nat) (s : State) :
    (State.composeSheet n pixels poisoned s).dram = s.dram := by
  unfold State.composeSheet
  dsimp only
  rw [dram_writeFrame, dram_onSheet]
  refine (dram_foldl ?_ _ _).trans ?_
  · exact fun x p => dram_composeAt _ _ _ _ _
  · dsimp only
    split <;> simp

@[simp] theorem dram_repeatSheet (n : Nat) : (s.repeatSheet n).dram = s.dram := (rfl)

@[simp] theorem dram_sheetFrameStart (n : Nat) (pixels : List PixelIn) (poisoned : List Nat) :
    (sheetFrameStart n pixels poisoned s).dram = s.dram := by simp [sheetFrameStart]

end MemoryImposition

/-! The reference, the shared operations. -/

section MemoryTimeOps

variable (s : State)

@[simp] theorem dram_onCand (i : Nat) (f : Candidate → Candidate) : (s.onCand i f).dram = s.dram := (rfl)
@[simp] theorem dram_aim : s.aim.dram = s.dram := (rfl)
@[simp] theorem dram_setRef (st : RefState) : (s.setRef st).dram = s.dram := by simp [State.setRef]
@[simp] theorem dram_refLost : s.refLost.dram = s.dram := by simp [State.refLost]
@[simp] theorem dram_markPassed (n b : Nat) : (s.markPassed n b).dram = s.dram := (rfl)
@[simp] theorem dram_stepTo (t40 : Nat) : (s.stepTo t40).dram = s.dram := by simp [State.stepTo]
@[simp] theorem dram_acquire (i : Nat) (mayStep : Bool) : (s.acquire i mayStep).dram = s.dram := by simp [State.acquire]

@[simp] theorem dram_reselect (mayStep : Bool) : (s.reselect mayStep).dram = s.dram := by
  unfold State.reselect
  repeat' split
  all_goals simp

@[simp] theorem dram_onPtp (port : Nat) (f : PtpInst → PtpInst) : (s.onPtp port f).dram = s.dram := (rfl)
@[simp] theorem dram_candidateGone (i : Nat) : (s.candidateGone i).dram = s.dram := by simp [State.candidateGone]

@[simp] theorem dram_fallbackLost : s.fallbackLost.dram = s.dram := by
  unfold State.fallbackLost
  dsimp only
  split <;> simp

@[simp] theorem dram_captureEdge (source t frac : Nat) : (s.captureEdge source t frac).dram = s.dram := by
  simp [State.captureEdge]

end MemoryTimeOps

/-! Time. -/

section MemoryTime

variable (rq : Request) (s : State)

@[simp] theorem dram_timeReadBody : (timeReadBody rq s).2.dram = s.dram := by simp [timeReadBody]
@[simp] theorem dram_timeSetBody : (timeSetBody rq s).2.dram = s.dram := by simp [timeSetBody]
@[simp] theorem dram_refConfigBody : (refConfigBody rq s).2.dram = s.dram := by simp [refConfigBody]
@[simp] theorem dram_refGlobalBody : (refGlobalBody rq s).2.dram = s.dram := by simp [refGlobalBody]
@[simp] theorem dram_refStatusBody : (refStatusBody rq s).2.dram = s.dram := by simp [refStatusBody]
@[simp] theorem dram_ptpConfigBody : (ptpConfigBody rq s).2.dram = s.dram := by simp [ptpConfigBody]
@[simp] theorem dram_ptpStatusBody : (ptpStatusBody rq s).2.dram = s.dram := by simp [ptpStatusBody]
@[simp] theorem dram_freqTrimBody : (freqTrimBody rq s).2.dram = s.dram := by simp [freqTrimBody]
@[simp] theorem dram_captureConfigBody : (captureConfigBody rq s).2.dram = s.dram := by simp [captureConfigBody]
@[simp] theorem dram_captureReadBody : (captureReadBody rq s).2.dram = s.dram := by simp [captureReadBody]
@[simp] theorem dram_clkmonSetBody : (clkmonSetBody rq s).2.dram = s.dram := by simp [clkmonSetBody]
@[simp] theorem dram_clockStatusBody : (clockStatusBody rq s).2.dram = s.dram := by simp [clockStatusBody]
@[simp] theorem dram_tcConfigBody : (tcConfigBody rq s).2.dram = s.dram := by simp [tcConfigBody]

@[simp] theorem dram_servoUpdate (phaseNs freqErr : Int) : (servoUpdate phaseNs freqErr s).dram = s.dram := by
  unfold servoUpdate
  split <;> simp

@[simp] theorem dram_candidateQualified (i : Nat) (offsetNs freqPpb : Int) :
    (candidateQualified i offsetNs freqPpb s).dram = s.dram := by simp [candidateQualified]

@[simp] theorem dram_holdoverExpiry : (holdoverExpiry s).dram = s.dram := by simp [holdoverExpiry]

@[simp] theorem dram_refSyncEdge (i at_ frac assigned : Nat) : (refSyncEdge i at_ frac assigned s).dram = s.dram := by
  simp [refSyncEdge]

@[simp] theorem dram_sendDelayReq (port : Nat) (mac : List Byte) (ip : Nat) : (s.sendDelayReq port mac ip).dram = s.dram := by
  simp [State.sendDelayReq]

@[simp] theorem dram_ptpMessage (port : Nat) (msg : PtpMsg) : (ptpMessage port msg s).dram = s.dram := by
  unfold ptpMessage
  split <;> simp

@[simp] theorem dram_vc3Bad (n : Nat) : (s.vc3Bad n).dram = s.dram := (rfl)

@[simp] theorem dram_timeSync (n : Nat) (m : List Byte) (arrival : Nat) : (timeSync n m arrival s).dram = s.dram := by
  simp [timeSync]

@[simp] theorem dram_delayReq (n : Nat) (m : List Byte) (arrival frac : Nat) : (delayReq n m arrival frac s).dram = s.dram := by
  simp [delayReq]

@[simp] theorem dram_delayResp (n : Nat) (m : List Byte) : (delayResp n m s).dram = s.dram := by simp [delayResp]

@[simp] theorem dram_raiseFallback (clock islands : Nat) : (s.raiseFallback clock islands).dram = s.dram := by
  unfold State.raiseFallback
  dsimp only
  repeat' split
  all_goals simp

@[simp] theorem dram_toFallback (clock islands : Nat) : (s.toFallback clock islands).dram = s.dram := by simp [State.toFallback]
@[simp] theorem dram_fromFallback (clock : Nat) : (s.fromFallback clock).dram = s.dram := by simp [State.fromFallback]
@[simp] theorem dram_clockWindow (c count : Nat) : (clockWindow c count s).dram = s.dram := by simp [clockWindow]

end MemoryTime

/-! Twins. -/

section MemoryTwins

variable (rq : Request) (s : State)

@[simp] theorem dram_sendCopy (segment : List Byte) : (s.sendCopy segment).dram = s.dram := by simp [State.sendCopy]
@[simp] theorem dram_tellTwin (segment : List Byte) : (s.tellTwin segment).dram = s.dram := by simp [State.tellTwin]
@[simp] theorem dram_startPair (h : Option Handle) : (s.startPair h).dram = s.dram := by simp [State.startPair]
@[simp] theorem dram_discardConfig : s.discardConfig.dram = s.dram := by simp [State.discardConfig]
@[simp] theorem dram_sendConfig : s.sendConfig.dram = s.dram := by simp [State.sendConfig]

@[simp] theorem dram_sendContent (s : State) : (State.sendContent s).dram = s.dram := by
  unfold State.sendContent
  refine dram_ite_of (by simp) ?_
  extract_lets plate off n
  have hread := dram_dramRead s (plate * plateBytes + off) n
  generalize s.dramRead (plate * plateBytes + off) n = read at hread ⊢
  obtain ⟨data, t⟩ := read
  exact (dram_sendCopy _ _).trans hread

@[simp] theorem dram_copyAnswered (segment : List Byte) (status : Nat) (p : List Byte) :
    (s.copyAnswered segment status p).dram = s.dram := by simp [State.copyAnswered]

@[simp] theorem dram_settled : (settled s).dram = s.dram := by simp [settled]
@[simp] theorem dram_twinPairBody : (twinPairBody rq s).2.dram = s.dram := by simp [twinPairBody]
@[simp] theorem dram_autoPair : (autoPair s).dram = s.dram := by simp [autoPair]
@[simp] theorem dram_resumePair (link : Nat) : (s.resumePair link).dram = s.dram := by simp [State.resumePair]
@[simp] theorem dram_dissolve : s.dissolve.dram = s.dram := by simp [State.dissolve]
@[simp] theorem dram_twinConfigBody : (twinConfigBody rq s).2.dram = s.dram := by simp [twinConfigBody]
@[simp] theorem dram_twinSwapBody : (twinSwapBody rq s).2.dram = s.dram := by simp [twinSwapBody]

@[simp] theorem dram_twinSwapDue : (twinSwapDue s).dram = s.dram := by
  unfold twinSwapDue
  split <;> simp

@[simp] theorem dram_twinStatusBody : (twinStatusBody rq s).2.dram = s.dram := by simp [twinStatusBody]

@[simp] theorem dram_twinHealthBody : (twinHealthBody rq s).2.dram = s.dram := by
  unfold twinHealthBody
  repeat' split
  all_goals simp

@[simp] theorem dram_sdiDigests : s.sdiDigests.2.dram = s.dram := by
  simp [State.sdiDigests]

@[simp] theorem dram_digestsSend : (digestsSend s).dram = s.dram := by simp [digestsSend]
@[simp] theorem dram_compareUnit (r : DigestRec) (own : Nat) : (s.compareUnit r own).dram = s.dram := by simp [State.compareUnit]

@[simp] theorem dram_compareDigest (r : DigestRec) : (s.compareDigest r).dram = s.dram := by
  unfold State.compareDigest
  dsimp only
  repeat' split
  all_goals simp

@[simp] theorem dram_digests (rq : Request) : (digests rq s).dram = s.dram := by simp [digests]
@[simp] theorem dram_healthSend : (healthSend s).dram = s.dram := by simp [healthSend]
@[simp] theorem dram_health (rq : Request) : (health rq s).dram = s.dram := by simp [health]
@[simp] theorem dram_healthLate : (healthLate s).dram = s.dram := by simp [healthLate]
@[simp] theorem dram_resendRuns : s.resendRuns.dram = s.dram := by simp [State.resendRuns]
@[simp] theorem dram_takeOver : (takeOver s).dram = s.dram := by simp [takeOver]

@[simp] theorem dram_twinPeerChange (level : Bool) : (twinPeerChange level s).dram = s.dram := by
  unfold twinPeerChange
  dsimp only
  repeat' split
  all_goals simp

@[simp] theorem dram_contention : (contention s).dram = s.dram := by simp [contention]

end MemoryTwins

/-! The fault collector. -/

section MemoryFaults

variable (rq : Request) (s : State)

@[simp] theorem dram_entryEvent (e : FaultMsg) : (s.entryEvent e).dram = s.dram := by simp [State.entryEvent]
@[simp] theorem dram_safeEntered (e : FaultMsg) : (s.safeEntered e).dram = s.dram := by simp [State.safeEntered]
@[simp] theorem dram_logFault (e : FaultMsg) : (s.logFault e).dram = s.dram := by simp [State.logFault]

@[simp] theorem dram_faultLogEntry : (faultLogEntry s).dram = s.dram := by
  unfold faultLogEntry
  split <;> simp

@[simp] theorem dram_selfParity (register : Nat) : (selfParity register s).dram = s.dram := by simp [selfParity]
@[simp] theorem dram_faultNRelease : (faultNRelease s).dram = s.dram := by simp [faultNRelease]
@[simp] theorem dram_faultReadBody : (faultReadBody rq s).2.dram = s.dram := by simp [faultReadBody]
@[simp] theorem dram_faultSeveritySetBody : (faultSeveritySetBody rq s).2.dram = s.dram := by simp [faultSeveritySetBody]
@[simp] theorem dram_faultCountersBody : (faultCountersBody rq s).2.dram = s.dram := by simp [faultCountersBody]
@[simp] theorem dram_faultAckBody : (faultAckBody rq s).2.dram = s.dram := by simp [faultAckBody]
@[simp] theorem dram_safeClearBody : (safeClearBody rq s).2.dram = s.dram := by simp [safeClearBody]
@[simp] theorem dram_faultNControlBody : (faultNControlBody rq s).2.dram = s.dram := by simp [faultNControlBody]
@[simp] theorem dram_faultStatusBody : (faultStatusBody rq s).2.dram = s.dram := by simp [faultStatusBody]
@[simp] theorem dram_faultInjectBody : (faultInjectBody rq s).2.dram = s.dram := by simp [faultInjectBody]

@[simp] theorem dram_snapshotReadBody : (snapshotReadBody rq s).2.dram = s.dram := by
  unfold snapshotReadBody
  dsimp only
  repeat' split
  all_goals simp

@[simp] theorem dram_stick (source kind detail : Nat) : (s.stick source kind detail).dram = s.dram := (rfl)
@[simp] theorem dram_armReset (t cause : Nat) : (s.armReset t cause).dram = s.dram := (rfl)

end MemoryFaults

/-! Power. -/

section MemoryPower

variable (rq : Request) (s : State)

@[simp] theorem dram_packageMw : s.packageMw.2.dram = s.dram := (rfl)
@[simp] theorem dram_lanesDormant : s.lanesDormant.dram = s.dram := by simp [State.lanesDormant]
@[simp] theorem dram_choosePower : s.choosePower.dram = s.dram := by simp [State.choosePower]
@[simp] theorem dram_dormantTime : s.dormantTime.dram = s.dram := by simp [State.dormantTime]
@[simp] theorem dram_dormantEntryStep : (dormantEntryStep s).dram = s.dram := by simp [dormantEntryStep]
@[simp] theorem dram_islandWakeRequest (d : Nat) : (islandWakeRequest d s).dram = s.dram := by simp [islandWakeRequest]

@[simp] theorem dram_wakeStep : (wakeStep s).dram = s.dram := by
  unfold wakeStep
  dsimp only
  repeat' split
  all_goals simp

@[simp] theorem dram_powerBudgetSetBody : (powerBudgetSetBody rq s).2.dram = s.dram := by simp [powerBudgetSetBody]
@[simp] theorem dram_powerStatusBody : (powerStatusBody rq s).2.dram = s.dram := by simp [powerStatusBody]
@[simp] theorem dram_wakeConfigBody : (wakeConfigBody rq s).2.dram = s.dram := by simp [wakeConfigBody]
@[simp] theorem dram_domainStatusBody : (domainStatusBody rq s).2.dram = s.dram := by simp [domainStatusBody]

@[simp] theorem dram_railStatusBody : (railStatusBody rq s).2.dram = s.dram := by
  simp [railStatusBody]

@[simp] theorem dram_kaFault (kind detail : Nat) : (s.kaFault kind detail).dram = s.dram := by simp [State.kaFault]
@[simp] theorem dram_rail (i mv : Nat) : (rail i mv s).dram = s.dram := by simp [rail]
@[simp] theorem dram_tempRead (readings : List Int) : (tempRead readings s).dram = s.dram := by simp [tempRead]

end MemoryPower

/-! Proof runs. -/

section MemoryProof

variable (rq : Request) (s : State)

@[simp] theorem dram_writeResult (r : ProofRec) : (s.writeResult r).dram = s.dram := (rfl)

@[simp] theorem dram_proofFailed (code run test unit seq : Nat) : (s.proofFailed code run test unit seq).dram = s.dram := by
  simp [State.proofFailed]

@[simp] theorem dram_onRun (f : ProofRunSt → ProofRunSt) : (s.onRun f).dram = s.dram := (rfl)
@[simp] theorem dram_offerRun : s.offerRun.dram = s.dram := (rfl)

@[simp] theorem dram_checkRunEnd (n : Nat) (s : State) : (State.checkRunEnd n s).dram = s.dram := by
  induction n generalizing s with
  | zero => rfl
  | succ n ih =>
    unfold State.checkRunEnd
    split
    · rfl
    · split
      · rfl
      · simp [ih]

@[simp] theorem dram_runsEnd : s.runsEnd.dram = s.dram := by simp [State.runsEnd]
@[simp] theorem dram_matrixAfter : s.matrixAfter.dram = s.dram := by simp [State.matrixAfter]

@[simp] theorem dram_endStep (x : ProofStep) (result coverage cause durationUs detail : Nat) :
    (s.endStep x result coverage cause durationUs detail).dram = s.dram := by
  unfold State.endStep
  split <;> simp

@[simp] theorem dram_proofStepStart : (proofStepStart s).dram = s.dram := by
  unfold proofStepStart
  dsimp only
  repeat' split
  all_goals simp

@[simp] theorem dram_proofStepDone (test unit : Nat) (seen : ProofSeen) : (proofStepDone test unit seen s).dram = s.dram := by
  unfold proofStepDone
  split <;> simp

@[simp] theorem dram_proofStepAbort (test unit : Nat) : (proofStepAbort test unit s).dram = s.dram := by
  unfold proofStepAbort
  split <;> simp

@[simp] theorem dram_liveSlice (test unit : Nat) (seen : ProofSeen) : (liveSlice test unit seen s).dram = s.dram := by
  simp [liveSlice]

@[simp] theorem dram_proofRunBody : (proofRunBody rq s).2.dram = s.dram := by simp [proofRunBody]

@[simp] theorem dram_proofCancelBody : (proofCancelBody rq s).2.dram = s.dram := by
  unfold proofCancelBody
  dsimp only
  repeat' split
  all_goals simp

@[simp] theorem dram_proofResultsBody : (proofResultsBody rq s).2.dram = s.dram := by simp [proofResultsBody]
@[simp] theorem dram_proofLiveBody : (proofLiveBody rq s).2.dram = s.dram := by simp [proofLiveBody]
@[simp] theorem dram_proofStatusBody : (proofStatusBody rq s).2.dram = s.dram := by simp [proofStatusBody]

end MemoryProof

/-! The life cycle and the key slots. -/

section MemoryLife

variable (rq : Request) (s : State)

@[simp] theorem dram_onSlot (n : Nat) (f : KeySlot → KeySlot) : (s.onSlot n f).dram = s.dram := (rfl)
@[simp] theorem dram_useSlot (n usage : Nat) : (s.useSlot n usage).2.dram = s.dram := by simp [State.useSlot]
@[simp] theorem dram_keyInfoBody : (keyInfoBody rq s).2.dram = s.dram := by simp [keyInfoBody]
@[simp] theorem dram_keyLoadBody : (keyLoadBody rq s).2.dram = s.dram := by simp [keyLoadBody]

@[simp] theorem dram_keyImportBody : (keyImportBody rq s).2.dram = s.dram := by
  unfold keyImportBody
  dsimp only
  repeat' split
  all_goals simp

@[simp] theorem dram_keyDeriveBody : (keyDeriveBody rq s).2.dram = s.dram := by simp [keyDeriveBody]

@[simp] theorem dram_keyUseBody : (keyUseBody rq s).2.dram = s.dram := by
  unfold keyUseBody
  dsimp only
  repeat' split
  all_goals simp

@[simp] theorem dram_keyClearBody : (keyClearBody rq s).2.dram = s.dram := by simp [keyClearBody]
@[simp] theorem dram_lcStatusBody : (lcStatusBody rq s).2.dram = s.dram := by simp [lcStatusBody]

@[simp] theorem dram_lcTransitionBody : (lcTransitionBody rq s).2.dram = s.dram := by
  unfold lcTransitionBody
  dsimp only
  repeat' split
  all_goals simp

@[simp] theorem dram_lcProvisionBody (enrolled : Bool) : (lcProvisionBody enrolled rq s).2.dram = s.dram := by
  simp [lcProvisionBody]

end MemoryLife

/-! Folios. -/

section MemoryFolio

variable (rq : Request) (s : State)

@[simp] theorem dram_onFolio (n : Nat) (f : FolioSlot → FolioSlot) : (s.onFolio n f).dram = s.dram := (rfl)

@[simp] theorem dram_checkFolio (p : List Byte) (length : Nat) : (s.checkFolio p length).2.2.dram = s.dram := by
  unfold State.checkFolio
  dsimp only
  repeat' split
  all_goals simp

@[simp] theorem dram_startStore (length : Nat) (h : Handle) (fromLink : Option Nat) :
    (s.startStore length h fromLink).dram = s.dram := by simp [State.startStore]

@[simp] theorem dram_startRelay (version : Nat) : (s.startRelay version).dram = s.dram := by simp [State.startRelay]

@[simp] theorem dram_folioStoreDone (flashOk : Bool) : (folioStoreDone flashOk s).dram = s.dram := by
  unfold folioStoreDone
  split <;> simp

@[simp] theorem dram_stage (offset : Nat) (data : List Byte) : (s.stage offset data).dram = s.dram := (rfl)
@[simp] theorem dram_folioLoadBody : (folioLoadBody rq s).2.dram = s.dram := by simp [folioLoadBody]
@[simp] theorem dram_folioStoreBody : (folioStoreBody rq s).2.dram = s.dram := by simp [folioStoreBody]
@[simp] theorem dram_folioOfferBody : (folioOfferBody rq s).2.dram = s.dram := by simp [folioOfferBody]
@[simp] theorem dram_folioSegmentBody : (folioSegmentBody rq s).2.dram = s.dram := by simp [folioSegmentBody]
@[simp] theorem dram_folioEndBody : (folioEndBody rq s).2.dram = s.dram := by simp [folioEndBody]

@[simp] theorem dram_activate (op slot : Nat) (immediate : Bool) (t : Nat) (rq : Request) :
    (activate op slot immediate t rq s).2.dram = s.dram := by simp [activate]

@[simp] theorem dram_folioActivateBody : (folioActivateBody rq s).2.dram = s.dram := by simp [folioActivateBody]
@[simp] theorem dram_pauseMedia (mask : Nat) : (s.pauseMedia mask).dram = s.dram := by simp [State.pauseMedia]

@[simp] theorem dram_folioActivationDue : (folioActivationDue s).dram = s.dram := by
  unfold folioActivationDue
  split <;> simp

@[simp] theorem dram_endPause : s.endPause.dram = s.dram := by
  unfold State.endPause
  split <;> simp

@[simp] theorem dram_trialConfirm : (trialConfirm s).dram = s.dram := by
  unfold trialConfirm
  split <;> simp

@[simp] theorem dram_folioStatusBody : (folioStatusBody rq s).2.dram = s.dram := by simp [folioStatusBody]
@[simp] theorem dram_folioGoldenBody : (folioGoldenBody rq s).2.dram = s.dram := by simp [folioGoldenBody]

@[simp] theorem dram_folioGoldenDone (flashOk : Bool) : (folioGoldenDone flashOk s).dram = s.dram := by
  unfold folioGoldenDone
  split <;> simp

end MemoryFolio

/-! Start-up. -/

section MemoryStartup

variable (rq : Request) (s : State)

@[simp] theorem dram_retire (s : State) : (State.retire s).dram = s.dram := by
  simp only [State.retire, dram_onLife, each_cons, each_nil, dram_onFolio, dram_journalSlot, dram_journalDone, dram_journalIntent]

@[simp] theorem dram_resetRelease (x : Straps) : (resetRelease x s).dram = s.dram := by simp [resetRelease]
@[simp] theorem dram_toPhase (n : Nat) : (s.toPhase n).dram = s.dram := (rfl)

@[simp] theorem dram_inPhase {f : State → State} (n : Nat) (s : State) (h : (f s).dram = s.dram) : (s.inPhase n f).dram = s.dram := by
  simp [State.inPhase, h]

@[simp] theorem dram_checkKey (n : Nat) (hash : List Byte) : (s.checkKey n hash).dram = s.dram := by simp [State.checkKey]
@[simp] theorem dram_phaseRoot (readings : Nat) : (phaseRoot readings s).dram = s.dram := by simp [phaseRoot]

@[simp] theorem dram_phaseJournal : (phaseJournal s).dram = s.dram := by
  unfold phaseJournal
  split <;> simp

@[simp] theorem dram_passOver (n cause : Nat) : (s.passOver n cause).dram = s.dram := (rfl)

@[simp] theorem dram_skipInvalid (l : List Nat) (s : State) : (State.skipInvalid l s).dram = s.dram := by
  induction l generalizing s with
  | nil => rfl
  | cons n l ih => simp [State.skipInvalid, ih]

@[simp] theorem dram_phaseFolio (tagOk : Bool) : (phaseFolio tagOk s).dram = s.dram := by
  unfold phaseFolio
  dsimp only
  split <;> simp

@[simp] theorem dram_phaseDram (failed : Option Nat) : (phaseDram failed s).dram = s.dram := by
  unfold phaseDram
  split <;> simp

@[simp] theorem dram_phaseLoad (tagOk : Bool) : (phaseLoad tagOk s).dram = s.dram := by simp [phaseLoad]
@[simp] theorem dram_phaseLanes : (phaseLanes s).dram = s.dram := by simp [phaseLanes]
@[simp] theorem dram_phasePorts : (phasePorts s).dram = s.dram := by simp [phasePorts]

@[simp] theorem dram_profileWrite : (profileWrite s).dram = s.dram := by
  unfold profileWrite
  split <;> simp

@[simp] theorem dram_legacyStatusBody : (legacyStatusBody rq s).2.dram = s.dram := by simp [legacyStatusBody]
@[simp] theorem dram_legacyRouteBody : (legacyRouteBody rq s).2.dram = s.dram := by simp [legacyRouteBody]
@[simp] theorem dram_legacyResetBody : (legacyResetBody rq s).2.dram = s.dram := by simp [legacyResetBody]
@[simp] theorem dram_legacyActivateBody : (legacyActivateBody rq s).2.dram = s.dram := by simp [legacyActivateBody]

end MemoryStartup

/-! Voxad links. -/

section MemoryVoxad

variable (rq : Request) (s : State)

@[simp] theorem dram_memberLost (lane : Nat) : (s.memberLost lane).dram = s.dram := by simp [State.memberLost]
@[simp] theorem dram_signalDetected (lane : Nat) : (signalDetected lane s).dram = s.dram := by simp [signalDetected]
@[simp] theorem dram_signalLost (lane : Nat) : (signalLost lane s).dram = s.dram := by simp [signalLost]

@[simp] theorem dram_countLinks (lane : Nat) (f : LinkCtr → LinkCtr) : (s.countLinks lane f).dram = s.dram := by
  simp [State.countLinks]

@[simp] theorem dram_measureSkew (n : Nat) : (s.measureSkew n).dram = s.dram := by simp [State.measureSkew]

@[simp] theorem dram_countCharErrors (lane code disparity : Nat) : (s.countCharErrors lane code disparity).dram = s.dram := by
  simp [State.countCharErrors]

@[simp] theorem dram_blockHeader (lane : Nat) (seen : HeaderSeen) : (blockHeader lane seen s).dram = s.dram := by
  simp [blockHeader]

@[simp] theorem dram_sendTrain (n : Nat) : (s.sendTrain n).dram = s.dram := by simp [State.sendTrain]
@[simp] theorem dram_linkStep (n k : Nat) : (s.linkStep n k).dram = s.dram := (rfl)
@[simp] theorem dram_linkUpNow (n : Nat) : (s.linkUpNow n).dram = s.dram := by simp [State.linkUpNow]

@[simp] theorem dram_trainStep (n theirs : Nat) (ready done : Bool) : (trainStep n theirs ready done s).dram = s.dram := by
  unfold trainStep
  dsimp only
  repeat' split
  all_goals simp

@[simp] theorem dram_trainBlock (n m : Nat) (block : List Byte) : (trainBlock n m block s).dram = s.dram := by simp [trainBlock]
@[simp] theorem dram_stepTimeout (n : Nat) : (stepTimeout n s).dram = s.dram := by simp [stepTimeout]
@[simp] theorem dram_credit (n vc count : Nat) : (credit n vc count s).dram = s.dram := by simp [credit]
@[simp] theorem dram_hold (n mask us : Nat) : (hold n mask us s).dram = s.dram := by simp [hold]
@[simp] theorem dram_linkDownReceived (n reason : Nat) : (linkDownReceived n reason s).dram = s.dram := by simp [linkDownReceived]
@[simp] theorem dram_sendCredit (n vc : Nat) : (s.sendCredit n vc).dram = s.dram := by simp [State.sendCredit]
@[simp] theorem dram_holdRepeat (n : Nat) : (holdRepeat n s).dram = s.dram := by simp [holdRepeat]
@[simp] theorem dram_startConfigured (n : Nat) : (s.startConfigured n).dram = s.dram := by simp [State.startConfigured]
@[simp] theorem dram_linkConfigBody : (linkConfigBody rq s).2.dram = s.dram := by simp [linkConfigBody]
@[simp] theorem dram_linkStatusBody : (linkStatusBody rq s).2.dram = s.dram := by simp [linkStatusBody]
@[simp] theorem dram_linkCountersBody : (linkCountersBody rq s).2.dram = s.dram := by simp [linkCountersBody]
@[simp] theorem dram_linkRetrainBody : (linkRetrainBody rq s).2.dram = s.dram := by simp [linkRetrainBody]

end MemoryVoxad

/-! Snapshots. -/

section MemorySnapshots

variable (s : State)

@[simp] theorem dram_gather {f : Nat → State → List Byte × State} (h : ∀ n s, (f n s).2.dram = s.dram) (l : List Nat) :
    (gather f l s).2.dram = s.dram := by
  simp [gather, h]

@[simp] theorem dram_procSnap (id : Nat) : (s.procSnap id).2.dram = s.dram := by
  unfold State.procSnap
  split <;> simp

@[simp] theorem dram_snapGroup (g : Nat) : (s.snapGroup g).2.dram = s.dram := by
  unfold State.snapGroup
  split <;> simp

@[simp] theorem dram_latch (x : ArmedSnap) : (s.latch x).dram = s.dram := by
  simp [State.latch]

@[simp] theorem dram_snapshotLatched (id : Nat) : (snapshotLatched id s).dram = s.dram := by
  unfold snapshotLatched
  split <;> simp

end MemorySnapshots

/-! What links receive. -/

section MemoryLinkRx

variable (s : State)

@[simp] theorem dram_mapBack (t : Transaction) (inLink : Nat) (pkt : List Byte) : (s.mapBack t inLink pkt).dram = s.dram := by
  simp [State.mapBack]

@[simp] theorem dram_takeAnswer (n : Nat) (t : Transaction) (pkt : List Byte) : (s.takeAnswer n t pkt).dram = s.dram := by
  simp [State.takeAnswer]

@[simp] theorem dram_noticeArrived (pkt : List Byte) : (s.noticeArrived pkt).dram = s.dram := by simp [State.noticeArrived]

@[simp] theorem dram_completionArrived (n : Nat) (pkt : List Byte) : (s.completionArrived n pkt).dram = s.dram := by
  simp [State.completionArrived]

@[simp] theorem dram_mirrorArrived (n : Nat) (pkt : List Byte) : (s.mirrorArrived n pkt).dram = s.dram := by
  simp [State.mirrorArrived]

@[simp] theorem dram_requested (n vc : Nat) (x : TxHead) (pkt : List Byte) : (s.requested n vc x pkt).dram = s.dram := by
  unfold State.requested
  dsimp only
  repeat' split
  all_goals simp

@[simp] theorem dram_trunkBlock (n stream i : Nat) (first last bad : Bool) (data : List Byte) :
    (s.trunkBlock n stream i first last bad data).dram = s.dram := by simp [State.trunkBlock]

@[simp] theorem dram_vc0Block (n stream : Nat) (first last bad : Bool) (data : List Byte) :
    (vc0Block n stream first last bad data s).dram = s.dram := by
  unfold vc0Block
  repeat' split
  all_goals simp

@[simp] theorem dram_vc3Message (n : Nat) (m : List Byte) : (vc3Message n m s).dram = s.dram := by simp [vc3Message]

end MemoryLinkRx

/-! The interpreter. -/

section MemoryInterp

variable (rq : Request) (s : State)

@[simp] theorem dram_echoBody : (echoBody rq s).2.dram = s.dram := (rfl)

@[simp] theorem dram_routeUpdateBody : (routeUpdateBody rq s).2.dram = s.dram := by
  unfold routeUpdateBody
  split <;> simp

@[simp] theorem dram_lockupReportBody : (lockupReportBody rq s).2.dram = s.dram := by simp [lockupReportBody]
@[simp] theorem dram_digestsBody : (digestsBody rq s).2.dram = s.dram := by simp [digestsBody]
@[simp] theorem dram_healthBody : (healthBody rq s).2.dram = s.dram := by simp [healthBody]
@[simp] theorem dram_provisionBody : (provisionBody rq s).2.dram = s.dram := by simp [provisionBody]
@[simp] theorem dram_retrainLinks : (retrainLinks s).dram = s.dram := by simp [retrainLinks]

@[simp] theorem dram_heartbeat : (heartbeat s).dram = s.dram := by
  unfold heartbeat
  dsimp only
  repeat' split
  all_goals simp

end MemoryInterp

/-! Senders. -/

section MemorySenders

variable (s : State)

@[simp] theorem dram_sendCopyOn (n : Nat) (p : TxPath) (pathB : Bool) (due wait : Nat) (frame : List Byte) :
    (s.sendCopyOn n p pathB due wait frame).dram = s.dram := by simp [State.sendCopyOn]

@[simp] theorem dram_launchPacket (n u k due waitA waitB : Nat) : (s.launchPacket n u k due waitA waitB).dram = s.dram := by
  simp [State.launchPacket]

@[simp] theorem dram_packetLaunch (n waitA waitB : Nat) : (packetLaunch n waitA waitB s).dram = s.dram := by
  unfold packetLaunch
  split <;> simp

end MemorySenders

end Sys2Proof.Machine

/-! Every step keeps local memory's canonical form (R276): the operations that write to it, what a device executes by itself, and each
instruction. -/

namespace Sys2Proof.Machine

/-! What writes to memory leaves it in canonical form. -/

section Written

variable {s : State}

/-- Changes that keep the form, made in order over a list, keep it. -/
theorem wf_each {α : Type} {f : α → State → State} (h : ∀ a s, Memory.wf s.dram = true → Memory.wf (f a s).dram = true) (l : List α) :
    ∀ s, Memory.wf s.dram = true → Memory.wf (each l f s).dram = true := by
  induction l with
  | nil => exact fun _ hs => hs
  | cons a l ih => exact fun s hs => ih _ (h a s hs)

theorem wf_ite {c : Prop} [Decidable c] {t u : State} (ht : Memory.wf t.dram = true) (hu : Memory.wf u.dram = true) :
    Memory.wf (if c then t else u).dram = true := by
  split
  · exact ht
  · exact hu

variable (hs : Memory.wf s.dram = true)

include hs

/-- A change that keeps memory keeps its form. -/
theorem wf_kept {t : State} (h : t.dram = s.dram) : Memory.wf t.dram = true := h ▸ hs

theorem wf_receiveBlocks {f : State → State} (h : ∀ s, Memory.wf s.dram = true → Memory.wf (f s).dram = true) (n vc k : Nat) :
    Memory.wf (s.receiveBlocks n vc k f).dram = true := by
  unfold State.receiveBlocks
  split
  · exact h _ (by simpa using hs)
  · simpa using hs

theorem wf_dramWrite (off : Nat) (data : List Byte) : Memory.wf (s.dramWrite off data).dram = true :=
  Memory.wf_writeN data off hs

theorem wf_rtWrite (va : Nat) (data : List Byte) : Memory.wf (s.rtWrite va data).dram = true := by
  refine wf_each (fun r s hs => ?_) _ _ hs
  split
  · exact wf_dramWrite hs _ _
  · exact hs

theorem wf_rtZero (va n : Nat) : Memory.wf (s.rtZero va n).dram = true := by
  refine wf_each (fun r s hs => ?_) _ _ hs
  split
  · exact Memory.wf_clear _ _ hs
  · exact hs

/-! Background DMA (R292 to R298). -/

theorem wf_dmaStore (ch : Nat) (data : List Byte) : Memory.wf (s.dmaStore ch data).dram = true := by
  unfold State.dmaStore
  dsimp only
  split
  · exact hs
  · split
    · simpa using hs
    · split
      · simpa using hs
      · simpa using hs
      · simpa using wf_dramWrite hs _ data

theorem wf_dmaBurst (ch : Nat) (data : List Byte) : Memory.wf (s.dmaBurst ch data).dram = true := by
  unfold State.dmaBurst
  dsimp only
  split
  · exact hs
  · split
    · exact hs
    · split
      · exact wf_dmaStore hs _ _
      · split
        · exact wf_dmaStore hs _ _
        · split
          · simpa using hs
          · exact hs
          · split
            · simpa using hs
            · exact wf_dmaStore (wf_kept hs (dram_dramRead _ _ _)) _ _

theorem wf_dmaServe (link txid : Nat) (m : List Byte) : Memory.wf (s.dmaServe link txid m).dram = true := by
  unfold State.dmaServe
  extract_lets write plate g off n
  refine wf_ite hs ?_
  extract_lets
  refine wf_ite (by simpa using hs) (wf_ite (by simpa using wf_dramWrite hs _ (m.drop 24)) ?_)
  have hread := wf_kept hs (dram_dramRead s (plate * plateBytes + off) n)
  generalize s.dramRead (plate * plateBytes + off) n = read at hread ⊢
  obtain ⟨data, t⟩ := read
  simpa using hread

theorem wf_dmaAnswered (ch : Nat) (m : List Byte) : Memory.wf (s.dmaAnswered ch m).dram = true := by
  unfold State.dmaAnswered
  dsimp only
  split
  · exact hs
  · split
    · simpa using hs
    · split
      · exact wf_dmaStore hs _ _
      · simpa using hs

theorem wf_remoteDma (link : Nat) (b : List Byte) : Memory.wf (s.remoteDma link b).dram = true := by
  unfold State.remoteDma
  dsimp only
  split
  · exact hs
  · split
    · simpa using hs
    · split
      · split
        · simpa using hs
        · split
          · simpa using hs
          · exact wf_dmaAnswered (wf_kept hs (dram_closeTxn _ _ _)) _ _
          · simpa using hs
      · split
        · exact wf_dmaServe hs _ _ _
        · split
          · simpa using hs
          · split
            · exact hs
            · simpa using hs

/-! Audio buffers and delay lines (R221 to R227, R255, R256). -/

theorem wf_capture (domB : Bool) (b : Nat) : Memory.wf (s.capture domB b).dram = true := by
  refine wf_each (fun e s hs => ?_) _ _ hs
  dsimp only
  split
  · exact hs
  · split
    · simpa using hs
    · rw [dram_onAudio]
      exact wf_each (fun i s hs => wf_rtWrite hs _ _) _ _ hs

theorem wf_audioTick (domB : Bool) (arrivals : List ChannelBlock) : Memory.wf (audioTick domB arrivals s).dram = true := by
  unfold audioTick
  dsimp only
  refine wf_ite hs ?_
  rw [dram_switchRoutes]
  exact wf_capture (wf_kept hs (by simp)) _ _

theorem wf_lineSend (n s0 : Nat) (l : DelayLine) (xs : List Int) : Memory.wf (s.lineSend n s0 l xs).dram = true := by
  unfold State.lineSend
  dsimp only
  split
  · simpa using hs
  · exact wf_each (fun x s hs => wf_rtWrite hs _ _) _ _ hs

theorem wf_runPlacement (id e s0 : Nat) (q : Process) (x : Placement) : Memory.wf (s.runPlacement id e s0 q x).dram = true := by
  unfold State.runPlacement
  dsimp only
  refine wf_ite (wf_each (fun l s hs => wf_lineSend hs _ _ _ _) _ _ ?_) ?_
  all_goals
    refine wf_kept hs ?_
    simp only [dram_ite, dram_raise, dram_onProc, ite_self]
    split <;> simp

theorem wf_tickPlacement (id e t epoch : Nat) : Memory.wf (s.tickPlacement id e t epoch).dram = true := by
  unfold State.tickPlacement
  split
  · exact hs
  · split
    · exact hs
    · refine wf_ite hs (wf_ite (by simpa using hs) ?_)
      extract_lets rest s1 q1 s2
      have hs1 : Memory.wf s1.dram = true := wf_kept hs (by unfold s1; split <;> simp)
      have hs2 : Memory.wf s2.dram = true := wf_kept hs1 (dram_seeEpoch _ _ _ _ _)
      split
      · exact hs1
      · dsimp only
        refine wf_ite (wf_runPlacement hs2 _ _ _ _ _) (wf_ite ?_ (by simpa using hs2))
        exact wf_each (fun l s hs => wf_lineSend hs _ _ _ _) _ _ (by simpa using hs2)

theorem wf_engineTick (e : Nat) : Memory.wf (engineTick e s).dram = true := by
  unfold engineTick
  dsimp only
  refine wf_ite hs ?_
  exact wf_each (fun q s hs => wf_tickPlacement hs _ _ _ _) _ _ hs

/-! The twins' copy (R337). -/

theorem wf_applyCopy (p : List Byte) : Memory.wf (s.applyCopy p).2.dram = true := by
  by_cases hk : u8 p 0 = 7
  · have hwrite := wf_dramWrite hs (u32 p 4 * plateBytes + u32 p 8) (p.drop 12)
    by_cases hstandby : s.twin.role = .standby
    · simpa [State.applyCopy, hk, hstandby] using hwrite
    · simpa [State.applyCopy, hk, hstandby] using hs
  · exact wf_kept hs (by simp [State.applyCopy, hk])

/-! What links bring (R150, R154, R177 to R183, R293). -/

theorem wf_posted (n : Nat) (rq : Request) (pkt : List Byte) : Memory.wf (s.posted n rq pkt).dram = true := by
  unfold State.posted
  dsimp only
  refine wf_ite (by simpa using hs) (wf_ite (by simpa using hs) (wf_ite (by simpa using hs) (wf_ite (by simpa using hs) ?_)))
  refine wf_ite (wf_ite (wf_applyCopy hs _) hs) (wf_ite (by simpa using hs) (wf_ite (by simpa using hs) ?_))
  simpa using hs

theorem wf_linkResponse (n vc : Nat) (b : List Byte) : Memory.wf (linkResponse n vc b s).dram = true := by
  unfold linkResponse
  dsimp only
  refine wf_ite hs (wf_ite (by simpa using hs) (wf_ite (wf_remoteDma hs _ _) (wf_ite hs ?_)))
  split
  · simpa using hs
  · split <;> simpa using hs

theorem wf_linkPacket (n vc : Nat) (b : List Byte) : Memory.wf (linkPacket n vc b s).dram = true := by
  unfold linkPacket
  dsimp only
  refine wf_ite hs (wf_ite (by simpa using hs) (wf_ite (wf_remoteDma hs _ _) (wf_ite (wf_linkResponse hs _ _ _) ?_)))
  refine wf_ite (by simpa using hs) (wf_ite (by simpa using hs) (wf_ite hs (wf_ite (wf_posted hs _ _ _) ?_)))
  simpa using hs

theorem wf_packetBlock (n vc : Nat) (first last bad : Bool) (data : List Byte) :
    Memory.wf (packetBlock n vc first last bad data s).dram = true := by
  unfold packetBlock
  dsimp only
  exact wf_ite (wf_linkPacket (by simpa using hs) _ _ _) (by simpa using hs)

theorem wf_vcBlock (n vc : Nat) (block : List Byte) (err : BlockError) : Memory.wf (vcBlock n vc block err s).dram = true := by
  unfold vcBlock
  dsimp only
  refine wf_ite hs (wf_ite (by simpa using hs) (wf_ite (by simpa using hs) (wf_ite (by simpa using hs) ?_)))
  exact wf_packetBlock (wf_kept hs (by simp)) _ _ _ _ _ _

/-! Resets (R417 to R419): memory is lost with what it held. -/

omit hs in
theorem wf_resetBy (cause : Nat) : Memory.wf (s.resetBy cause).dram = true := rfl

end Written

/-! Commands. -/

/-- A meaning that keeps memory's canonical form. -/
def KeepsForm (body : Body) : Prop := ∀ rq s, Memory.wf s.dram = true → Memory.wf (body rq s).2.dram = true

theorem wf_snd_ite {c : Prop} [Decidable c] {r q : Res × State} (hr : Memory.wf r.2.dram = true) (hq : Memory.wf q.2.dram = true) :
    Memory.wf (if c then r else q).2.dram = true := by
  rw [snd_ite]
  exact wf_ite hr hq

theorem KeepsForm.of_kept {body : Body} (h : ∀ rq s, (body rq s).2.dram = s.dram) : KeepsForm body :=
  fun rq s hs => wf_kept hs (h rq s)

theorem delaySetBody_keepsForm : KeepsForm delaySetBody := by
  intro rq s hs
  have hzero := wf_rtZero hs (u64 rq.payload 16) (4 * u32 rq.payload 12)
  unfold delaySetBody
  refine wf_snd_ite hs (wf_snd_ite hs (wf_snd_ite hs ?_))
  split
  · exact hs
  · exact wf_snd_ite hs (wf_snd_ite hs hzero)

theorem bodyTable_keepsForm : ∀ e ∈ bodyTable, KeepsForm e.2 := by
  simp only [bodyTable, List.forall_mem_append, class0Bodies, class1Bodies, class2Bodies, class3Bodies, class4Bodies, class5Bodies,
    class6Bodies, class7Bodies, class8Bodies, class9Bodies, classABodies, classBBodies, classCBodies, classDBodies, classEBodies,
    classFBodies, List.forall_mem_cons, List.not_mem_nil, false_implies, implies_true, and_true, delaySetBody_keepsForm, true_and]
  and_intros
  all_goals exact .of_kept (by simp)

theorem settingBody_keepsForm {op : Nat} {body : Body} (h : settingBody op = some body) : KeepsForm body := by
  obtain ⟨e, he, rfl⟩ := Option.map_eq_some_iff.mp h
  exact bodyTable_keepsForm e (List.mem_of_find?_eq_some he)

section Commands

variable {s : State} (hs : Memory.wf s.dram = true)

include hs

theorem wf_applySetting (p : List Byte) : Memory.wf (applySetting p s).dram = true := by
  unfold applySetting
  dsimp only
  split
  · exact hs
  · next body hbody =>
    rw [dram_noteSetting]
    exact settingBody_keepsForm hbody _ _ hs

theorem wf_applyKept (e : Nat × List Byte) : Memory.wf (applyKept e s).dram = true := by
  unfold applyKept
  split
  · exact hs
  · next body hbody => exact settingBody_keepsForm hbody _ _ hs

omit hs in
theorem stateCopyBody_keepsForm : KeepsForm stateCopyBody := by
  intro rq s hs
  unfold stateCopyBody
  split
  · exact hs
  · split
    · split
      · exact wf_applySetting hs _
      · exact hs
    · exact wf_applyCopy hs _

omit hs in
theorem bodyOf_keepsForm {op : Nat} {body : Body} (h : bodyOf op = some body) : KeepsForm body := by
  unfold bodyOf at h
  split at h
  · obtain rfl := Option.some.inj h
    exact stateCopyBody_keepsForm
  · exact settingBody_keepsForm h

theorem wf_runCommand {body : Body} (hbody : KeepsForm body) (op : Nat) (rq : Request) :
    Memory.wf (runCommand op body rq s).dram = true := by
  unfold runCommand
  dsimp only
  rw [dram_trackGroups, dram_answer, dram_noteSetting]
  split
  · exact hs
  · exact hbody rq s hs

theorem wf_command {body : Body} (hbody : KeepsForm body) (op : Nat) (rq : Request) :
    Memory.wf (command op body rq s).dram = true := by
  unfold command
  dsimp only
  refine wf_ite hs (wf_ite (by simpa using hs) (wf_ite (by simpa using hs) ?_))
  split
  · simpa using hs
  · split <;> simpa using hs
  · simpa using hs
  · exact wf_ite (wf_runCommand (wf_kept hs (by simp)) hbody _ _) (by simpa using hs)

/-! What the device executes by itself (R39, R42, R51, R337, R434). -/

theorem wf_runTimed (t : Timed) : Memory.wf (s.runTimed t).dram = true := by
  unfold State.runTimed
  dsimp only
  split
  · exact hs
  · next body hbody =>
    refine wf_ite (wf_runCommand hs (bodyOf_keepsForm hbody) _ _) ?_
    rw [dram_trackGroups, dram_ite, dram_complete, ite_self, dram_noteSetting]
    exact wf_snd_ite hs (bodyOf_keepsForm hbody _ _ hs)

omit hs in
theorem wf_runDue (k : Nat) : ∀ s : State, Memory.wf s.dram = true → Memory.wf (State.runDue k s).dram = true := by
  induction k with
  | zero => exact fun _ hs => hs
  | succ k ih =>
    intro s hs
    unfold State.runDue
    refine wf_ite hs ?_
    split
    · exact hs
    · exact wf_ite (ih _ (wf_runTimed (by simpa using hs) _)) hs

theorem wf_timedDue : Memory.wf (timedDue s).dram = true := wf_runDue _ _ hs

theorem wf_idle : Memory.wf (idle s).dram = true := by
  unfold idle
  refine wf_ite hs ?_
  split
  · exact hs
  · split
    · exact hs
    · dsimp only
      split
      · exact hs
      · next body hbody => exact wf_runCommand (by simpa using hs) (bodyOf_keepsForm hbody) _ _

theorem wf_phaseRestore : Memory.wf (phaseRestore s).dram = true := by
  unfold phaseRestore
  rw [dram_toPhase, dram_onBoot, dram_restoreFormes]
  unfold restoreProfile
  refine wf_ite ?_ hs
  dsimp only
  rw [dram_onTwin, dram_onBoot]
  exact wf_each (fun e s hs => wf_applyKept hs e) _ _ hs

end Commands

/-! Instructions. -/

section Instructions

variable {s : State} (hs : Memory.wf s.dram = true)

include hs

theorem wf_plateZeroed (plate : Nat) : ∃ t, exec (.plateZeroed plate) s = .next t ∧ Memory.wf t.dram = true :=
  ⟨_, rfl, wf_ite (Memory.wf_clear _ _ hs) hs⟩

theorem wf_dmaBurstDone (channel : Nat) (seen : BurstSeen) :
    ∃ t, exec (.dmaBurstDone channel seen) s = .next t ∧ Memory.wf t.dram = true := by
  cases seen with
  | moved data => exact ⟨_, rfl, wf_dmaBurst hs _ _⟩
  | faulted cause va => exact ⟨_, rfl, by simpa using hs⟩

theorem wf_fuseBurnDone : ∃ t, exec .fuseBurnDone s = .next t ∧ Memory.wf t.dram = true := by
  refine ⟨_, rfl, ?_⟩
  split
  · exact hs
  · dsimp only
    exact wf_resetBy _

theorem wf_legacyResetDue (at_ : Nat) : ∃ t, exec (.legacyResetDue at_) s = .next t ∧ Memory.wf t.dram = true := by
  refine ⟨_, rfl, ?_⟩
  split
  · exact wf_ite (wf_resetBy _) hs
  · exact hs

theorem wf_undefinedOpcodeRequest (op : Nat) (rq : Request) :
    ∃ t, exec (.undefinedOpcodeRequest op rq) s = .next t ∧ Memory.wf t.dram = true := by
  refine ⟨_, rfl, wf_command hs ?_ _ _⟩
  cases hbody : bodyOf op with
  | none => exact fun _ _ hs => hs
  | some body => exact bodyOf_keepsForm hbody

/-- Every instruction keeps memory's canonical form. Those that write to memory, execute other commands or reset the device are named;
every other one leaves memory as it was, or is a command whose meaning does. -/
theorem exec_keepsForm (i : Instr) : ∃ t, exec i s = .next t ∧ Memory.wf t.dram = true := by
  cases i
  case plateZeroed plate => exact wf_plateZeroed hs plate
  case dmaBurstDone channel seen => exact wf_dmaBurstDone hs channel seen
  case fuseBurnDone => exact wf_fuseBurnDone hs
  case legacyResetDue at_ => exact wf_legacyResetDue hs at_
  case undefinedOpcodeRequest op rq => exact wf_undefinedOpcodeRequest hs op rq
  case audioTick domB at_ arrivals => exact ⟨_, rfl, wf_audioTick (by simpa using hs) _ _⟩
  case engineTick engine at_ => exact ⟨_, rfl, wf_engineTick (by simpa using hs) _⟩
  case delaySet rq => exact ⟨_, rfl, wf_command hs delaySetBody_keepsForm _ _⟩
  case stateCopy rq => exact ⟨_, rfl, wf_command hs stateCopyBody_keepsForm _ _⟩
  case timedCommandDue at_ => exact ⟨_, rfl, wf_timedDue (by simpa using hs)⟩
  case controlPauseEnd at_ => exact ⟨_, rfl, wf_ite (wf_timedDue (by simpa using hs)) (by simpa using hs)⟩
  case phaseRestore at_ => exact ⟨_, rfl, wf_ite (wf_phaseRestore (by simpa using hs)) (by simpa using hs)⟩
  case vcBlockReceived link vc block err at_ => exact ⟨_, rfl, wf_vcBlock (by simpa using hs) _ _ _ _⟩
  case linkPacketReceived link vc bytes => exact ⟨_, rfl, wf_receiveBlocks hs (fun _ hs => wf_linkPacket hs _ _ _) _ _ _⟩
  case linkResponse link vc bytes => exact ⟨_, rfl, wf_receiveBlocks hs (fun _ hs => wf_linkResponse hs _ _ _) _ _ _⟩
  case readReq link message => exact ⟨_, rfl, wf_receiveBlocks hs (fun _ hs => wf_remoteDma hs _ _) _ _ _⟩
  case readData link message => exact ⟨_, rfl, wf_receiveBlocks hs (fun _ hs => wf_remoteDma hs _ _) _ _ _⟩
  case writeReq link message => exact ⟨_, rfl, wf_receiveBlocks hs (fun _ hs => wf_remoteDma hs _ _) _ _ _⟩
  case writeAck link message => exact ⟨_, rfl, wf_receiveBlocks hs (fun _ hs => wf_remoteDma hs _ _) _ _ _⟩
  case powerOn => exact ⟨_, rfl, wf_resetBy (s := s) 1⟩
  case powerLoss => exact ⟨_, rfl, wf_resetBy (s := s) 1⟩
  case pwrgoodFall => exact ⟨_, rfl, wf_ite hs (wf_resetBy (s := s) 3)⟩
  case resetNLow => exact ⟨_, rfl, wf_ite hs (wf_resetBy (s := s) 4)⟩
  case kaBrownout => exact ⟨_, rfl, wf_ite (wf_resetBy (s := s) 2) hs⟩
  case join rq =>
    exact ⟨_, rfl, wf_ite (by simpa using hs) (wf_command (by simpa using hs) (.of_kept dram_joinBody) _ _)⟩
  case keepRecordWrite | laneTableCommitDone | laneTableCommitTimeout | routeUpdate | lockupReport | transactionTimeout |
      sysDecisionTime | sysRunTimeout | dmaJobDone | gainApply =>
    refine ⟨_, rfl, wf_kept hs ?_⟩
    split <;> simp
  case routeWaitTimeout =>
    refine ⟨_, rfl, wf_kept hs ?_⟩
    split
    · rfl
    · dsimp only
      split <;> simp
  all_goals exact ⟨_, rfl, by simp [hs, wf_command hs, KeepsForm.of_kept]⟩

end Instructions

/-- Settles O60: an empty queue leaves the device idle, and every instruction at the front keeps the form. -/
theorem memoryKeepsItsForm : Obligations.MemoryKeepsItsForm := by
  unfold Obligations.MemoryKeepsItsForm
  intro s t hs hstep
  unfold step at hstep
  split at hstep
  · obtain rfl := Host.Outcome.next.inj hstep
    exact wf_idle hs
  · next c r hpending =>
    have hrest : Memory.wf ({ s with pending := r } : State).dram = true := hs
    obtain ⟨u, hu, hwf⟩ := exec_keepsForm hrest c
    obtain rfl := Host.Outcome.next.inj (hu.symm.trans hstep)
    exact hwf

end Sys2Proof.Machine
